-- ==== Sys2Proof/Word.lean ====
section
/-! DEFINITION. The byte of the two serial lines, and the named places of the machine (channels, lines,
valve sections, coils) with the records that hold one value for each place. Plain data; no rule of the
manual is decided here. -/

namespace Sys2Proof

/-- One byte of the cab line or of the tip link. -/
abbrev Byte := BitVec 8

/-- The nine analog channels, in the order of R3 and R9. -/
inductive Channel where
  | slew | boom | jib | tele | pitch | roll | pHead | pRod | grip
deriving DecidableEq, Repr

/-- One value for each analog channel. -/
structure PerChannel (α : Type) where
  slew : α
  boom : α
  jib : α
  tele : α
  pitch : α
  roll : α
  pHead : α
  pRod : α
  grip : α
deriving DecidableEq, Repr

def PerChannel.get {α : Type} (t : PerChannel α) : Channel → α
  | .slew => t.slew
  | .boom => t.boom
  | .jib => t.jib
  | .tele => t.tele
  | .pitch => t.pitch
  | .roll => t.roll
  | .pHead => t.pHead
  | .pRod => t.pRod
  | .grip => t.grip

def PerChannel.set {α : Type} (t : PerChannel α) (c : Channel) (x : α) : PerChannel α :=
  match c with
  | .slew => { t with slew := x }
  | .boom => { t with boom := x }
  | .jib => { t with jib := x }
  | .tele => { t with tele := x }
  | .pitch => { t with pitch := x }
  | .roll => { t with roll := x }
  | .pHead => { t with pHead := x }
  | .pRod => { t with pRod := x }
  | .grip => { t with grip := x }

/-- Every channel's value made from its name and the value there. -/
def PerChannel.map {α β : Type} (f : Channel → α → β) (t : PerChannel α) : PerChannel β where
  slew := f .slew t.slew
  boom := f .boom t.boom
  jib := f .jib t.jib
  tele := f .tele t.tele
  pitch := f .pitch t.pitch
  roll := f .roll t.roll
  pHead := f .pHead t.pHead
  pRod := f .pRod t.pRod
  grip := f .grip t.grip

/-- The same value for every channel. -/
def PerChannel.all {α : Type} (x : α) : PerChannel α := ⟨x, x, x, x, x, x, x, x, x⟩

def PerChannel.toList {α : Type} (t : PerChannel α) : List α :=
  [t.slew, t.boom, t.jib, t.tele, t.pitch, t.roll, t.pHead, t.pRod, t.grip]

/-- The channels in the order of R9. -/
def Channel.list : List Channel :=
  [.slew, .boom, .jib, .tele, .pitch, .roll, .pHead, .pRod, .grip]

/-- The four discrete lines (R12). -/
inductive Line where
  | dl0 | dl1 | dl2 | dl3
deriving DecidableEq, Repr

/-- One value for each discrete line. -/
structure PerLine (α : Type) where
  dl0 : α
  dl1 : α
  dl2 : α
  dl3 : α
deriving DecidableEq, Repr

def PerLine.get {α : Type} (t : PerLine α) : Line → α
  | .dl0 => t.dl0
  | .dl1 => t.dl1
  | .dl2 => t.dl2
  | .dl3 => t.dl3

def PerLine.set {α : Type} (t : PerLine α) (l : Line) (x : α) : PerLine α :=
  match l with
  | .dl0 => { t with dl0 := x }
  | .dl1 => { t with dl1 := x }
  | .dl2 => { t with dl2 := x }
  | .dl3 => { t with dl3 := x }

def PerLine.map {α β : Type} (f : Line → α → β) (t : PerLine α) : PerLine β where
  dl0 := f .dl0 t.dl0
  dl1 := f .dl1 t.dl1
  dl2 := f .dl2 t.dl2
  dl3 := f .dl3 t.dl3

def PerLine.all {α : Type} (x : α) : PerLine α := ⟨x, x, x, x⟩

def PerLine.toList {α : Type} (t : PerLine α) : List α := [t.dl0, t.dl1, t.dl2, t.dl3]

def Line.list : List Line := [.dl0, .dl1, .dl2, .dl3]

/-- The six valve sections, in the order of R166. -/
inductive Section where
  | slew | boom | jib | tele | rotate | grapple
deriving DecidableEq, Repr

/-- One value for each valve section. -/
structure PerSection (α : Type) where
  slew : α
  boom : α
  jib : α
  tele : α
  rotate : α
  grapple : α
deriving DecidableEq, Repr

def PerSection.get {α : Type} (t : PerSection α) : Section → α
  | .slew => t.slew
  | .boom => t.boom
  | .jib => t.jib
  | .tele => t.tele
  | .rotate => t.rotate
  | .grapple => t.grapple

def PerSection.set {α : Type} (t : PerSection α) (v : Section) (x : α) : PerSection α :=
  match v with
  | .slew => { t with slew := x }
  | .boom => { t with boom := x }
  | .jib => { t with jib := x }
  | .tele => { t with tele := x }
  | .rotate => { t with rotate := x }
  | .grapple => { t with grapple := x }

def PerSection.map {α β : Type} (f : Section → α → β) (t : PerSection α) : PerSection β where
  slew := f .slew t.slew
  boom := f .boom t.boom
  jib := f .jib t.jib
  tele := f .tele t.tele
  rotate := f .rotate t.rotate
  grapple := f .grapple t.grapple

def PerSection.all {α : Type} (x : α) : PerSection α := ⟨x, x, x, x, x, x⟩

def PerSection.toList {α : Type} (t : PerSection α) : List α :=
  [t.slew, t.boom, t.jib, t.tele, t.rotate, t.grapple]

def Section.list : List Section := [.slew, .boom, .jib, .tele, .rotate, .grapple]

/-- The two coils of a valve section: A drives its positive direction, B its negative one (R152). -/
inductive Coil where
  | a | b
deriving DecidableEq, Repr

/-- A level of a discrete line. -/
inductive Level where
  | low | high
deriving DecidableEq, Repr

end Sys2Proof
end

