-- ==== Sys2Proof/Syntax.lean ====
section
/-! DEFINITION. The commands of the module: one constructor of `Instr` for each row of
spec/opcode_table.json. A command is one whole and indivisible step of spec/95_what_each_step_holds.md:
a reset, a sample, a received frame, the expiry of a timer, or a request taken from the cab line.

Operands. A sample or a received tip frame carries its fields at the width of the line that brings it.
A request carries its fields as the frame brings them, BEFORE the request's own rule judges them: a
number may lie outside its accepted range, and an enumeration is the number of its value (R203), which
may name no value. The request's meaning judges them. -/

namespace Sys2Proof

/-- A raw code of an analog channel, 0..4,095 (R2). -/
abbrev RawCode := Fin 4096

/-- The measured currents of a section's two coils, in mA (R164). -/
structure CoilPair where
  a : Nat
  b : Nat
deriving DecidableEq, Repr

/-- The coil driver's samples for one drive update. -/
abbrev CoilSamples := PerSection CoilPair

/-- The order of the four tasks of an acquisition frame that the manual leaves open, chosen by whoever
sends the frame: every order is allowed (R93, R97, R99, R139, R146).
`gripFirst`: LTR judges the frame's grip pressure before WEN takes the frame's cylinder sample.
`markAt`: how many of those two come before LOG takes the frame's DL3 mark.
`evaluationAt`: how many of those three come before MLM makes the frame's own evaluation. -/
structure FrameOrder where
  gripFirst : Bool
  markAt : Fin 3
  evaluationAt : Fin 4
deriving DecidableEq, Repr

/-- WEN first, then LTR, then LOG, then the frame's evaluation. -/
def FrameOrder.standard : FrameOrder := ⟨false, 2, 3⟩

/-- The six settings of an analog channel (R4). -/
structure ChannelSettings where
  rawLo : Nat
  valueLo : Int
  rawHi : Nat
  valueHi : Int
  bandLo : Nat
  bandHi : Nat
deriving DecidableEq, Repr

/-- The four geometry settings, in mm (R42). -/
structure GeometrySettings where
  l1 : Nat
  l2 : Nat
  h0 : Nat
  eMax : Nat
deriving DecidableEq, Repr

/-- The seven zone settings: angles in 0.1°, lengths in mm (R50). -/
structure ZoneSettings where
  bunkFrom : Nat
  bunkTo : Nat
  bunkMin : Nat
  bunkMax : Nat
  cabFrom : Nat
  cabTo : Nat
  cabRadius : Nat
deriving DecidableEq, Repr

/-- The eight fields of SET WEIGH as carried (R81); `autoZero` is the number of its value. -/
structure WeighFields where
  swing : Nat
  jitter : Nat
  windowSize : Nat
  spread : Nat
  minLift : Nat
  period : Nat
  autoZero : Nat
  tracking : Nat
deriving DecidableEq, Repr

/-- The five values of SET CALIBRATION (R82). -/
structure CalibrationFields where
  tare : Nat
  kt : Int
  tref : Int
  areaHead : Nat
  areaRod : Nat
deriving DecidableEq, Repr

/-- The eight settings of the lift tracker (R105): pressures in kPa, times in ms, masses in 0.1 kg. -/
structure LiftSettings where
  gripThreshold : Nat
  releaseThreshold : Nat
  gripTime : Nat
  releaseTime : Nat
  liftOffThreshold : Nat
  dropThreshold : Nat
  liftOffTime : Nat
  dropTime : Nat
deriving DecidableEq, Repr

/-- The target record as SET TARGET carries it (R120); the enables are numbers of on and off. -/
structure TargetFields where
  totalEnable : Nat
  liftsEnable : Nat
  assortmentEnable : Nat
  total : Nat
  lifts : Nat
  index : Nat
  mass : Nat
deriving DecidableEq, Repr

/-- The five capture enables as SET LOG carries them (R143): numbers of on and off. -/
structure EnableFields where
  tallied : Nat
  untallied : Nat
  dropped : Nat
  mark : Nat
  system : Nat
deriving DecidableEq, Repr

/-- The three limiter settings (R160). -/
structure LimiterSettings where
  kd : Nat
  dMin : Nat
  warn : Nat
deriving DecidableEq, Repr

/-- The horn tone settings (R161). -/
structure HornSettings where
  p : Nat
  n : Nat
deriving DecidableEq, Repr

/-- The five settings of a valve section (R165): currents in mA, the rest in ‰. -/
structure SectionSettings where
  iMin : Nat
  iMax : Nat
  deadband : Nat
  up : Nat
  down : Nat
deriving DecidableEq, Repr

/-- The ten fields of PROFILE SET as carried (R188); `fallback` is the number of its value. -/
structure ProfileFields where
  mBase : Nat
  tilt : Nat
  fallback : Nat
  payload : Nat
  caps : PerSection Nat
deriving DecidableEq, Repr

/-- A command: one constructor for each row of spec/opcode_table.json. -/
inductive Instr where
  /-- Application of supply; the samples are those of VDR's first drive update (R191, R180). -/
  | powerOn (samples : CoilSamples)
  /-- The RESTART request (R200). -/
  | restart
  /-- The last byte of the RESTART reply has been sent (R200). -/
  | restartPerformed (samples : CoilSamples)
  /-- One acquisition frame's nine codes and four sampled levels (R2). -/
  | acquisitionFrame (codes : PerChannel RawCode) (levels : PerLine Level) (order : FrameOrder)
  /-- One drive update with the measured currents of the period just ended (R169). -/
  | driveUpdate (samples : CoilSamples)
  /-- The current of one coil exceeds 2,200 mA (R175). -/
  | coilShort (valve : Section) (coil : Coil)
  | hail
  | hailReply
  | probeEcho (rate : Byte) (number : Byte)
  /-- An intact DATA frame's fields as R203 lays them out. -/
  | dataFrame (sequence : Byte) (force : BitVec 16) (swing : BitVec 16) (temperature : Byte) (status : Byte)
  | damagedTipFrame
  | hailTimerExpiry
  | probeResend
  | probeWindowExpiry
  | goResend
  | startWindowExpiry
  | lossTimerExpiry
  | backOffExpiry
  | noiseIntervalExpiry
  | reportTimerExpiry
  | compensationUpdate
  | leverTimerExpiry
  | liveReportTimerExpiry
  | hornPatternStep
  | lampFlashStep
  | byteGapExpiry
  /-- A byte arrives on the cab line with a stop-bit error (R193). -/
  | cabFrameDiscarded
  | storeWritePart
  /-- A frame whose KIND names no request (R194). -/
  | unknownKind (kind : Byte)
  | setChannel (index : Nat) (settings : ChannelSettings)
  | readChannel (index : Nat)
  | setLine (line : Nat) (mode : Nat) (edge : Nat)
  | writeLines (mask : Nat) (levels : Nat)
  | readLines
  | setTipLink (errorMode : Nat) (stuckRule : Nat)
  | linkRestart
  | readTipLink
  | reportTipErrors
  | setGeometry (settings : GeometrySettings)
  | setZones (settings : ZoneSettings)
  | readGeometry
  | setWeigh (fields : WeighFields)
  | setCalibration (fields : CalibrationFields)
  | readWeigh
  | calZero
  | calSpan (mass : Nat)
  | calCylEmpty
  | calCylLoad (mass : Nat)
  | calAbort
  | setLift (settings : LiftSettings)
  | readLift
  | selectAssortment (index : Nat)
  | defineAssortment (index : Nat) (label : List Byte)
  | holdTally
  | releaseTally
  | setTarget (fields : TargetFields)
  | closeLoad
  | readLoad
  | readAssortment (index : Nat)
  | readLoadHistory (position : Nat) (offset : Nat)
  | setClock (seconds : BitVec 32)
  | readClock
  | mark
  | setLog (enables : EnableFields)
  | readLog (count : Nat)
  | readLogStatus
  | setLimiter (settings : LimiterSettings)
  | setHorn (settings : HornSettings)
  | readLimiter
  /-- A LEVER record's demands; a record of the right length carries six (R166). -/
  | lever (demands : List Int)
  | setSection (valve : Nat) (settings : SectionSettings)
  | readSection (valve : Nat)
  | saveSettings
  | profileSet (mask : Nat) (fields : ProfileFields)
  | profileRestore
  | profileFreeze
  | profileIdentify
  | identify
  | readStore
  | clearConditions (mask : BitVec 32)
  | readConditions
  /-- SET CAB LINE carries a period and 30 notice modes, as numbers of their values (R199). -/
  | setCabLine (period : Nat) (modes : List Nat)
  | cabLineByteReceived (byte : Byte)
  | frameTransmitted
  | lossOfSupply
  | clockMillisecond
  | hornHalfPeriod
deriving DecidableEq, Repr

end Sys2Proof
end

