-- ==== Sys2Proof/Config.lean ====
section
/-! DEFINITION. What the maker fixes in each module and the manual does not state: the hardware revision
and the serial number that IDENTIFY reports (R190). They are constants without a body, so no statement
can rest on their values (notes/assumptions/3.md). -/

namespace Sys2Proof

/-- DESIGN CHOICE (log 3). One less than the hardware revision 1..255 of R190. -/
opaque Config.revisionLessOne : Fin 255

/-- DESIGN CHOICE (log 3). One less than the serial number 1..4,294,967,295 of R190. -/
opaque Config.serialLessOne : Fin 4294967295

end Sys2Proof
end

