-- ==== Sys2Proof/Machine/State.lean ====
section
/-! DEFINITION. The state of the module, block by block as 00_scope.md names them, as plain data; the
reasons a step can stop; and the state after reset. -/

namespace Sys2Proof.Machine

/-- The reasons a step can stop with a fault. The manual gives every command its effect in every state,
so no command faults and the type is empty (log 1). Safe: nothing raises it. -/
inductive Fault where
deriving DecidableEq, Repr

/-- The reasons a step can be refused. -/
inductive Refusal where
  /-- Raised by the dispatch alone, for a command whose meaning is not written yet. Safe: the machine
  stops where the module would go on. No command is refused in this model. -/
  | notModelled (mnemonic : String)
deriving DecidableEq, Repr

/-! ## Names of values -/

/-- A reading of the module clock (R130): seconds that wrap at 2^32, and milliseconds 0..999. -/
structure Stamp where
  sec : BitVec 32
  ms : Fin 1000
deriving DecidableEq, Repr

/-- A block's own timer: the milliseconds it still has to run, or `none` when it does not run. The
timers keep their own schedules and do not read the module clock (R132). -/
abbrev Timer := Option Nat

/-- The two reset kinds of 00_scope.md. -/
inductive ResetKind where
  | powerOn | restart
deriving DecidableEq, Repr

/-- Reply statuses (R194). -/
inductive Status where
  | ok | accepted | badKind | badLength | badValue | busy | state | frozen
deriving DecidableEq, Repr

/-- Channel status (R6). -/
inductive ChannelStatus where
  | good | held | none
deriving DecidableEq, Repr

/-- Discrete line modes (R12). -/
inductive LineMode where
  | input | inputPullup | output | function
deriving DecidableEq, Repr

/-- Edge settings (R12). -/
inductive Edge where
  | falling | rising | both
deriving DecidableEq, Repr

/-- Tip link states (R20). -/
inductive LinkState where
  | hailing | probing | starting | up | failed
deriving DecidableEq, Repr

/-- Error modes of the tip link (R37). -/
inductive ErrorMode where
  | auto | manual
deriving DecidableEq, Repr

/-- Stuck rules (R32). -/
inductive StuckRule where
  | strict | lenient
deriving DecidableEq, Repr

/-- The frames that pass on the tip link (R19, R203). -/
inductive TipFrame where
  | hail
  | hailReply
  | probe (rate number : Byte)
  | probeEcho (rate number : Byte)
  | go (rate : Byte)
  | data (sequence : Byte) (force : BitVec 16) (swing : BitVec 16) (temperature : Byte) (status : Byte)
deriving DecidableEq, Repr

/-- Working zones (R51). -/
inductive Zone where
  | cab | bunk | ground | unknown
deriving DecidableEq, Repr

/-- Sources of samples (R65). -/
inductive Source where
  | none | tip | cylinder
deriving DecidableEq, Repr

/-- Qualities of a weighing result, best first (R95). -/
inductive Quality where
  | good | rough | partialWindow | estimate | unweighed
deriving DecidableEq, Repr

/-- Lift states (R87). -/
inductive LiftState where
  | idle | gripped | lifted | weighed
deriving DecidableEq, Repr

/-- Outcomes of a lift (R85). -/
inductive LiftOutcome where
  | loaded | unloaded | restacked | moved | unplaced | empty | dropped
deriving DecidableEq, Repr

/-- Kinds of calibration capture (R74). -/
inductive CaptureKind where
  | zero | span | cylEmpty | cylLoad
deriving DecidableEq, Repr

/-- Reasons a capture fails (R74). -/
inductive CaptureReason where
  | aborted | smallSpan | range | bandMoved | noEmpty
deriving DecidableEq, Repr

/-- Names of calibration values in CAL entries (R137). -/
inductive CalName where
  | z | s | t | kt | tref | ah | ar | fe | g
deriving DecidableEq, Repr

/-- Reasons a load closes (R123). -/
inductive CloseReason where
  | command | emptied
deriving DecidableEq, Repr

/-- Limiter stages (R151). -/
inductive Stage where
  | free | derate | hold
deriving DecidableEq, Repr

/-- Bases of the net value used for the moment (R147). -/
inductive Basis where
  | result | live | none | threshold
deriving DecidableEq, Repr

/-- Rows of the cab-sector block's table (R155). -/
inductive SlewCase where
  | absent | outside | inSector | before | after | clear
deriving DecidableEq, Repr

/-- Horn patterns (R157). -/
inductive HornPattern where
  | continuous | derate | link | silent
deriving DecidableEq, Repr

/-- The fault that disabled a section (R164). -/
inductive CoilFault where
  | openA | openB | shortA | shortB
deriving DecidableEq, Repr

/-- Coil state of a section (R164). -/
inductive CoilState where
  | enabled
  | disabled (fault : CoilFault)
deriving DecidableEq, Repr

/-- Freeze state of the working profile (R189). -/
inductive FreezeState where
  | frozen | opened
deriving DecidableEq, Repr

/-- The result of a record's check at the latest POWER-ON (R183). -/
inductive LoadResult where
  | passed | failed
deriving DecidableEq, Repr

/-- The three stored records (R181). -/
inductive RecordKind where
  | profile | settings | calibration
deriving DecidableEq, Repr

/-- The request that began a store write (R184). -/
inductive WriteKind where
  | saveSettings | profileSet | profileRestore | profileFreeze
deriving DecidableEq, Repr

/-- Notice modes (R197). -/
inductive NoticeMode where
  | off | rise | both
deriving DecidableEq, Repr

/-- Live report periods (R199). -/
inductive LivePeriod where
  | off | ms50 | ms100 | ms200 | ms500
deriving DecidableEq, Repr

/-- States of CLP's receiver (R193). -/
inductive RxState where
  | hunt | length | body | check
deriving DecidableEq, Repr

/-- The 30 conditions (R196). -/
inductive Condition where
  | tipDown | tipFailed | tipStuck | tipOverrange | tipErrOverflow
  | sensorFault (channel : Channel)
  | geometryInvalid | leverStale
  | coilFault (valve : Section)
  | zeroDrift | noCal | storeInvalid | tallyLost | tallySaturated | overdraw | payload | limitHold
deriving DecidableEq, Repr

/-! ## Inputs: IAU -/

/-- One analog channel (R6, R10). `value` is what the latest frame delivered. -/
structure ChannelState where
  settings : ChannelSettings
  raw : Option RawCode
  status : ChannelStatus
  lastGood : Option RawCode
  value : Option Int
deriving DecidableEq, Repr

/-- The two stored settings of a line (R12). -/
structure LineSettings where
  mode : LineMode
  edge : Edge
deriving DecidableEq, Repr

/-- A debounce candidate: a level and the frame it was first sampled at (R13). -/
structure LineCandidate where
  level : Level
  since : Stamp
deriving DecidableEq, Repr

/-- One discrete line (R12, R13, R17). -/
structure LineState where
  settings : LineSettings
  written : Level
  sampled : Option Level
  debounced : Option Level
  candidate : Option LineCandidate
deriving DecidableEq, Repr

/-- Input Acquisition Unit. `frameTimer` is its 10 ms schedule (R2). -/
structure Iau where
  channels : PerChannel ChannelState
  lines : PerLine LineState
  frameTimer : Timer
deriving DecidableEq, Repr

/-! ## Tip link: TLC -/

/-- A tip sample (R31). `temperature` is 127 when invalid. -/
structure TipSample where
  force : Nat
  swing : Nat
  temperature : Int
  overrange : Bool
deriving DecidableEq, Repr

/-- The tip link settings (R37). -/
structure TipSettings where
  errorMode : ErrorMode
  stuckRule : StuckRule
deriving DecidableEq, Repr

/-- Tip Link Controller. `probesSent` and `gosSent` are the numbers of PROBE and GO frames sent since
PROBING or STARTING was entered; `resend` runs to the next of them. `sent` is the frame last put on the
line, kept so that what the module sends can be seen. -/
structure Tlc where
  link : LinkState
  rate : Nat
  hailCount : Nat
  probesSent : Nat
  gosSent : Nat
  hailTimer : Timer
  probeWindow : Timer
  startWindow : Timer
  resend : Timer
  lossTimer : Timer
  backOff : Timer
  noiseInterval : Timer
  reportTimer : Timer
  noiseCount : Nat
  errorCounter : Nat
  reportValue : Nat
  sequenceRef : Option Byte
  stuckRef : Option Nat
  stuckCount : Nat
  lastSample : Option (TipSample × Byte)
  sent : Option TipFrame
  settings : TipSettings
deriving DecidableEq, Repr

/-! ## Geometry: GEO -/

/-- A zone candidate and its count, 1 or 2 (R52). -/
structure ZoneCandidate where
  zone : Zone
  count : Nat
deriving DecidableEq, Repr

/-- The figures that are present together (R49): reach, height, slew, extension in use, jib direction. -/
structure Position where
  reach : Nat
  height : Int
  slew : Nat
  extension : Nat
  direction : Int
deriving DecidableEq, Repr

/-- Geometry Unit. `zonesUsed` are the zone settings of the latest acquisition frame: MLM's cab-sector block
works with them until the next frame takes the new settings (R54, log 16). -/
structure Geo where
  valid : Bool
  position : Option Position
  tau : Option Int
  tilt : Option Nat
  rawZone : Zone
  zone : Zone
  candidate : Option ZoneCandidate
  geometry : GeometrySettings
  zones : ZoneSettings
  zonesUsed : ZoneSettings
deriving DecidableEq, Repr

/-! ## Weighing: WEN -/

/-- One cylinder band of the calibration (R57). -/
structure Band where
  emptyForce : Int
  emptyCaptured : Bool
  gain : Nat
  gainCaptured : Bool
deriving DecidableEq, Repr

/-- The working calibration and its validity marks (R57). -/
structure Calibration where
  zero : Nat
  zeroValid : Bool
  span : Nat
  spanValid : Bool
  tare : Nat
  kt : Int
  tref : Int
  areaHead : Nat
  areaRod : Nat
  bands : Vector Band 8
deriving DecidableEq, Repr

/-- The weighing settings in force (R81). -/
structure WeighSettings where
  swing : Nat
  jitter : Nat
  windowSize : Nat
  spread : Nat
  minLift : Nat
  period : Nat
  autoZero : Bool
  tracking : Nat
deriving DecidableEq, Repr

/-- A weigh window (R70). `low` and `high` are the minimum and maximum accepted. -/
structure Window where
  source : Source
  size : Nat
  count : Nat
  sum : Int
  low : Option Int
  high : Option Int
deriving DecidableEq, Repr

/-- The capture in flight (R74, R75): its kind, its band, the known mass it carries, and its window of
raw quantities. -/
structure Capture where
  kind : CaptureKind
  band : Option (Fin 8)
  mass : Nat
  count : Nat
  sum : Int
deriving DecidableEq, Repr

/-- The force and band that a frame formed (R63). -/
structure CylinderForce where
  force : Int
  band : Fin 8
deriving DecidableEq, Repr

/-- Weighing Engine. `frameForce` is what the latest acquisition frame formed. -/
structure Wen where
  calibration : Calibration
  settings : WeighSettings
  k : Int
  latestTemperature : Option Int
  compensationTimer : Timer
  source : Source
  history : List Int
  liveEstimate : Option Int
  previousCorrected : Option Int
  previousCount : Option Nat
  previousCylinder : Option Int
  frameForce : Option CylinderForce
  zeroOffset : Int
  emptyWindow : Option Window
  liftWindow : Option Window
  liftSource : Option Source
  capture : Option Capture
deriving DecidableEq, Repr

/-! ## Lift tracking: LTR -/

/-- A fixed result (R85, R95). -/
structure LiftResult where
  net : Int
  mass : Int
  quality : Quality
  empty : Bool
deriving DecidableEq, Repr

/-- What a commit did to the tally (R102). -/
structure TallyEffect where
  applied : Nat
  overdraw : Nat
  held : Bool
  load : Option Nat
deriving DecidableEq, Repr

/-- Lift Tracker: the lift context (R85), the four start stamps (R88) and the settings (R105). -/
structure Ltr where
  state : LiftState
  number : BitVec 32
  gripTime : Option Stamp
  liftOffTime : Option Stamp
  fromZone : Option Zone
  source : Option Source
  result : Option LiftResult
  assortment : Option (Fin 16)
  toZone : Option Zone
  outcome : Option LiftOutcome
  effect : Option TallyEffect
  gripStart : Option Stamp
  releaseStart : Option Stamp
  liftOffStart : Option Stamp
  dropStart : Option Stamp
  settings : LiftSettings
deriving DecidableEq, Repr

/-! ## Tally: TAL -/

/-- A label of 0..8 characters; an empty label leaves its entry undefined (R108). -/
abbrev Label := List Byte

/-- An assortment's figures in the open load (R111). -/
structure Figures where
  mass : Nat
  lifts : Nat
  unweighed : Nat
deriving DecidableEq, Repr

/-- The open load record (R111). -/
structure Load where
  number : Nat
  openTime : Stamp
  figures : Vector Figures 16
  loadedLifts : Nat
  unloadedLifts : Nat
  targetReached : Bool
  saturated : Bool
deriving DecidableEq, Repr

/-- One pair of a summary (R125). -/
structure SummaryPair where
  index : Nat
  mass : Nat
  lifts : Nat
deriving DecidableEq, Repr

/-- The summary of a closed load (R125). -/
structure Summary where
  number : Nat
  openTime : Stamp
  closeTime : Stamp
  reason : CloseReason
  total : Nat
  loadedLifts : Nat
  unloadedLifts : Nat
  saturated : Bool
  pairs : List SummaryPair
deriving DecidableEq, Repr

/-- The target record in force (R120). -/
structure Target where
  totalOn : Bool
  liftsOn : Bool
  assortmentOn : Bool
  total : Nat
  lifts : Nat
  index : Fin 16
  mass : Nat
deriving DecidableEq, Repr

/-- Tally Unit. -/
structure Tal where
  labels : Vector Label 16
  selected : Fin 16
  load : Option Load
  nextNumber : Nat
  history : List Summary
  target : Target
  commandedHold : Bool
  switchClosed : Bool
deriving DecidableEq, Repr

/-! ## Lift log: LOG -/

/-- The LIFT part (R135), which is also the lift record of R103. -/
structure LiftPart where
  number : BitVec 32
  outcome : LiftOutcome
  fromZone : Zone
  toZone : Zone
  assortment : Fin 16
  mass : Int
  quality : Quality
  source : Source
  effect : TallyEffect
deriving DecidableEq, Repr

/-- The MARK part (R136); `reachSlew` is present when geometry is valid. -/
structure MarkPart where
  liveEstimate : Option Int
  reachSlew : Option (Nat × Nat)
  zone : Zone
  liftState : LiftState
deriving DecidableEq, Repr

/-- The LOAD_CLOSED part (R137). -/
structure LoadClosedPart where
  number : Nat
  reason : CloseReason
  total : Nat
  loadedLifts : Nat
  unloadedLifts : Nat
deriving DecidableEq, Repr

/-- The CAL part (R137). -/
structure CalPart where
  name : CalName
  band : Option (Fin 8)
  old : Int
  new : Int
deriving DecidableEq, Repr

/-- The one part an entry carries, which is also its trigger (R134). -/
inductive EntryPart where
  | lift (part : LiftPart)
  | mark (part : MarkPart)
  | loadClosed (part : LoadClosedPart)
  | cal (part : CalPart)
deriving DecidableEq, Repr

/-- A log entry (R134). -/
structure Entry where
  sequence : BitVec 32
  time : Stamp
  overwrite : Bool
  part : EntryPart
deriving DecidableEq, Repr

/-- The five capture enables (R138). -/
structure Enables where
  tallied : Bool
  untallied : Bool
  dropped : Bool
  mark : Bool
  system : Bool
deriving DecidableEq, Repr

/-- Lift Log and module clock. -/
structure Log where
  clock : Stamp
  ring : List Entry
  nextSequence : BitVec 32
  enables : Enables
deriving DecidableEq, Repr

/-! ## Moment limiter: MLM -/

/-- The figures of the latest evaluation (R162). -/
structure MomentFigures where
  net : Int
  basis : Basis
  tare : Nat
  reach : Nat
  longest : Bool
  tau : Option Int
  tilt : Option Nat
  tiltPass : Bool
  derate : Nat
  mBase : Nat
  permitted : Nat
  moment : Nat
  utilisation : Nat
deriving DecidableEq, Repr

/-- The factors of a section's two directions, in ‰ (R156). -/
structure FactorPair where
  positive : Nat
  negative : Nat
deriving DecidableEq, Repr

/-- Moment Limiter. `segment` is the tone or silence of the pattern's cycle now running, and
`segmentTimer` what is left of it: together they hold the instant the cycle began. `waveTimer` is what is
left of the square wave's half-period during a tone, and `none` in a silence (R158). Its unit is 1/4,096,000
s, of which a millisecond has 4,096 and 1/32,768 s has 125. -/
structure Mlm where
  figures : MomentFigures
  stage : Stage
  degraded : Bool
  momentFactor : Nat
  factors : PerSection FactorPair
  slewCase : SlewCase
  pattern : HornPattern
  segment : Nat
  segmentTimer : Timer
  waveTimer : Timer
  hornHigh : Bool
  lampHigh : Bool
  flashTimer : Timer
  limiter : LimiterSettings
  horn : HornSettings
deriving DecidableEq, Repr

/-! ## Valve drive: VDR -/

/-- One valve section (R164). `duty` holds the codes handed to the coil driver at the latest drive update,
and `driven` the codes of the driver's group in progress (R173). -/
structure SectionState where
  target : Int
  latch : Bool
  factor : Nat
  composed : Int
  output : Int
  setpoint : CoilPair
  duty : CoilPair
  driven : CoilPair
  measured : CoilPair
  openCount : CoilPair
  coil : CoilState
  settings : SectionSettings
deriving DecidableEq, Repr

/-- Valve Drive. `factors` are the twelve last handed by MLM; `driveTimer` is the 10 ms schedule, and
`groupTimer` what is left of the coil driver's group of 2 ms (R173, log 30). -/
structure Vdr where
  sections : PerSection SectionState
  factors : PerSection FactorPair
  leverTimer : Timer
  driveTimer : Timer
  groupTimer : Timer
deriving DecidableEq, Repr

/-! ## Settings store: STO -/

/-- A capability profile (R186). -/
structure Profile where
  mBase : Nat
  tilt : Nat
  fallback : Bool
  payload : Nat
  caps : PerSection Nat
deriving DecidableEq, Repr

/-- The cab line settings (R199). -/
structure CabSettings where
  period : LivePeriod
  modes : Vector NoticeMode 30
deriving DecidableEq, Repr

/-- The content of the settings record (R181). -/
structure SettingsRecord where
  channels : PerChannel ChannelSettings
  lines : PerLine LineSettings
  tip : TipSettings
  geometry : GeometrySettings
  zones : ZoneSettings
  weigh : WeighSettings
  lift : LiftSettings
  labels : Vector Label 16
  target : Target
  enables : Enables
  limiter : LimiterSettings
  horn : HornSettings
  sections : PerSection SectionSettings
  cab : CabSettings
deriving DecidableEq, Repr

/-- What stands at a record's place in the store. `unreadable` is a place never written, or one whose
write was broken off (R183, R184): no content can be read from it. A `record` spells the values it holds,
names the kind whose signature byte it carries (`none` for any other byte), and has a sum of all its
bytes, signature and checksum included, modulo 256 (R182). -/
inductive StoreSlot (α : Type) where
  | unreadable
  | record (values : α) (signature : Option RecordKind) (sum : Byte)
deriving DecidableEq, Repr

/-- The part of a SAVE SETTINGS write now being written (R185). -/
inductive SavePart where
  | settings | calibration
deriving DecidableEq, Repr

/-- The three requests that write the profile record (R188, R189). -/
inductive ProfileWrite where
  | set | restore | freeze
deriving DecidableEq, Repr

/-- A write in flight with the copy it stores (R184). -/
inductive StoreWrite where
  | save (settings : SettingsRecord) (calibration : Calibration) (part : SavePart)
  | profile (kind : ProfileWrite) (copy : Profile)
deriving DecidableEq, Repr

/-- The load report (R183). -/
structure LoadReport where
  profile : LoadResult
  settings : LoadResult
  calibration : LoadResult
deriving DecidableEq, Repr

/-- Settings Store. The factory profile is `Profile.factory`, which nothing changes. -/
structure Sto where
  working : Profile
  freeze : FreezeState
  profileSlot : StoreSlot Profile
  settingsSlot : StoreSlot SettingsRecord
  calibrationSlot : StoreSlot Calibration
  report : LoadReport
  write : Option StoreWrite
deriving DecidableEq, Repr

/-! ## Cab line: CLP -/

/-- The values of a LIVE notice (R199). -/
structure LiveReport where
  liveEstimate : Option Int
  source : Source
  liftState : LiftState
  zone : Zone
  reach : Option Nat
  tau : Option Int
  utilisation : Nat
  stage : Stage
  selected : Fin 16
  total : Nat
deriving DecidableEq, Repr

/-- The notices (R201). `condition` carries the live field's value as sent: 0, 1, or 2 for latched. -/
inductive Notice where
  | started (kind : ResetKind) (storeInvalid : Bool) (report : LoadReport) (freeze : FreezeState)
  | calDone (kind : CaptureKind) (band : Option (Fin 8)) (value : Int)
  | calFailed (kind : CaptureKind) (reason : CaptureReason)
  | storeDone (kind : WriteKind)
  | target (load : Nat) (total : Nat) (loadedLifts : Nat)
  | tipErrors (count : Nat)
  | logPending (sequence : BitVec 32)
  | lineEdge (line : Line) (level : Level) (time : Stamp)
  | condition (index : Fin 30) (live : Nat) (latched : Bool)
  | live (report : LiveReport)
deriving DecidableEq, Repr

/-- A frame waiting to be sent: one part of a reply, or a notice (R195, R203). -/
inductive TxFrame where
  | reply (kind : Byte) (status : Status) (part : Nat) (last : Bool) (data : List Byte)
  | notice (notice : Notice)
deriving DecidableEq, Repr

/-- CLP's receiver (R193): its state, the bytes kept of the frame in progress with its SYNC first, and
the milliseconds since the last byte was received. -/
structure Receiver where
  state : RxState
  kept : List Byte
  sinceByte : Option Nat
deriving DecidableEq, Repr

/-- Cab Line Port. `live` and `latched` are the condition table by index (R196). `started` says that
STARTED has been sent, and `restarting` that a RESTART has been answered and is not yet performed. -/
structure Clp where
  receiver : Receiver
  queue : List TxFrame
  lost : Nat
  live : BitVec 30
  latched : BitVec 30
  settings : CabSettings
  liveTimer : Timer
  started : Bool
  restarting : Bool
deriving DecidableEq, Repr

/-! ## The machine -/

/-- The whole module and the commands that wait for it, first in first out. -/
structure State where
  powered : Bool
  iau : Iau
  tlc : Tlc
  geo : Geo
  wen : Wen
  ltr : Ltr
  tal : Tal
  log : Log
  mlm : Mlm
  vdr : Vdr
  sto : Sto
  clp : Clp
  pending : List Instr
deriving DecidableEq, Repr

/-! ## Defaults and values after reset -/

end Sys2Proof.Machine

namespace Sys2Proof

/-- The value range of each channel (R3). -/
def Channel.range : Channel → Int × Int
  | .slew => (0, 3599)
  | .boom => (-300, 850)
  | .jib => (0, 1800)
  | .tele => (0, 4000)
  | .pitch => (-450, 450)
  | .roll => (-450, 450)
  | .pHead => (0, 40000)
  | .pRod => (0, 40000)
  | .grip => (0, 40000)

/-- Defaults of a channel's settings (R4). -/
def ChannelSettings.default (c : Channel) : ChannelSettings where
  rawLo := 200
  valueLo := c.range.1
  rawHi := 3895
  valueHi := c.range.2
  bandLo := 200
  bandHi := 3895

/-- R42. -/
def GeometrySettings.default : GeometrySettings := ⟨5000, 4200, 2000, 1800⟩

/-- R50. -/
def ZoneSettings.default : ZoneSettings := ⟨1200, 2400, 1000, 6500, 3300, 300, 2500⟩

/-- R105. -/
def LiftSettings.default : LiftSettings := ⟨9000, 4000, 200, 150, 300, 150, 300, 200⟩

/-- R160. -/
def LimiterSettings.default : LimiterSettings := ⟨30, 300, 850⟩

/-- R158, R161. -/
def HornSettings.default : HornSettings := ⟨4, 9⟩

/-- R165. -/
def SectionSettings.default : SectionSettings := ⟨300, 1200, 20, 50, 100⟩

end Sys2Proof

namespace Sys2Proof.Machine

/-- The lines at the application of supply, and their default settings (R18). -/
def LineSettings.default : LineSettings := ⟨.input, .rising⟩

/-- R37. -/
def TipSettings.default : TipSettings := ⟨.auto, .lenient⟩

/-- R81. -/
def WeighSettings.default : WeighSettings := ⟨50, 300, 32, 150, 20, 2000, true, 250⟩

/-- The label "UNSORTED" of entry 0 (R108). -/
def Label.unsorted : Label := [0x55, 0x4E, 0x53, 0x4F, 0x52, 0x54, 0x45, 0x44]

/-- Entry 0 "UNSORTED" and the rest undefined (R129). -/
def defaultLabels : Vector Label 16 :=
  #v[Label.unsorted, [], [], [], [], [], [], [], [], [], [], [], [], [], [], []]

/-- R120. -/
def Target.default : Target := ⟨false, false, false, 1, 1, 0, 1⟩

/-- R138. -/
def Enables.default : Enables := ⟨true, false, true, true, true⟩

/-- R199. -/
def CabSettings.default : CabSettings := ⟨.ms100, Vector.replicate 30 .rise⟩

/-- The factory profile (R186). -/
def Profile.factory : Profile := ⟨11000, 250, true, 16000, .all 2000⟩

/-- The calibration that stands when the record fails its check (R57). -/
def Calibration.default : Calibration where
  zero := 0
  zeroValid := false
  span := 1
  spanValid := false
  tare := 0
  kt := 0
  tref := 20
  areaHead := 0
  areaRod := 0
  bands := Vector.replicate 8 ⟨0, false, 1, false⟩

/-- The defaults of every block, which stand when the settings record fails its check (R183). -/
def SettingsRecord.default : SettingsRecord where
  channels := ⟨.default .slew, .default .boom, .default .jib, .default .tele, .default .pitch,
    .default .roll, .default .pHead, .default .pRod, .default .grip⟩
  lines := .all .default
  tip := .default
  geometry := .default
  zones := .default
  weigh := .default
  lift := .default
  labels := defaultLabels
  target := .default
  enables := .default
  limiter := .default
  horn := .default
  sections := .all .default
  cab := .default

/-- The clock at the application of supply (R130). -/
def Stamp.zero : Stamp := ⟨0, 0⟩

/-- A channel before its first frame (R11). -/
def ChannelState.afterReset (c : ChannelSettings) : ChannelState := ⟨c, none, .none, none, none⟩

/-- A line before its first frame (R18). -/
def LineState.afterReset (l : LineSettings) : LineState := ⟨l, .low, none, none, none⟩

/-- IAU before its start. -/
def Iau.afterReset (r : SettingsRecord) : Iau where
  channels := r.channels.map fun _ c => .afterReset c
  lines := r.lines.map fun _ l => .afterReset l
  frameTimer := none

/-- TLC between a reset and its start: nothing sent, no timer running (R40). -/
def Tlc.afterReset (t : TipSettings) : Tlc where
  link := .hailing
  rate := 0
  hailCount := 0
  probesSent := 0
  gosSent := 0
  hailTimer := none
  probeWindow := none
  startWindow := none
  resend := none
  lossTimer := none
  backOff := none
  noiseInterval := none
  reportTimer := none
  noiseCount := 0
  errorCounter := 0
  reportValue := 0
  sequenceRef := none
  stuckRef := none
  stuckCount := 0
  lastSample := none
  sent := none
  settings := t

/-- R56. -/
def Geo.afterReset (g : GeometrySettings) (z : ZoneSettings) : Geo where
  valid := false
  position := none
  tau := none
  tilt := none
  rawZone := .unknown
  zone := .unknown
  candidate := none
  geometry := g
  zones := z
  zonesUsed := z

/-- R84, before the start of WEN. The offset is 0 after POWER-ON and kept across RESTART. -/
def Wen.afterReset (c : Calibration) (w : WeighSettings) (zeroOffset : Int) : Wen where
  calibration := c
  settings := w
  k := 1000000
  latestTemperature := none
  compensationTimer := none
  source := .none
  history := []
  liveEstimate := none
  previousCorrected := none
  previousCount := none
  previousCylinder := none
  frameForce := none
  zeroOffset := zeroOffset
  emptyWindow := none
  liftWindow := none
  liftSource := none
  capture := none

/-- R107. The lift number is 0 after POWER-ON and kept across RESTART. -/
def Ltr.afterReset (l : LiftSettings) (number : BitVec 32) : Ltr where
  state := .idle
  number := number
  gripTime := none
  liftOffTime := none
  fromZone := none
  source := none
  result := none
  assortment := none
  toZone := none
  outcome := none
  effect := none
  gripStart := none
  releaseStart := none
  liftOffStart := none
  dropStart := none
  settings := l

/-- TAL at POWER-ON (R129). -/
def Tal.afterReset (labels : Vector Label 16) (target : Target) : Tal where
  labels := labels
  selected := 0
  load := none
  nextNumber := 1
  history := []
  target := target
  commandedHold := false
  switchClosed := false

/-- LOG at POWER-ON (R145). -/
def Log.afterReset (enables : Enables) : Log := ⟨.zero, [], 1, enables⟩

/-- No evaluation made yet. -/
def MomentFigures.zero : MomentFigures where
  net := 0
  basis := .none
  tare := 0
  reach := 0
  longest := false
  tau := none
  tilt := none
  tiltPass := false
  derate := 0
  mBase := 0
  permitted := 0
  moment := 0
  utilisation := 0

/-- MLM before its first evaluation; that evaluation leaves R163 (log 5). -/
def Mlm.afterReset (l : LimiterSettings) (h : HornSettings) : Mlm where
  figures := .zero
  stage := .free
  degraded := false
  momentFactor := 0
  factors := .all ⟨0, 0⟩
  slewCase := .absent
  pattern := .silent
  segment := 0
  segmentTimer := none
  waveTimer := none
  hornHigh := false
  lampHigh := false
  flashTimer := none
  limiter := l
  horn := h

/-- A section from the reset to the start of VDR (R180). -/
def SectionState.afterReset (t : SectionSettings) : SectionState where
  target := 0
  latch := true
  factor := 1000
  composed := 0
  output := 0
  setpoint := ⟨0, 0⟩
  duty := ⟨0, 0⟩
  driven := ⟨0, 0⟩
  measured := ⟨0, 0⟩
  openCount := ⟨0, 0⟩
  coil := .enabled
  settings := t

/-- VDR before its start. -/
def Vdr.afterReset (t : PerSection SectionSettings) : Vdr where
  sections := t.map fun _ c => .afterReset c
  factors := .all ⟨0, 0⟩
  leverTimer := none
  driveTimer := none
  groupTimer := none

/-- The receiver in HUNT with nothing kept (R193, R200). -/
def Receiver.idle : Receiver := ⟨.hunt, [], none⟩

/-- CLP between a reset and STARTED (R196, R200). -/
def Clp.afterReset (c : CabSettings) : Clp where
  receiver := .idle
  queue := []
  lost := 0
  live := 0
  latched := 0
  settings := c
  liveTimer := none
  started := false
  restarting := false

/-- A store never written (R183); the working profile before the loading is the factory profile. -/
def Sto.blank : Sto where
  working := .factory
  freeze := .opened
  profileSlot := .unreadable
  settingsSlot := .unreadable
  calibrationSlot := .unreadable
  report := ⟨.failed, .failed, .failed⟩
  write := none

/-- The module without supply: what it keeps is the store, and the commands still to come. -/
def State.unpowered (sto : Sto) (pending : List Instr) : State where
  powered := false
  iau := .afterReset .default
  tlc := .afterReset .default
  geo := .afterReset .default .default
  wen := .afterReset .default .default 0
  ltr := .afterReset .default 0
  tal := .afterReset defaultLabels .default
  log := .afterReset .default
  mlm := .afterReset .default .default
  vdr := .afterReset (.all .default)
  sto := sto
  clp := .afterReset .default
  pending := pending

/-- The figures of MLM's first evaluation under the defaults and the factory profile (R163). -/
def MomentFigures.firstEvaluation : MomentFigures where
  net := 0
  basis := .none
  tare := 0
  reach := 11000
  longest := true
  tau := none
  tilt := none
  tiltPass := false
  derate := 300
  mBase := 11000
  permitted := 3300
  moment := 0
  utilisation := 0

/-- The machine right after POWER-ON: the end of the start-up sequence (R191) of a module whose store
was never written, so that every block stands on its defaults (R183), with the commands of the cab line
still to come. Each field is the value of its block's reset rule: R11, R18, R40, R56, R84, R107, R129,
R145, R163, R180, R192, R200. DESIGN CHOICE (log 2): a store never written, and measured currents of 0. -/
def State.reset : State where
  powered := true
  iau := { Iau.afterReset .default with frameTimer := some 10 }
  tlc :=
    { Tlc.afterReset .default with
      hailCount := 1
      hailTimer := some 10
      noiseInterval := some 1000
      reportTimer := some 1000
      sent := some .hail }
  geo := .afterReset .default .default
  wen := { Wen.afterReset .default .default 0 with compensationTimer := some 2000 }
  ltr := .afterReset .default 0
  tal := .afterReset defaultLabels .default
  log := .afterReset .default
  mlm :=
    { Mlm.afterReset .default .default with
      figures := .firstEvaluation
      stage := .hold
      degraded := true
      momentFactor := 0
      factors := ⟨⟨0, 0⟩, ⟨1000, 0⟩, ⟨0, 1000⟩, ⟨0, 1000⟩, ⟨1000, 1000⟩, ⟨1000, 1000⟩⟩
      slewCase := .absent
      pattern := .continuous
      waveTimer := some 5000
      hornHigh := true
      lampHigh := true
      flashTimer := some 250 }
  vdr :=
    { Vdr.afterReset (.all .default) with
      factors := ⟨⟨0, 0⟩, ⟨1000, 0⟩, ⟨0, 1000⟩, ⟨0, 1000⟩, ⟨1000, 1000⟩, ⟨1000, 1000⟩⟩
      leverTimer := some 150
      driveTimer := some 10
      groupTimer := some 2 }
  sto := .blank
  clp :=
    { Clp.afterReset .default with
      queue := [.notice (.started .powerOn true ⟨.failed, .failed, .failed⟩ .opened)]
      live := 0x20800001
      latched := 0x23800001
      liveTimer := some 100
      started := true }
  pending := []

end Sys2Proof.Machine
end

