-- ==== Sys2Proof/Machine/Arith.lean ====
section
/-! DEFINITION. The arithmetic of R1 (rounded, floor, clamped, saturating) and the times of R130 and
R131. -/

namespace Sys2Proof.Machine

/-- n / d to the nearest integer, halves away from zero (R1). -/
def roundDiv (n d : Int) : Int :=
  let q : Nat := (2 * n.natAbs + d.natAbs) / (2 * d.natAbs)
  if (decide (n < 0)) = (decide (d < 0)) then (q : Int) else -(q : Int)

/-- n / d toward minus infinity, for d above 0 (R1). -/
def floorDiv (n d : Int) : Int := n / d

/-- Clamped to lo..hi (R1). -/
def clamp (lo hi x : Int) : Int := if x < lo then lo else if hi < x then hi else x

/-- A count that saturates at 65,535 (R1, R30, R32, R34, R111). -/
def saturate16 (n : Nat) : Nat := min n 65535

/-- |x − y| is at most the limit. -/
def within (x y : Int) (limit : Nat) : Bool := (x - y).natAbs ≤ limit

/-! ## The module clock -/

/-- One elapsed millisecond (R130). -/
def Stamp.next (t : Stamp) : Stamp :=
  if t.ms.val = 999 then ⟨t.sec + 1, 0⟩ else ⟨t.sec, t.ms + 1⟩

/-- The time from `earlier` to `later` in ms, the seconds' difference modulo 2^32 (R131). -/
def Stamp.since (later earlier : Stamp) : Int :=
  ((later.sec - earlier.sec).toNat : Int) * 1000 + later.ms.val - earlier.ms.val

/-- A stamp as a count of milliseconds (R132). -/
def Stamp.toMs (t : Stamp) : Int := (t.sec.toNat : Int) * 1000 + t.ms.val

/-- The stamp of a count of milliseconds, its seconds modulo 2^32 (R132). -/
def Stamp.ofMs (n : Int) : Stamp :=
  ⟨BitVec.ofInt 32 (n / 1000), Fin.ofNat 1000 (n % 1000).toNat⟩

/-- A running stamp moved by a SET CLOCK step (R132). -/
def Stamp.shift (t : Stamp) (step : Int) : Stamp := .ofMs (t.toMs + step)

/-- One millisecond of a block's own timer. A timer at 0 is due. -/
def Timer.tick (t : Timer) : Timer := t.map (· - 1)

end Sys2Proof.Machine
end

