-- ==== Sys2Proof/Machine/Operands.lean ====
section
/-! DEFINITION. The operand forms of the requests: the number that stands for each value of an
enumeration (R203: from 0 in the order its defining table lists it), and the range and the constraints
that each request tests (R4, R42, R50, R57, R81, R105, R108, R120, R160, R161, R165, R186, R199). The
record check of R182 tests the same ranges. -/

namespace Sys2Proof

/-- n lies in lo..hi. -/
def Nat.inRange (lo hi n : Nat) : Bool := lo ≤ n && n ≤ hi

/-- x lies in lo..hi. -/
def Int.inRange (lo hi x : Int) : Bool := lo ≤ x && x ≤ hi

/-! ## Numbers of enumerations -/

/-- SLEW, BOOM, JIB, TELE, PITCH, ROLL, P_HEAD, P_ROD, GRIP (R9). -/
def Channel.ofCode : Nat → Option Channel
  | 0 => some .slew
  | 1 => some .boom
  | 2 => some .jib
  | 3 => some .tele
  | 4 => some .pitch
  | 5 => some .roll
  | 6 => some .pHead
  | 7 => some .pRod
  | 8 => some .grip
  | _ => none

def Channel.code : Channel → Nat
  | .slew => 0
  | .boom => 1
  | .jib => 2
  | .tele => 3
  | .pitch => 4
  | .roll => 5
  | .pHead => 6
  | .pRod => 7
  | .grip => 8

/-- DL0..DL3 (R15). -/
def Line.ofCode : Nat → Option Line
  | 0 => some .dl0
  | 1 => some .dl1
  | 2 => some .dl2
  | 3 => some .dl3
  | _ => none

def Line.code : Line → Nat
  | .dl0 => 0
  | .dl1 => 1
  | .dl2 => 2
  | .dl3 => 3

/-- SLEW, BOOM, JIB, TELE, ROTATE, GRAPPLE (R178, R179). -/
def Section.ofCode : Nat → Option Section
  | 0 => some .slew
  | 1 => some .boom
  | 2 => some .jib
  | 3 => some .tele
  | 4 => some .rotate
  | 5 => some .grapple
  | _ => none

def Section.code : Section → Nat
  | .slew => 0
  | .boom => 1
  | .jib => 2
  | .tele => 3
  | .rotate => 4
  | .grapple => 5

/-- The sections a SET SECTION names: one of the six, or all of them for ALL (R178). DESIGN CHOICE (log 12): ALL
is 6, its place in R178's list. -/
def Section.choice (code : Nat) : Option (List Section) :=
  if code = 6 then some Section.list else (Section.ofCode code).map fun v => [v]

/-- On and off, in the order R81 and R138 list them (log 12). -/
def onOff : Nat → Option Bool
  | 0 => some true
  | 1 => some false
  | _ => none

/-- DESIGN CHOICE (log 12): low is 0 and high is 1; no table numbers a level. -/
def Level.code : Level → Nat
  | .low => 0
  | .high => 1

namespace Machine

def LineMode.ofCode : Nat → Option LineMode
  | 0 => some .input
  | 1 => some .inputPullup
  | 2 => some .output
  | 3 => some .function
  | _ => none

def LineMode.code : LineMode → Nat
  | .input => 0
  | .inputPullup => 1
  | .output => 2
  | .function => 3

/-- DESIGN CHOICE (log 12): FALLING, RISING, BOTH are 0, 1, 2, the order of R12 and R14; no table lists them. -/
def Edge.ofCode : Nat → Option Edge
  | 0 => some .falling
  | 1 => some .rising
  | 2 => some .both
  | _ => none

/-- The numbers of `Edge.ofCode`. DESIGN CHOICE (log 12). -/
def Edge.code : Edge → Nat
  | .falling => 0
  | .rising => 1
  | .both => 2

def ErrorMode.ofCode : Nat → Option ErrorMode
  | 0 => some .auto
  | 1 => some .manual
  | _ => none

def ErrorMode.code : ErrorMode → Nat
  | .auto => 0
  | .manual => 1

def StuckRule.ofCode : Nat → Option StuckRule
  | 0 => some .strict
  | 1 => some .lenient
  | _ => none

def StuckRule.code : StuckRule → Nat
  | .strict => 0
  | .lenient => 1

/-- OFF, RISE, BOTH (R197). -/
def NoticeMode.ofCode : Nat → Option NoticeMode
  | 0 => some .off
  | 1 => some .rise
  | 2 => some .both
  | _ => none

def NoticeMode.code : NoticeMode → Nat
  | .off => 0
  | .rise => 1
  | .both => 2

/-- OFF, 50, 100, 200, 500 ms (R199, log 12). -/
def LivePeriod.ofCode : Nat → Option LivePeriod
  | 0 => some .off
  | 1 => some .ms50
  | 2 => some .ms100
  | 3 => some .ms200
  | 4 => some .ms500
  | _ => none

def LivePeriod.code : LivePeriod → Nat
  | .off => 0
  | .ms50 => 1
  | .ms100 => 2
  | .ms200 => 3
  | .ms500 => 4

/-- The live report timer's start at a period; OFF stops it (R199). -/
def LivePeriod.timer : LivePeriod → Timer
  | .off => none
  | .ms50 => some 50
  | .ms100 => some 100
  | .ms200 => some 200
  | .ms500 => some 500

/-- Allowed, not allowed (R186). -/
def fallbackOfCode : Nat → Option Bool
  | 0 => some true
  | 1 => some false
  | _ => none

def fallbackCode (allowed : Bool) : Nat := if allowed then 0 else 1

def onOffCode (on : Bool) : Nat := if on then 0 else 1

/-- Status bytes (R194). -/
def Status.code : Status → Nat
  | .ok => 0
  | .accepted => 1
  | .badKind => 2
  | .badLength => 3
  | .badValue => 4
  | .busy => 5
  | .state => 6
  | .frozen => 7

def ChannelStatus.code : ChannelStatus → Nat
  | .good => 0
  | .held => 1
  | .none => 2

def LinkState.code : LinkState → Nat
  | .hailing => 0
  | .probing => 1
  | .starting => 2
  | .up => 3
  | .failed => 4

/-- CAB, BUNK, GROUND, UNKNOWN, as the LIVE layout lists the debounced zone (R203). DESIGN CHOICE (log 12): the
same numbers in every other record; R51's own table lists UNKNOWN first. -/
def Zone.code : Zone → Nat
  | .cab => 0
  | .bunk => 1
  | .ground => 2
  | .unknown => 3

/-- 0 NONE, 1 TIP, 2 CYLINDER, as the LIVE and log layouts give it (R203). DESIGN CHOICE (log 12): the same numbers
in READ WEIGH and READ LIFT; R85 lists TIP, CYLINDER, NONE. -/
def Source.code : Source → Nat
  | .none => 0
  | .tip => 1
  | .cylinder => 2

/-- DESIGN CHOICE (log 12): numbered in the order in which R95 ranks the qualities; no table lists them. -/
def Quality.code : Quality → Nat
  | .good => 0
  | .rough => 1
  | .partialWindow => 2
  | .estimate => 3
  | .unweighed => 4

def LiftState.code : LiftState → Nat
  | .idle => 0
  | .gripped => 1
  | .lifted => 2
  | .weighed => 3

def LiftOutcome.code : LiftOutcome → Nat
  | .loaded => 0
  | .unloaded => 1
  | .restacked => 2
  | .moved => 3
  | .unplaced => 4
  | .empty => 5
  | .dropped => 6

/-- DESIGN CHOICE (log 12): the kinds are numbered in the order of their rules R76 to R79; no table lists them, and
the request's KIND byte is not used. -/
def CaptureKind.code : CaptureKind → Nat
  | .zero => 0
  | .span => 1
  | .cylEmpty => 2
  | .cylLoad => 3

/-- DESIGN CHOICE (log 12): the reasons are numbered in the order in which R74 names them; no table lists them. -/
def CaptureReason.code : CaptureReason → Nat
  | .aborted => 0
  | .smallSpan => 1
  | .range => 2
  | .bandMoved => 3
  | .noEmpty => 4

def CalName.code : CalName → Nat
  | .z => 0
  | .s => 1
  | .t => 2
  | .kt => 3
  | .tref => 4
  | .ah => 5
  | .ar => 6
  | .fe => 7
  | .g => 8

def CloseReason.code : CloseReason → Nat
  | .command => 0
  | .emptied => 1

def Stage.code : Stage → Nat
  | .free => 0
  | .derate => 1
  | .hold => 2

/-- RESULT, LIVE, NONE, THRESHOLD, as R162 lists them. -/
def Basis.code : Basis → Nat
  | .result => 0
  | .live => 1
  | .none => 2
  | .threshold => 3

def SlewCase.code : SlewCase → Nat
  | .absent => 0
  | .outside => 1
  | .inSector => 2
  | .before => 3
  | .after => 4
  | .clear => 5

def HornPattern.code : HornPattern → Nat
  | .continuous => 0
  | .derate => 1
  | .link => 2
  | .silent => 3

/-- ENABLED, then OPEN_A, OPEN_B, SHORT_A, SHORT_B (R164). DESIGN CHOICE (log 12): state and fault are one byte. -/
def CoilState.code : CoilState → Nat
  | .enabled => 0
  | .disabled .openA => 1
  | .disabled .openB => 2
  | .disabled .shortA => 3
  | .disabled .shortB => 4

/-- DESIGN CHOICE (log 12). -/
def FreezeState.code : FreezeState → Nat
  | .frozen => 0
  | .opened => 1

/-- DESIGN CHOICE (log 12). -/
def LoadResult.code : LoadResult → Nat
  | .passed => 0
  | .failed => 1

/-- DESIGN CHOICE (log 12): POWER-ON is 0 and RESTART is 1, the order of R191; no table lists them. -/
def ResetKind.code : ResetKind → Nat
  | .powerOn => 0
  | .restart => 1

/-- The KIND byte of the request that began a write (R184, R202). DESIGN CHOICE (log 12). -/
def WriteKind.code : WriteKind → Nat
  | .saveSettings => 0x50
  | .profileSet => 0x51
  | .profileRestore => 0x52
  | .profileFreeze => 0x53

def RecordKind.code : RecordKind → Nat
  | .profile => 0
  | .settings => 1
  | .calibration => 2

end Machine

/-! ## Ranges and constraints -/

/-- The range accepted for value_lo and value_hi (R4): wider for SLEW. -/
def Channel.settingRange : Channel → Int × Int
  | .slew => (-3600, 7199)
  | c => c.range

/-- R4 and the tests of R9. -/
def ChannelSettings.accepted (c : Channel) (t : ChannelSettings) : Bool :=
  t.rawLo ≤ 4095 && t.rawHi ≤ 4095 && t.rawHi != t.rawLo
    && Int.inRange c.settingRange.1 c.settingRange.2 t.valueLo
    && Int.inRange c.settingRange.1 c.settingRange.2 t.valueHi
    && t.bandLo ≤ 4094 && Nat.inRange (t.bandLo + 1) 4095 t.bandHi

/-- R42. -/
def GeometrySettings.accepted (t : GeometrySettings) : Bool :=
  Nat.inRange 1000 8000 t.l1 && Nat.inRange 1000 8000 t.l2 && t.h0 ≤ 4000 && t.eMax ≤ 4000

/-- R50. -/
def ZoneSettings.accepted (t : ZoneSettings) : Bool :=
  t.bunkFrom ≤ 3599 && t.bunkTo ≤ 3599 && t.bunkMin ≤ 20000 && t.bunkMax ≤ 20000
    && t.bunkMin ≤ t.bunkMax && t.cabFrom ≤ 3599 && t.cabTo ≤ 3599 && t.cabRadius ≤ 20000

/-- R105. -/
def LiftSettings.accepted (t : LiftSettings) : Bool :=
  Nat.inRange 1000 40000 t.gripThreshold && t.releaseThreshold ≤ 39999
    && t.releaseThreshold < t.gripThreshold
    && Nat.inRange 50 1000 t.gripTime && Nat.inRange 50 1000 t.releaseTime
    && Nat.inRange 10 10000 t.liftOffThreshold && t.dropThreshold ≤ 9999
    && t.dropThreshold < t.liftOffThreshold
    && Nat.inRange 100 2000 t.liftOffTime && Nat.inRange 100 2000 t.dropTime

/-- R57, for the values SET CALIBRATION carries (R82). -/
def CalibrationFields.accepted (t : CalibrationFields) : Bool :=
  t.tare ≤ 10000 && Int.inRange (-200) 200 t.kt && Int.inRange (-40) 85 t.tref
    && t.areaHead ≤ 50000 && t.areaRod ≤ 50000

/-- R160. -/
def LimiterSettings.accepted (t : LimiterSettings) : Bool :=
  t.kd ≤ 100 && Nat.inRange 100 1000 t.dMin && Nat.inRange 700 950 t.warn

/-- R161. -/
def HornSettings.accepted (t : HornSettings) : Bool :=
  [1, 2, 4, 8].contains t.p && t.n ≤ 63

/-- R165 and R178 under a current cap. -/
def SectionSettings.accepted (cap : Nat) (t : SectionSettings) : Bool :=
  t.iMin ≤ 2000 && t.iMax ≤ 2000 && t.iMin ≤ t.iMax && t.iMax ≤ cap
    && t.deadband ≤ 200 && Nat.inRange 1 1000 t.up && Nat.inRange 1 1000 t.down

namespace Machine

/-- R81. -/
def WeighSettings.accepted (t : WeighSettings) : Bool :=
  Nat.inRange 10 300 t.swing && Nat.inRange 50 2000 t.jitter && Nat.inRange 8 64 t.windowSize
    && Nat.inRange 20 1000 t.spread && Nat.inRange 5 200 t.minLift
    && [500, 2000, 10000, 30000].contains t.period && t.tracking ≤ 1000

/-- The settings a SET WEIGH carries, when every one of them is accepted (R81). -/
def weighOfFields (f : WeighFields) : Option WeighSettings :=
  match onOff f.autoZero with
  | none => none
  | some on =>
    let t : WeighSettings :=
      ⟨f.swing, f.jitter, f.windowSize, f.spread, f.minLift, f.period, on, f.tracking⟩
    if t.accepted then some t else none

/-- R120: the values of a field whose enable is off are judged too. -/
def Target.accepted (t : Target) : Bool :=
  Nat.inRange 1 960000 t.total && Nat.inRange 1 65535 t.lifts && Nat.inRange 1 60000 t.mass

/-- The target record a SET TARGET carries, when every value lies in its range (R120). -/
def targetOfFields (f : TargetFields) : Option Target :=
  match onOff f.totalEnable, onOff f.liftsEnable, onOff f.assortmentEnable with
  | some a, some b, some c =>
    if h : f.index < 16 then
      let t : Target := ⟨a, b, c, f.total, f.lifts, ⟨f.index, h⟩, f.mass⟩
      if t.accepted then some t else none
    else none
  | _, _, _ => none

/-- The enables a SET LOG carries (R143). -/
def enablesOfFields (f : EnableFields) : Option Enables :=
  match onOff f.tallied, onOff f.untallied, onOff f.dropped, onOff f.mark, onOff f.system with
  | some a, some b, some c, some d, some e => some ⟨a, b, c, d, e⟩
  | _, _, _, _, _ => none

/-- Every byte of a label is printable (R108, R110). -/
def Label.printable (l : Label) : Bool :=
  l.all fun b => 0x20 ≤ b.toNat && b.toNat ≤ 0x7E

/-- R108: 0..8 printable characters. -/
def Label.accepted (l : Label) : Bool := l.length ≤ 8 && Label.printable l

/-- The numbers of a list decoded one by one, when each names a value. -/
def decodeAll {α : Type} (f : Nat → Option α) : List Nat → Option (List α)
  | [] => some []
  | n :: ns =>
    match f n, decodeAll f ns with
    | some a, some as => some (a :: as)
    | _, _ => none

/-- The cab line settings a SET CAB LINE carries (R199). -/
def cabOfFields (period : Nat) (modes : List Nat) : Option CabSettings :=
  match LivePeriod.ofCode period, decodeAll NoticeMode.ofCode modes with
  | some p, some ms => if h : ms.length = 30 then some ⟨p, ⟨⟨ms⟩, h⟩⟩ else none
  | _, _ => none

/-- Every value of a calibration record lies in its range (R57, R182). -/
def Calibration.accepted (c : Calibration) : Bool :=
  c.zero ≤ 65535 && Nat.inRange 1 65535 c.span
    && CalibrationFields.accepted ⟨c.tare, c.kt, c.tref, c.areaHead, c.areaRod⟩
    && c.bands.toList.all fun b =>
      Int.inRange (-2000000) 2000000 b.emptyForce && Nat.inRange 1 65535 b.gain

/-- Every value of a settings record lies in its range, and the constraints between values are met; the
section currents are judged against the factory caps (R182). -/
def SettingsRecord.accepted (r : SettingsRecord) : Bool :=
  (r.channels.map fun c t => t.accepted c).toList.all (·)
    && r.geometry.accepted && r.zones.accepted && r.weigh.accepted && r.lift.accepted
    && r.labels.toList.all Label.accepted && r.labels[0] == Label.unsorted
    && r.target.accepted && r.limiter.accepted && r.horn.accepted
    && (r.sections.map fun v t => t.accepted (Profile.factory.caps.get v)).toList.all (·)

/-- No field of a profile exceeds its factory value (R182, R187). -/
def Profile.withinFactory (p : Profile) : Bool :=
  p.mBase ≤ Profile.factory.mBase && p.tilt ≤ Profile.factory.tilt
    && p.payload ≤ Profile.factory.payload
    && (p.caps.map fun v c => decide (c ≤ Profile.factory.caps.get v)).toList.all (·)

/-! ## PROFILE SET (R188) -/

/-- The i-th field of R186's table is named by a mask of PROFILE SET (R188). DESIGN CHOICE (log 13): bit i names
it. -/
def maskNames (mask i : Nat) : Bool := mask.testBit i

/-- A mask names at least one of the ten fields. -/
def profileMaskNames (mask : Nat) : Bool := (List.range 10).any (maskNames mask)

/-- Every field that the mask names carries a value in the range of R186. -/
def profileFieldsInRange (mask : Nat) (f : ProfileFields) : Bool :=
  (!maskNames mask 0 || f.mBase ≤ 65535)
    && (!maskNames mask 1 || f.tilt ≤ 450)
    && (!maskNames mask 2 || (fallbackOfCode f.fallback).isSome)
    && (!maskNames mask 3 || f.payload ≤ 960000)
    && (f.caps.map fun v c => !maskNames mask (4 + v.code) || c ≤ 2000).toList.all (·)

/-- A named value at most its factory value becomes the working value; any other is ignored (R188). -/
def takeField (named : Bool) (factory old new : Nat) : Nat :=
  if named && new ≤ factory then new else old

/-- The working profile that a PROFILE SET leaves (R188). The fallback has no value above its factory
value. -/
def profileAfterSet (mask : Nat) (f : ProfileFields) (p : Profile) : Profile where
  mBase := takeField (maskNames mask 0) Profile.factory.mBase p.mBase f.mBase
  tilt := takeField (maskNames mask 1) Profile.factory.tilt p.tilt f.tilt
  fallback :=
    if maskNames mask 2 then (fallbackOfCode f.fallback).getD p.fallback else p.fallback
  payload := takeField (maskNames mask 3) Profile.factory.payload p.payload f.payload
  caps := p.caps.map fun v old =>
    takeField (maskNames mask (4 + v.code)) (Profile.factory.caps.get v) old (f.caps.get v)

/-- The named fields that a PROFILE SET ignores (R188). DESIGN CHOICE (log 13): as a mask of the ten fields. -/
def profileIgnored (mask : Nat) (f : ProfileFields) : Nat :=
  let bit (i : Nat) (above : Bool) : Nat := if maskNames mask i && above then 2 ^ i else 0
  bit 0 (Profile.factory.mBase < f.mBase) + bit 1 (Profile.factory.tilt < f.tilt)
    + bit 3 (Profile.factory.payload < f.payload)
    + (f.caps.map fun v c => bit (4 + v.code) (Profile.factory.caps.get v < c)).toList.sum

end Machine

end Sys2Proof
end

