-- ==== Sys2Proof/Machine/Bytes.lean ====
section
/-! DEFINITION. Fields as bytes (R203): multi-byte fields most significant byte first (R1), optional
fields behind a presence byte, stamps of 6 bytes; reading the same fields back; the CRC-16 of the cab
line (R193) and the check byte of the tip link (R19). -/

namespace Sys2Proof.Machine

/-! ## Writing fields -/

def u8 (n : Nat) : List Byte := [BitVec.ofNat 8 n]

def u16 (n : Nat) : List Byte := [BitVec.ofNat 8 (n / 256), BitVec.ofNat 8 n]

def u24 (n : Nat) : List Byte :=
  [BitVec.ofNat 8 (n / 65536), BitVec.ofNat 8 (n / 256), BitVec.ofNat 8 n]

def u32 (n : Nat) : List Byte :=
  [BitVec.ofNat 8 (n / 16777216), BitVec.ofNat 8 (n / 65536), BitVec.ofNat 8 (n / 256),
    BitVec.ofNat 8 n]

/-- Signed numbers in two's complement. -/
def i8 (x : Int) : List Byte := u8 (x % 256).toNat

def i16 (x : Int) : List Byte := u16 (x % 65536).toNat

def i32 (x : Int) : List Byte := u32 (x % 4294967296).toNat

/-- A mark, flag or live state: 1 when set (R197, R203, log 12). -/
def flag (b : Bool) : List Byte := u8 (if b then 1 else 0)

/-- An optional field: a presence byte, then the field when present (R203). -/
def opt {α : Type} (f : α → List Byte) : Option α → List Byte
  | none => [0]
  | some x => 1 :: f x

/-- The seconds followed by the milliseconds (R203). -/
def stampBytes (t : Stamp) : List Byte := u32 t.sec.toNat ++ u16 t.ms.val

/-! ## Reading fields -/

/-- The byte at an offset, as a number. -/
def byteAt (p : List Byte) (i : Nat) : Nat := (p.getD i 0).toNat

def u16At (p : List Byte) (i : Nat) : Nat := byteAt p i * 256 + byteAt p (i + 1)

def u32At (p : List Byte) (i : Nat) : Nat := u16At p i * 65536 + u16At p (i + 2)

def i8At (p : List Byte) (i : Nat) : Int :=
  let n := byteAt p i
  if n < 128 then n else (n : Int) - 256

def i16At (p : List Byte) (i : Nat) : Int :=
  let n := u16At p i
  if n < 32768 then n else (n : Int) - 65536

/-! ## Checks -/

/-- The CRC register after one bit position: polynomial 0x1021, not reflected (R193). -/
def crcShift (c : BitVec 16) : BitVec 16 :=
  if c.msb then (c <<< 1) ^^^ 0x1021#16 else c <<< 1

def crcShifts : Nat → BitVec 16 → BitVec 16
  | 0, c => c
  | k + 1, c => crcShifts k (crcShift c)

/-- The CRC register after one byte (R193). -/
def crcByte (c : BitVec 16) (b : Byte) : BitVec 16 :=
  crcShifts 8 (c ^^^ (b.zeroExtend 16 <<< 8))

/-- The CRC-16 over a frame's LENGTH, KIND and payload: initial value 0xFFFF, no final inversion
(R193). -/
def crc16 (bs : List Byte) : BitVec 16 := bs.foldl crcByte 0xFFFF#16

/-- The sum of bytes modulo 256 (R19, R182). -/
def byteSum (bs : List Byte) : Byte := bs.foldl (· + ·) 0

/-- The byte that brings the sum of a frame or record to 0 modulo 256 (R19, R182). -/
def checkByte (bs : List Byte) : Byte := 0 - byteSum bs

end Sys2Proof.Machine
end

