-- ==== Sys2Proof/Machine/Wire.lean ====
section
/-! DEFINITION. The frames of the two serial lines (R19, R193, R195, R201, R203): what the bytes of a
cab frame, a notice, a reply part, a log entry and a tip frame are. -/

namespace Sys2Proof.Machine

/-! ## Log entries and the LIVE report -/

/-- Bit i of a byte of flags. -/
def flagBit (i : Nat) (b : Bool) : Nat := if b then 2 ^ i else 0

/-- The trigger of an entry is its part's kind (R134, R203). -/
def EntryPart.trigger : EntryPart → Nat
  | .lift _ => 0
  | .mark _ => 1
  | .loadClosed _ => 2
  | .cal _ => 3

/-- The bytes of an entry's part (R203). An absent figure's bytes are 0 (log 12). -/
def EntryPart.bytes : EntryPart → List Byte
  | .lift p =>
    u32 p.number.toNat ++ u8 p.outcome.code ++ u8 (p.fromZone.code * 16 + p.toZone.code)
      ++ u8 p.assortment.val ++ i16 p.mass ++ u8 p.quality.code ++ u8 p.source.code
      ++ u16 p.effect.applied ++ u16 p.effect.overdraw
      ++ u8 (flagBit 0 p.effect.held + flagBit 1 p.effect.load.isSome)
      ++ u16 (p.effect.load.getD 0)
  | .mark p =>
    u8 (flagBit 0 p.liveEstimate.isSome + flagBit 1 p.reachSlew.isSome)
      ++ i32 (p.liveEstimate.getD 0) ++ u16 (p.reachSlew.getD (0, 0)).1
      ++ u16 (p.reachSlew.getD (0, 0)).2 ++ u8 p.zone.code ++ u8 p.liftState.code
  | .loadClosed p =>
    u16 p.number ++ u8 p.reason.code ++ u24 p.total ++ u16 p.loadedLifts ++ u16 p.unloadedLifts
  | .cal p =>
    u8 p.name.code ++ u8 (match p.band with | some b => b.val | none => 0xFF) ++ i32 p.old
      ++ i32 p.new

/-- The bytes of a log entry in READ LOG data (R203). -/
def Entry.bytes (e : Entry) : List Byte :=
  u32 e.sequence.toNat ++ stampBytes e.time ++ u8 e.part.trigger ++ u8 (flagBit 0 e.overwrite)
    ++ e.part.bytes

/-- The LIVE payload of LENGTH 20 (R203). -/
def LiveReport.bytes (r : LiveReport) : List Byte :=
  u8 (flagBit 0 r.liveEstimate.isSome + flagBit 1 r.reach.isSome + flagBit 2 r.tau.isSome)
    ++ i32 (r.liveEstimate.getD 0) ++ u8 r.source.code ++ u8 r.liftState.code ++ u8 r.zone.code
    ++ u16 (r.reach.getD 0) ++ i16 (r.tau.getD 0) ++ u16 r.utilisation ++ u8 r.stage.code
    ++ u8 r.selected.val ++ u24 r.total

/-! ## Notices -/

/-- KIND bytes (R201). -/
def Notice.kind : Notice → Byte
  | .started .. => 0xC0
  | .calDone .. => 0xC1
  | .calFailed .. => 0xC2
  | .storeDone .. => 0xC3
  | .target .. => 0xC4
  | .tipErrors .. => 0xC5
  | .logPending .. => 0xC6
  | .lineEdge .. => 0xC7
  | .condition .. => 0xC8
  | .live .. => 0xC9

/-- A capture's new value takes the bytes of the range of the value it changes (R57, R203; log 26). -/
def calValueBytes (kind : CaptureKind) (v : Int) : List Byte :=
  match kind with
  | .cylEmpty => i32 v
  | .zero => i16 v
  | .span => i16 v
  | .cylLoad => i16 v

/-- The payload of each notice, its fields in the order its rule lists them (R203). -/
def Notice.payload : Notice → List Byte
  | .started kind invalid report freeze =>
    u8 kind.code ++ flag invalid ++ u8 report.profile.code ++ u8 report.settings.code
      ++ u8 report.calibration.code ++ u8 freeze.code
  | .calDone kind band v => u8 kind.code ++ opt (fun b => u8 b.val) band ++ calValueBytes kind v
  | .calFailed kind reason => u8 kind.code ++ u8 reason.code
  | .storeDone kind => u8 kind.code
  | .target load total lifts => u16 load ++ u32 total ++ u16 lifts
  | .tipErrors n => u16 n
  | .logPending q => u32 q.toNat
  | .lineEdge line level time => u8 line.code ++ u8 level.code ++ stampBytes time
  | .condition i now latched => u8 i.val ++ u8 now ++ flag latched
  | .live r => r.bytes

/-! ## Replies -/

/-- Data longer than 60 bytes is cut into parts of 60 bytes, numbered from 0, the last one marked
(R195). `fuel` is a bound on the number of parts. -/
def cutReply (kind : Byte) (status : Status) : Nat → Nat → List Byte → List TxFrame
  | 0, part, data => [.reply kind status part true data]
  | fuel + 1, part, data =>
    if data.length ≤ 60 then [.reply kind status part true data]
    else .reply kind status part false (data.take 60) ::
      cutReply kind status fuel (part + 1) (data.drop 60)

/-- All the parts of one reply (R195). -/
def replyFrames (kind : Byte) (status : Status) (data : List Byte) : List TxFrame :=
  cutReply kind status data.length 0 data

/-! ## Cab frames -/

/-- SYNC, LENGTH, KIND, payload and CRC-16 (R203). -/
def cabFrame (kind : Byte) (payload : List Byte) : List Byte :=
  let body := u8 (payload.length + 1) ++ [kind] ++ payload
  [0xA5] ++ body ++ u16 (crc16 body).toNat

/-- The KIND byte of a frame the module sends (R201, R202). -/
def TxFrame.kind : TxFrame → Byte
  | .reply .. => 0x80
  | .notice n => n.kind

/-- The payload of a frame the module sends (R203). -/
def TxFrame.payload : TxFrame → List Byte
  | .reply kind status part last data =>
    [kind] ++ u8 status.code ++ u8 (part + flagBit 7 last) ++ data
  | .notice n => n.payload

/-- The bytes of a frame on the cab line. -/
def TxFrame.bytes (f : TxFrame) : List Byte := cabFrame f.kind f.payload

/-! ## Tip frames -/

/-- The bytes before the check byte (R203). -/
def TipFrame.body : TipFrame → List Byte
  | .hail => [0x48]
  | .hailReply => [0x68]
  | .probe r n => [0x50, r, n]
  | .probeEcho r n => [0x70, r, n]
  | .go r => [0x47, r]
  | .data q c a t st => [0x44, q] ++ u16 c.toNat ++ u16 a.toNat ++ [t, st]

/-- A tip frame ends with the check byte that brings its sum to 0 (R19). -/
def TipFrame.bytes (f : TipFrame) : List Byte := f.body ++ [checkByte f.body]

/-- The fixed length of a kind of tip frame, by its kind byte (R203). -/
def tipLength (kind : Byte) : Option Nat :=
  if kind = 0x48 then some 2
  else if kind = 0x68 then some 2
  else if kind = 0x50 then some 4
  else if kind = 0x70 then some 4
  else if kind = 0x47 then some 3
  else if kind = 0x44 then some 9
  else none

/-- A frame is intact when its kind is one of the six, its length is that kind's, and its bytes sum to 0
modulo 256 (R19). -/
def tipIntact (bs : List Byte) : Bool :=
  match bs with
  | [] => false
  | k :: _ => tipLength k == some bs.length && byteSum bs == 0

end Sys2Proof.Machine
end

