-- ==== Sys2Proof/Machine/Ops.lean ====
section
/-! DEFINITION. The operations every block shares: CLP's transmit queue, sending a notice (R195, R201),
and answering a request (R194, R195). -/

namespace Sys2Proof.Machine

/-- The module has supply: without it no event reaches any block. -/
def whenPowered (f : State → State) (s : State) : State := if s.powered then f s else s

/-! ## The transmit queue -/

/-- A frame or request discarded for want of room: the lost-notice count rises to at most 255 (R195). -/
def Clp.lose (c : Clp) : Clp := { c with lost := min 255 (c.lost + 1) }

/-- A waiting frame that is a LIVE notice. -/
def TxFrame.isLive : TxFrame → Bool
  | .notice (.live _) => true
  | _ => false

/-- A notice joins the transmit queue (R195): a LIVE notice takes the place of an earlier LIVE still
waiting; any other is discarded when 32 or more frames are waiting. -/
def Clp.send (c : Clp) (n : Notice) : Clp :=
  if (TxFrame.notice n).isLive && c.queue.any TxFrame.isLive then
    { c with queue := c.queue.map fun f => if f.isLive then .notice n else f }
  else if 32 ≤ c.queue.length then c.lose
  else { c with queue := c.queue ++ [.notice n] }

/-- CLP sends a notice. -/
def notify (n : Notice) (s : State) : State := { s with clp := s.clp.send n }

/-! ## Requests -/

/-- CLP dispatches what it receives: STARTED has been sent, and no RESTART is waiting to be performed
(R191, R200). -/
def State.dispatching (s : State) : Bool := s.powered && s.clp.started && !s.clp.restarting

/-- The parts of a reply join the queue together (R195). -/
def Clp.enqueue (c : Clp) (frames : List TxFrame) : Clp := { c with queue := c.queue ++ frames }

/-- One request and its one reply (R194, R195). A request that CLP does not dispatch does nothing. One
whose reply would take the queue past 64 frames is discarded unperformed and unanswered. Otherwise the
reply joins the queue, ahead of any notice the request causes, and the request is performed (log 11). -/
def answer (kind : Byte) (status : Status) (data : List Byte) (effect : State → State) (s : State) :
    State :=
  if s.dispatching then
    if 64 < s.clp.queue.length + (replyFrames kind status data).length then
      { s with clp := s.clp.lose }
    else effect { s with clp := s.clp.enqueue (replyFrames kind status data) }
  else s

/-- A refused request changes nothing and its reply carries no data (R194). -/
def refuse (kind : Byte) (status : Status) (s : State) : State := answer kind status [] id s

end Sys2Proof.Machine
end

