-- ==== Sys2Proof/Machine/Flags.lean ====
section
/-! DEFINITION. The condition table of CLP (R196, R197): the live state and the latched flag of each
condition, and the CONDITION notice that a change sends. -/

namespace Sys2Proof.Machine

/-- A condition's index in the table (R196). -/
def Condition.index : Condition → Fin 30
  | .tipDown => 0
  | .tipFailed => 1
  | .tipStuck => 2
  | .tipOverrange => 3
  | .tipErrOverflow => 4
  | .sensorFault .slew => 5
  | .sensorFault .boom => 6
  | .sensorFault .jib => 7
  | .sensorFault .tele => 8
  | .sensorFault .pitch => 9
  | .sensorFault .roll => 10
  | .sensorFault .pHead => 11
  | .sensorFault .pRod => 12
  | .sensorFault .grip => 13
  | .geometryInvalid => 14
  | .leverStale => 15
  | .coilFault .slew => 16
  | .coilFault .boom => 17
  | .coilFault .jib => 18
  | .coilFault .tele => 19
  | .coilFault .rotate => 20
  | .coilFault .grapple => 21
  | .zeroDrift => 22
  | .noCal => 23
  | .storeInvalid => 24
  | .tallyLost => 25
  | .tallySaturated => 26
  | .overdraw => 27
  | .payload => 28
  | .limitHold => 29

/-- The mask of one condition. -/
def Condition.bit (c : Condition) : BitVec 30 := BitVec.twoPow 30 c.index.val

/-- The four conditions without a live state (R196). -/
def Condition.latchOnly : Condition → Bool
  | .tallyLost => true
  | .storeInvalid => true
  | .overdraw => true
  | .tallySaturated => true
  | _ => false

/-- A condition's live state. -/
def Clp.isLive (c : Clp) (d : Condition) : Bool := c.live.getLsbD d.index.val

/-- A condition's latched flag. -/
def Clp.isLatched (c : Clp) (d : Condition) : Bool := c.latched.getLsbD d.index.val

/-- A condition's notice mode. -/
def Clp.mode (c : Clp) (d : Condition) : NoticeMode := c.settings.modes[d.index]

/-- The owner sets or clears a live state: setting it latches the condition (R196). -/
def Clp.putLive (c : Clp) (d : Condition) (v : Bool) : Clp :=
  if v then { c with live := c.live ||| d.bit, latched := c.latched ||| d.bit }
  else { c with live := c.live &&& ~~~d.bit }

/-- A change of a live state sends a CONDITION notice (R197); none is sent before STARTED. -/
def Clp.liveNotice (c : Clp) (d : Condition) (v : Bool) : Bool :=
  c.started && (match c.mode d with
    | .off => false
    | .rise => v
    | .both => true)

/-- The live state of a condition is made v. A live state that is v already does not change (R196,
R197). -/
def Clp.setLive (c : Clp) (d : Condition) (v : Bool) : Clp :=
  if c.isLive d = v then c
  else
    let c' := c.putLive d v
    if c.liveNotice d v then
      c'.send (.condition d.index (if v then 1 else 0) (c'.isLatched d))
    else c'

/-- A latch-only condition is latched by its owner, again or for the first time (R196, R197). -/
def Clp.latch (c : Clp) (d : Condition) : Clp :=
  let c' := { c with latched := c.latched ||| d.bit }
  if c.started && c.mode d != .off then c'.send (.condition d.index 2 true) else c'

/-- An owner sets or clears a condition's live state. -/
def setLive (d : Condition) (v : Bool) (s : State) : State := { s with clp := s.clp.setLive d v }

/-- An owner latches a latch-only condition. -/
def latch (d : Condition) (s : State) : State := { s with clp := s.clp.latch d }

/-- The latches named in a mask are cleared where their live state is not set (R198). -/
def Clp.clearLatches (c : Clp) (mask : BitVec 30) : Clp :=
  { c with latched := c.latched &&& (~~~mask ||| c.live) }

end Sys2Proof.Machine
end

