-- ==== Sys2Proof/Machine/Moment.lean ====
section
/-! DEFINITION. Moment Limiting and Warnings (08): the evaluation of MLM, the factors it hands VDR, the
horn and the lamp, and their requests. -/

namespace Sys2Proof.Machine

/-! ## Load moment -/

/-- The net value used and its basis (R147). -/
def netUsed (s : State) : Int × Basis :=
  match s.ltr.state with
  | .weighed => ((s.ltr.result.map LiftResult.net).getD 0, .result)
  | .lifted =>
    match s.wen.liveEstimate with
    | some x => (x, .live)
    | none => (s.ltr.settings.liftOffThreshold, .threshold)
  | .idle =>
    match s.wen.liveEstimate with
    | some x => (x, .live)
    | none => (0, .none)
  | .gripped =>
    match s.wen.liveEstimate with
    | some x => (x, .live)
    | none => (0, .none)

/-- The longest reach the crane can have (R148). -/
def longestReach (g : GeometrySettings) : Nat := g.l1 + g.l2 + g.eMax

/-- The reach used, and the mark of the longest reach (R148). -/
def reachUsed (g : Geo) : Nat × Bool :=
  match g.position with
  | some p => (p.reach, false)
  | none => (longestReach g.geometry, true)

/-- M in kg·m (R147). -/
def loadMoment (net : Int) (tare reach : Nat) : Nat :=
  (roundDiv ((max net 0 + tare) * reach) 10000).toNat

/-! ## Permitted moment and utilisation -/

/-- D (R149). -/
def derateFor (l : LimiterSettings) : Option Int → Nat
  | none => l.dMin
  | some tau =>
    let d := floorDiv (10000 - l.kd * max tau 0) 10
    if d < l.dMin then l.dMin else d.toNat

/-- M_perm in kg·m (R149). -/
def permittedMoment (mBase derate : Nat) : Nat := mBase * derate / 1000

/-- u in ‰ (R150). -/
def utilisation (moment permitted : Nat) : Nat :=
  if permitted = 0 then (if 0 < moment then 1000 else 0)
  else saturate16 (1000 * moment / permitted)

/-- The tilt test passes when the total tilt is known and below the limit (R151). -/
def tiltTest (tilt : Option Nat) (limit : Nat) : Bool :=
  match tilt with
  | none => false
  | some t => t < limit

/-- The figures of an evaluation on the inputs as they stand (R147 to R151). -/
def momentFigures (s : State) : MomentFigures :=
  let net := netUsed s
  let reach := reachUsed s.geo
  let tare := s.wen.calibration.tare
  let derate := derateFor s.mlm.limiter s.geo.tau
  let permitted := permittedMoment s.sto.working.mBase derate
  let moment := loadMoment net.1 tare reach.1
  { net := net.1
    basis := net.2
    tare := tare
    reach := reach.1
    longest := reach.2
    tau := s.geo.tau
    tilt := s.geo.tilt
    tiltPass := tiltTest s.geo.tilt s.sto.working.tilt
    derate := derate
    mBase := s.sto.working.mBase
    permitted := permitted
    moment := moment
    utilisation := utilisation moment permitted }

/-! ## Stages -/

/-- The stage after an evaluation (R151). -/
def nextStage (before : Stage) (u : Nat) (tiltPass : Bool) (warn : Nat) : Stage :=
  match before with
  | .free => if 1000 ≤ u || !tiltPass then .hold else if warn ≤ u then .derate else .free
  | .derate => if 1000 ≤ u || !tiltPass then .hold else if u + 30 ≤ warn then .free else .derate
  | .hold => if u ≤ 970 && tiltPass then .derate else .hold

/-! ## Factors -/

/-- The moment factor (R153). -/
def momentFactor (stage : Stage) (u warn : Nat) : Nat :=
  match stage with
  | .free => 1000
  | .derate => (clamp 0 1000 (floorDiv ((1000 - (u : Int)) * 1000) (1000 - warn))).toNat
  | .hold => 0

/-- MLM is degraded without a source or without valid geometry (R154). -/
def isDegraded (s : State) : Bool := s.wen.source == .none || !s.geo.valid

/-- φ lies in the sector from a clockwise to b, both ends included (R50). -/
def inSector (a b phi : Nat) : Bool :=
  if a ≤ b then a ≤ phi && phi ≤ b else a ≤ phi || phi ≤ b

/-- The distance from a clockwise on to b, in 0.1° (R155). -/
def clockwise (a b : Nat) : Nat := (((b : Int) - a) % 3600).toNat

/-- The cab-sector block: the row of the table and the two SLEW factors (R155). A slew angle in both
approaches is reported under the row before φ_c1 (log 14). -/
def cabBlock (z : ZoneSettings) (position : Option Position) : SlewCase × FactorPair :=
  match position with
  | none => (.absent, ⟨0, 0⟩)
  | some p =>
    if z.cabRadius ≤ p.reach then (.outside, ⟨1000, 1000⟩)
    else if inSector z.cabFrom z.cabTo p.slew then
      if clockwise p.slew z.cabTo < clockwise z.cabFrom p.slew then (.inSector, ⟨1000, 0⟩)
      else (.inSector, ⟨0, 1000⟩)
    else
      let before := Nat.inRange 1 30 (clockwise p.slew z.cabFrom)
      let after := Nat.inRange 1 30 (clockwise z.cabTo p.slew)
      (if before then .before else if after then .after else .clear,
        ⟨if before then 0 else 1000, if after then 0 else 1000⟩)

/-- The twelve factors (R156), from the moment factor as capped by R154 and the cab-sector block. -/
def factorsFor (capped : Nat) (slew : FactorPair) : PerSection FactorPair where
  slew := slew
  boom := ⟨1000, capped⟩
  jib := ⟨capped, 1000⟩
  tele := ⟨capped, 1000⟩
  rotate := ⟨1000, 1000⟩
  grapple := ⟨1000, 1000⟩

/-! ## Horn and lamp -/

/-- The pattern for a stage and a link state (R157). -/
def patternFor (stage : Stage) (link : LinkState) : HornPattern :=
  match stage with
  | .hold => .continuous
  | .derate => .derate
  | .free => if link = .failed then .link else .silent

/-- The tones (`true`) and silences of a pattern's cycle with their times in ms (R157). A pattern
without a cycle has one segment and no time. -/
def HornPattern.segments : HornPattern → List (Bool × Timer)
  | .continuous => [(true, none)]
  | .derate => [(true, some 200), (false, some 600)]
  | .link => [(true, some 100), (false, some 100), (true, some 100), (false, some 1700)]
  | .silent => [(false, none)]

/-- The segment of a pattern's cycle. -/
def HornPattern.segmentAt (p : HornPattern) (i : Nat) : Bool × Timer := p.segments.getD i (false, none)

/-- A tone is sounding (R158). -/
def Mlm.toneOn (m : Mlm) : Bool := (m.pattern.segmentAt m.segment).1

/-- The half-period of the square wave, in ticks of 1/32,768 s: P × (n + 1) (R158). -/
def halfPeriod (t : HornSettings) : Nat := t.p * (t.n + 1)

/-- A whole half-period, in the unit of the wave timer (R158). -/
def waveTime (t : HornSettings) : Timer := some (halfPeriod t * 125)

/-- The horn enters a segment of its pattern; the square wave begins high at the start of each tone, with a
whole half-period to run, and the line is low in a silence (R158). -/
def Mlm.enterSegment (m : Mlm) (p : HornPattern) (i : Nat) : Mlm :=
  { m with
    pattern := p
    segment := i
    segmentTimer := (p.segmentAt i).2
    waveTimer := if (p.segmentAt i).1 then waveTime m.horn else none
    hornHigh := (p.segmentAt i).1 }

/-- A pattern other than the one in force begins its cycle; the same pattern runs on (R157). -/
def Mlm.selectPattern (m : Mlm) (p : HornPattern) : Mlm :=
  if m.pattern = p then m else m.enterSegment p 0

/-- The lamp signal after an evaluation (R159). -/
def Mlm.setLamp (m : Mlm) (before after : Stage) : Mlm :=
  match after with
  | .free => { m with lampHigh := false, flashTimer := none }
  | .derate => { m with lampHigh := true, flashTimer := none }
  | .hold => if before = .hold then m else { m with lampHigh := true, flashTimer := some 250 }

/-! ## The evaluation -/

/-- MLM's state after an evaluation on the inputs as they stand (R146). -/
def evaluatedMlm (s : State) : Mlm :=
  let f := momentFigures s
  let stage := nextStage s.mlm.stage f.utilisation f.tiltPass s.mlm.limiter.warn
  let factor := momentFactor stage f.utilisation s.mlm.limiter.warn
  let capped := if isDegraded s then min factor 300 else factor
  let block := cabBlock s.geo.zonesUsed s.geo.position
  (({ s.mlm with
      figures := f
      stage := stage
      degraded := isDegraded s
      momentFactor := factor
      factors := factorsFor capped block.2
      slewCase := block.1 } : Mlm).setLamp s.mlm.stage stage).selectPattern
    (patternFor stage s.tlc.link)

/-- One evaluation, taken whole: MLM's figures, stage, factors and warnings, the factors handed to VDR,
and the live state of LIMIT_HOLD (R146, R151). -/
def evaluate (s : State) : State :=
  { s with
    mlm := evaluatedMlm s
    vdr := { s.vdr with factors := (evaluatedMlm s).factors }
    clp := s.clp.setLive .limitHold ((evaluatedMlm s).stage == .hold) }

/-- The horn pattern selected again at a change of the tip link into or out of FAILED (R157). -/
def selectHorn (s : State) : State :=
  { s with mlm := s.mlm.selectPattern (patternFor s.mlm.stage s.tlc.link) }

/-! ## Commands -/

/-- HORN_PATTERN_STEP: a pattern with a cycle goes on to its next segment (R157, R158). -/
def stepPattern (s : State) : State :=
  if (s.mlm.pattern.segmentAt s.mlm.segment).2.isSome then
    { s with
      mlm := s.mlm.enterSegment s.mlm.pattern
        ((s.mlm.segment + 1) % s.mlm.pattern.segments.length) }
  else s

def execHornPatternStep (s : State) : Host.Outcome State Fault Refusal :=
  .next (whenPowered stepPattern s)

/-- HORN_HALF_PERIOD: during a tone the square wave alternates, and its next half-period begins (R158). -/
def toggleHorn (s : State) : State :=
  if s.mlm.toneOn then
    { s with
      mlm := { s.mlm with hornHigh := !s.mlm.hornHigh, waveTimer := waveTime s.mlm.horn } }
  else s

def execHornHalfPeriod (s : State) : Host.Outcome State Fault Refusal :=
  .next (whenPowered toggleHorn s)

/-- LAMP_FLASH_STEP: in HOLD the lamp toggles every 250 ms (R159). -/
def flashLamp (s : State) : State :=
  if s.mlm.stage = .hold then
    { s with mlm := { s.mlm with lampHigh := !s.mlm.lampHigh, flashTimer := some 250 } }
  else s

def execLampFlashStep (s : State) : Host.Outcome State Fault Refusal :=
  .next (whenPowered flashLamp s)

/-- SET LIMITER: the settings are replaced and MLM makes an evaluation under them (R160). -/
def execSetLimiter (t : LimiterSettings) (s : State) : Host.Outcome State Fault Refusal :=
  .next (if t.accepted then
      answer 0x40 .ok [] (fun s => evaluate { s with mlm := { s.mlm with limiter := t } }) s
    else refuse 0x40 .badValue s)

/-- The tone settings are replaced; during a tone the square wave restarts high, at the new half-period
(R161). -/
def Mlm.takeHorn (m : Mlm) (t : HornSettings) : Mlm :=
  if m.toneOn then { m with horn := t, waveTimer := waveTime t, hornHigh := true }
  else { m with horn := t }

/-- SET HORN (R161). -/
def execSetHorn (t : HornSettings) (s : State) : Host.Outcome State Fault Refusal :=
  .next (if t.accepted then
      answer 0x41 .ok [] (fun s => { s with mlm := s.mlm.takeHorn t }) s
    else refuse 0x41 .badValue s)

def FactorPair.bytes (f : FactorPair) : List Byte := u16 f.positive ++ u16 f.negative

/-- The reply data of READ LIMITER (R162). DESIGN CHOICE (log 12): the result of the tilt test is 1 when it passes, 0
when it fails. -/
def readLimiterData (s : State) : List Byte :=
  let m := s.mlm
  let f := m.figures
  i32 f.net ++ u8 f.basis.code ++ u16 f.tare ++ u16 f.reach ++ flag f.longest
    ++ opt i16 f.tau ++ opt u16 f.tilt ++ flag f.tiltPass
    ++ u16 f.derate ++ u16 f.mBase ++ u16 f.permitted ++ u32 f.moment ++ u16 f.utilisation
    ++ u8 m.stage.code ++ flag m.degraded ++ flag (s.clp.isLive .limitHold)
    ++ u16 m.momentFactor ++ m.factors.toList.flatMap FactorPair.bytes
    ++ u8 m.slewCase.code ++ u8 m.pattern.code ++ flag m.lampHigh
    ++ u8 m.limiter.kd ++ u16 m.limiter.dMin ++ u16 m.limiter.warn ++ u8 m.horn.p ++ u8 m.horn.n
    ++ u16 s.sto.working.tilt

/-- READ LIMITER (R162). -/
def execReadLimiter (s : State) : Host.Outcome State Fault Refusal :=
  .next (answer 0x42 .ok (readLimiterData s) id s)

end Sys2Proof.Machine
end

