-- ==== Sys2Proof/Machine/Trig.lean ====
section
/-! DEFINITION. The cosine table of R43 and the cosine and sine GEO takes from it. -/

namespace Sys2Proof.Machine

/-- Entries 0 to 49 of R43. -/
def cosRow000 : List Nat := [
    16384, 16384, 16384, 16384, 16384, 16383, 16383, 16383, 16382, 16382,
    16382, 16381, 16380, 16380, 16379, 16378, 16378, 16377, 16376, 16375,
    16374, 16373, 16372, 16371, 16370, 16368, 16367, 16366, 16364, 16363,
    16362, 16360, 16358, 16357, 16355, 16353, 16352, 16350, 16348, 16346,
    16344, 16342, 16340, 16338, 16336, 16333, 16331, 16329, 16327, 16324]

/-- Entries 50 to 99 of R43. -/
def cosRow050 : List Nat := [
    16322, 16319, 16317, 16314, 16311, 16309, 16306, 16303, 16300, 16297,
    16294, 16291, 16288, 16285, 16282, 16279, 16275, 16272, 16269, 16265,
    16262, 16258, 16255, 16251, 16248, 16244, 16240, 16236, 16232, 16229,
    16225, 16221, 16216, 16212, 16208, 16204, 16200, 16195, 16191, 16187,
    16182, 16178, 16173, 16169, 16164, 16159, 16155, 16150, 16145, 16140]

/-- Entries 100 to 149 of R43. -/
def cosRow100 : List Nat := [
    16135, 16130, 16125, 16120, 16115, 16110, 16104, 16099, 16094, 16088,
    16083, 16077, 16072, 16066, 16061, 16055, 16049, 16044, 16038, 16032,
    16026, 16020, 16014, 16008, 16002, 15996, 15989, 15983, 15977, 15970,
    15964, 15958, 15951, 15945, 15938, 15931, 15925, 15918, 15911, 15904,
    15897, 15890, 15883, 15876, 15869, 15862, 15855, 15848, 15840, 15833]

/-- Entries 150 to 199 of R43. -/
def cosRow150 : List Nat := [
    15826, 15818, 15811, 15803, 15796, 15788, 15780, 15773, 15765, 15757,
    15749, 15741, 15733, 15725, 15717, 15709, 15701, 15693, 15685, 15676,
    15668, 15660, 15651, 15643, 15634, 15626, 15617, 15608, 15600, 15591,
    15582, 15573, 15564, 15555, 15546, 15537, 15528, 15519, 15510, 15501,
    15491, 15482, 15473, 15463, 15454, 15444, 15435, 15425, 15415, 15406]

/-- Entries 200 to 249 of R43. -/
def cosRow200 : List Nat := [
    15396, 15386, 15376, 15366, 15356, 15346, 15336, 15326, 15316, 15306,
    15296, 15286, 15275, 15265, 15254, 15244, 15233, 15223, 15212, 15202,
    15191, 15180, 15169, 15159, 15148, 15137, 15126, 15115, 15104, 15093,
    15082, 15070, 15059, 15048, 15036, 15025, 15014, 15002, 14991, 14979,
    14968, 14956, 14944, 14932, 14921, 14909, 14897, 14885, 14873, 14861]

/-- Entries 250 to 299 of R43. -/
def cosRow250 : List Nat := [
    14849, 14837, 14825, 14812, 14800, 14788, 14776, 14763, 14751, 14738,
    14726, 14713, 14701, 14688, 14675, 14663, 14650, 14637, 14624, 14611,
    14598, 14585, 14572, 14559, 14546, 14533, 14520, 14506, 14493, 14480,
    14466, 14453, 14439, 14426, 14412, 14399, 14385, 14371, 14357, 14344,
    14330, 14316, 14302, 14288, 14274, 14260, 14246, 14232, 14217, 14203]

/-- Entries 300 to 349 of R43. -/
def cosRow300 : List Nat := [
    14189, 14175, 14160, 14146, 14131, 14117, 14102, 14088, 14073, 14059,
    14044, 14029, 14014, 13999, 13985, 13970, 13955, 13940, 13925, 13910,
    13894, 13879, 13864, 13849, 13833, 13818, 13803, 13787, 13772, 13756,
    13741, 13725, 13710, 13694, 13678, 13662, 13647, 13631, 13615, 13599,
    13583, 13567, 13551, 13535, 13519, 13502, 13486, 13470, 13454, 13437]

/-- Entries 350 to 399 of R43. -/
def cosRow350 : List Nat := [
    13421, 13405, 13388, 13372, 13355, 13338, 13322, 13305, 13288, 13272,
    13255, 13238, 13221, 13204, 13187, 13170, 13153, 13136, 13119, 13102,
    13085, 13068, 13050, 13033, 13016, 12998, 12981, 12963, 12946, 12928,
    12911, 12893, 12875, 12858, 12840, 12822, 12804, 12787, 12769, 12751,
    12733, 12715, 12697, 12679, 12660, 12642, 12624, 12606, 12588, 12569]

/-- Entries 400 to 449 of R43. -/
def cosRow400 : List Nat := [
    12551, 12532, 12514, 12496, 12477, 12458, 12440, 12421, 12403, 12384,
    12365, 12346, 12328, 12309, 12290, 12271, 12252, 12233, 12214, 12195,
    12176, 12157, 12137, 12118, 12099, 12080, 12060, 12041, 12021, 12002,
    11982, 11963, 11943, 11924, 11904, 11885, 11865, 11845, 11825, 11806,
    11786, 11766, 11746, 11726, 11706, 11686, 11666, 11646, 11626, 11605]

/-- Entries 450 to 499 of R43. -/
def cosRow450 : List Nat := [
    11585, 11565, 11545, 11524, 11504, 11484, 11463, 11443, 11422, 11402,
    11381, 11361, 11340, 11319, 11299, 11278, 11257, 11236, 11216, 11195,
    11174, 11153, 11132, 11111, 11090, 11069, 11048, 11027, 11005, 10984,
    10963, 10942, 10920, 10899, 10878, 10856, 10835, 10813, 10792, 10770,
    10749, 10727, 10706, 10684, 10662, 10641, 10619, 10597, 10575, 10553]

/-- Entries 500 to 549 of R43. -/
def cosRow500 : List Nat := [
    10531, 10510, 10488, 10466, 10444, 10422, 10399, 10377, 10355, 10333,
    10311, 10289, 10266, 10244, 10222, 10199, 10177, 10154, 10132, 10110,
    10087, 10064, 10042, 10019, 9997, 9974, 9951, 9929, 9906, 9883,
    9860, 9837, 9814, 9791, 9769, 9746, 9723, 9700, 9676, 9653,
    9630, 9607, 9584, 9561, 9538, 9514, 9491, 9468, 9444, 9421]

/-- Entries 550 to 599 of R43. -/
def cosRow550 : List Nat := [
    9397, 9374, 9351, 9327, 9304, 9280, 9256, 9233, 9209, 9186,
    9162, 9138, 9114, 9091, 9067, 9043, 9019, 8995, 8971, 8947,
    8923, 8899, 8875, 8851, 8827, 8803, 8779, 8755, 8731, 8706,
    8682, 8658, 8634, 8609, 8585, 8561, 8536, 8512, 8487, 8463,
    8438, 8414, 8389, 8365, 8340, 8316, 8291, 8266, 8241, 8217]

/-- Entries 600 to 649 of R43. -/
def cosRow600 : List Nat := [
    8192, 8167, 8142, 8118, 8093, 8068, 8043, 8018, 7993, 7968,
    7943, 7918, 7893, 7868, 7843, 7818, 7793, 7767, 7742, 7717,
    7692, 7667, 7641, 7616, 7591, 7565, 7540, 7515, 7489, 7464,
    7438, 7413, 7387, 7362, 7336, 7311, 7285, 7259, 7234, 7208,
    7182, 7157, 7131, 7105, 7079, 7053, 7028, 7002, 6976, 6950]

/-- Entries 650 to 699 of R43. -/
def cosRow650 : List Nat := [
    6924, 6898, 6872, 6846, 6820, 6794, 6768, 6742, 6716, 6690,
    6664, 6638, 6612, 6586, 6559, 6533, 6507, 6481, 6454, 6428,
    6402, 6375, 6349, 6323, 6296, 6270, 6243, 6217, 6191, 6164,
    6138, 6111, 6084, 6058, 6031, 6005, 5978, 5952, 5925, 5898,
    5872, 5845, 5818, 5791, 5765, 5738, 5711, 5684, 5657, 5631]

/-- Entries 700 to 749 of R43. -/
def cosRow700 : List Nat := [
    5604, 5577, 5550, 5523, 5496, 5469, 5442, 5415, 5388, 5361,
    5334, 5307, 5280, 5253, 5226, 5199, 5172, 5144, 5117, 5090,
    5063, 5036, 5009, 4981, 4954, 4927, 4899, 4872, 4845, 4818,
    4790, 4763, 4735, 4708, 4681, 4653, 4626, 4598, 4571, 4544,
    4516, 4489, 4461, 4434, 4406, 4378, 4351, 4323, 4296, 4268]

/-- Entries 750 to 799 of R43. -/
def cosRow750 : List Nat := [
    4240, 4213, 4185, 4158, 4130, 4102, 4075, 4047, 4019, 3991,
    3964, 3936, 3908, 3880, 3853, 3825, 3797, 3769, 3741, 3713,
    3686, 3658, 3630, 3602, 3574, 3546, 3518, 3490, 3462, 3434,
    3406, 3378, 3350, 3322, 3294, 3266, 3238, 3210, 3182, 3154,
    3126, 3098, 3070, 3042, 3014, 2986, 2958, 2929, 2901, 2873]

/-- Entries 800 to 849 of R43. -/
def cosRow800 : List Nat := [
    2845, 2817, 2789, 2761, 2732, 2704, 2676, 2648, 2619, 2591,
    2563, 2535, 2507, 2478, 2450, 2422, 2393, 2365, 2337, 2309,
    2280, 2252, 2224, 2195, 2167, 2139, 2110, 2082, 2053, 2025,
    1997, 1968, 1940, 1912, 1883, 1855, 1826, 1798, 1769, 1741,
    1713, 1684, 1656, 1627, 1599, 1570, 1542, 1513, 1485, 1456]

/-- Entries 850 to 899 of R43. -/
def cosRow850 : List Nat := [
    1428, 1399, 1371, 1342, 1314, 1285, 1257, 1228, 1200, 1171,
    1143, 1114, 1086, 1057, 1029, 1000, 972, 943, 915, 886,
    857, 829, 800, 772, 743, 715, 686, 658, 629, 600,
    572, 543, 515, 486, 457, 429, 400, 372, 343, 315,
    286, 257, 229, 200, 172, 143, 114, 86, 57, 29]

/-- Entries 900 to 900 of R43. -/
def cosRow900 : List Nat := [
    0]

/-- The fixed table of 901 entries: entry i is 16,384 × cos(i × 0.1°), rounded (R43). -/
def cosTable : List Nat :=
  cosRow000 ++ cosRow050 ++ cosRow100 ++ cosRow150 ++ cosRow200 ++ cosRow250 ++
  cosRow300 ++ cosRow350 ++ cosRow400 ++ cosRow450 ++ cosRow500 ++ cosRow550 ++
  cosRow600 ++ cosRow650 ++ cosRow700 ++ cosRow750 ++ cosRow800 ++ cosRow850 ++
  cosRow900

/-- Entry i of the table (R43). -/
def cosEntry (i : Nat) : Int := (cosTable.getD i 0 : Nat)

/-- The cosine of an angle in 0.1°, in parts of 16,384 (R43). -/
def cosine (a : Int) : Int :=
  let r := (a % 3600).toNat
  if r ≤ 900 then cosEntry r
  else if r ≤ 1800 then -cosEntry (1800 - r)
  else if r ≤ 2700 then -cosEntry (r - 1800)
  else cosEntry (3600 - r)

/-- The sine of a is the cosine of 900 − a (R43). -/
def sine (a : Int) : Int := cosine (900 - a)

end Sys2Proof.Machine
end

