-- ==== Sys2Proof/Machine/Geometry.lean ====
section
/-! DEFINITION. Crane Geometry and Working Zones (03): the geometry update of an acquisition frame, the
zones and their debounce, and the requests of GEO. -/

namespace Sys2Proof.Machine

/-! ## Tip position -/

/-- The extension in use, e′: TELE clamped to 0..e_max (R44). -/
def extensionInUse (g : GeometrySettings) (tele : Int) : Nat := (clamp 0 g.eMax tele).toNat

/-- The jib direction, δ = β + γ − 1,800 (R44). -/
def jibDirection (boom jib : Int) : Int := boom + jib - 1800

/-- Reach in mm, never below 0 (R45). -/
def reachOf (g : GeometrySettings) (boom direction : Int) (extension : Nat) : Nat :=
  (roundDiv (g.l1 * cosine boom + ((g.l2 : Int) + extension) * cosine direction) 16384).toNat

/-- Height in mm, signed (R46). -/
def heightOf (g : GeometrySettings) (boom direction : Int) (extension : Nat) : Int :=
  g.h0 + roundDiv (g.l1 * sine boom + ((g.l2 : Int) + extension) * sine direction) 16384

/-- The tip position from the four geometry values (R44 to R46). -/
def positionOf (g : GeometrySettings) (slew boom jib tele : Int) : Position :=
  let e := extensionInUse g tele
  let d := jibDirection boom jib
  { reach := reachOf g boom d e
    height := heightOf g boom d e
    slew := slew.toNat
    extension := e
    direction := d }

/-- The results present when each of the four channels delivers a value (R49). -/
def framePosition (g : GeometrySettings) (c : PerChannel ChannelState) : Option Position :=
  match c.slew.value, c.boom.value, c.jib.value, c.tele.value with
  | some s, some b, some j, some t => some (positionOf g s b j t)
  | _, _, _, _ => none

/-! ## Tilt and validity -/

/-- A channel's value when it is not faulted (R6). -/
def ChannelState.liveValue (c : ChannelState) : Option Int :=
  match c.status with
  | .good => c.value
  | _ => none

/-- τ in 0.1° (R47). -/
def downhill (pitch roll slew : Int) : Int :=
  roundDiv (pitch * cosine slew + roll * sine slew) 16384

/-- τ of a frame; unknown when PITCH, ROLL or SLEW is faulted (R47). -/
def frameTau (c : PerChannel ChannelState) : Option Int :=
  match c.pitch.liveValue, c.roll.liveValue, c.slew.liveValue with
  | some p, some r, some s => some (downhill p r s)
  | _, _, _ => none

/-- The total tilt of a frame; unknown when PITCH or ROLL is faulted (R48). -/
def frameTilt (c : PerChannel ChannelState) : Option Nat :=
  match c.pitch.liveValue, c.roll.liveValue with
  | some p, some r => some (max p.natAbs r.natAbs)
  | _, _ => none

/-- None of SLEW, BOOM, JIB and TELE is faulted (R49). -/
def frameValid (c : PerChannel ChannelState) : Bool :=
  c.slew.status == .good && c.boom.status == .good && c.jib.status == .good
    && c.tele.status == .good

/-! ## Zones -/

/-- The raw zone: the first line of R51's table that applies. -/
def zoneOf (z : ZoneSettings) (valid : Bool) (position : Option Position) : Zone :=
  match valid, position with
  | true, some p =>
    if inSector z.cabFrom z.cabTo p.slew && p.reach < z.cabRadius then .cab
    else if inSector z.bunkFrom z.bunkTo p.slew && Nat.inRange z.bunkMin z.bunkMax p.reach then
      .bunk
    else .ground
  | _, _ => .unknown

/-- The debounced zone and candidate after a raw zone (R52). -/
def debounceZone (raw zone : Zone) (candidate : Option ZoneCandidate) :
    Zone × Option ZoneCandidate :=
  if raw = .unknown then (.unknown, none)
  else if raw = zone then (zone, none)
  else
    match candidate with
    | none => (zone, some ⟨raw, 1⟩)
    | some c =>
      if c.zone = raw then (if c.count < 2 then (zone, some ⟨raw, c.count + 1⟩) else (raw, none))
      else (zone, some ⟨raw, 1⟩)

/-- GEO after a frame's channel results (R41); new zone settings reach MLM's block here (R54). -/
def Geo.update (g : Geo) (c : PerChannel ChannelState) : Geo :=
  let position := framePosition g.geometry c
  let raw := zoneOf g.zones (frameValid c) position
  let zone := debounceZone raw g.zone g.candidate
  { g with
    valid := frameValid c
    position := position
    tau := frameTau c
    tilt := frameTilt c
    rawZone := raw
    zone := zone.1
    candidate := zone.2
    zonesUsed := g.zones }

/-- The geometry update of a frame, with the live state of GEOMETRY_INVALID (R41, R49). -/
def updateGeometry (s : State) : State :=
  { s with
    geo := s.geo.update s.iau.channels
    clp := s.clp.setLive .geometryInvalid (!frameValid s.iau.channels) }

/-! ## Requests -/

/-- SET GEOMETRY: in effect from the next acquisition frame (R53). -/
def execSetGeometry (t : GeometrySettings) (s : State) : Host.Outcome State Fault Refusal :=
  .next (if t.accepted then
      answer 0x10 .ok [] (fun s => { s with geo := { s.geo with geometry := t } }) s
    else refuse 0x10 .badValue s)

/-- SET ZONES: in effect from the next acquisition frame (R54). -/
def execSetZones (t : ZoneSettings) (s : State) : Host.Outcome State Fault Refusal :=
  .next (if t.accepted then
      answer 0x11 .ok [] (fun s => { s with geo := { s.geo with zones := t } }) s
    else refuse 0x11 .badValue s)

def GeometrySettings.bytes (t : GeometrySettings) : List Byte :=
  u16 t.l1 ++ u16 t.l2 ++ u16 t.h0 ++ u16 t.eMax

def ZoneSettings.bytes (t : ZoneSettings) : List Byte :=
  u16 t.bunkFrom ++ u16 t.bunkTo ++ u16 t.bunkMin ++ u16 t.bunkMax ++ u16 t.cabFrom ++ u16 t.cabTo
    ++ u16 t.cabRadius

/-- The reply data of READ GEOMETRY (R55). -/
def readGeometryData (s : State) : List Byte :=
  let g := s.geo
  flag g.valid ++ flag (s.clp.isLive .geometryInvalid)
    ++ opt u16 (g.position.map Position.slew) ++ opt u16 (g.position.map Position.reach)
    ++ opt i16 (g.position.map Position.height) ++ opt u16 (g.position.map Position.extension)
    ++ opt i16 (g.position.map Position.direction) ++ opt i16 g.tau ++ opt u16 g.tilt
    ++ u8 g.rawZone.code ++ u8 g.zone.code
    ++ opt (fun c : ZoneCandidate => u8 c.zone.code ++ u8 c.count) g.candidate
    ++ GeometrySettings.bytes g.geometry ++ ZoneSettings.bytes g.zones

/-- READ GEOMETRY (R55). -/
def execReadGeometry (s : State) : Host.Outcome State Fault Refusal :=
  .next (answer 0x12 .ok (readGeometryData s) id s)

end Sys2Proof.Machine
end

