-- ==== Sys2Proof/Machine/LiftLog.lean ====
section
/-! DEFINITION. Lift Log and Time Base (07): the module clock, the ring and its entries, the capture
enables, and their requests. -/

namespace Sys2Proof.Machine

/-! ## Entries -/

/-- The capture enable that governs an entry (R138). -/
def Enables.governs (e : Enables) : EntryPart → Bool
  | .lift p =>
    match p.outcome with
    | .loaded => e.tallied
    | .unloaded => e.tallied
    | .restacked => e.untallied
    | .moved => e.untallied
    | .unplaced => e.untallied
    | .empty => e.untallied
    | .dropped => e.dropped
  | .mark _ => e.mark
  | .loadClosed _ => e.system
  | .cal _ => e.system

/-- An entry joins the ring: a full ring discards its oldest entry, and the new entry's overwrite flag
says so (R139). -/
def Log.append (l : Log) (p : EntryPart) : Log :=
  let full := decide (128 ≤ l.ring.length)
  { l with
    ring := (if full then l.ring.drop 1 else l.ring) ++ [⟨l.nextSequence, l.clock, full, p⟩]
    nextSequence := l.nextSequence + 1 }

/-- LOG takes a handoff: it appends an entry when the enable of its class is on (R138), and CLP sends
LOG_PENDING when the append takes the ring from empty (R140). -/
def record (p : EntryPart) (s : State) : State :=
  { s with
    log := if s.log.enables.governs p then s.log.append p else s.log
    clp :=
      if s.log.enables.governs p && s.log.ring.isEmpty then
        s.clp.send (.logPending s.log.nextSequence)
      else s.clp }

/-- The snapshot a mark takes of WEN, GEO and LTR (R136). -/
def markPart (s : State) : MarkPart where
  liveEstimate := s.wen.liveEstimate
  reachSlew := if s.geo.valid then s.geo.position.map fun p => (p.reach, p.slew) else none
  zone := s.geo.zone
  liftState := s.ltr.state

/-- A mark, from either cause (R136). -/
def makeMark (s : State) : State := record (.mark (markPart s)) s

/-! ## The clock -/

/-- The running stamps of IAU and LTR move by a SET CLOCK step (R132). -/
def shiftRunningStamps (step : Int) (s : State) : State :=
  let move := Option.map (fun t : Stamp => t.shift step)
  { s with
    iau :=
      { s.iau with
        lines := s.iau.lines.map fun _ l =>
          { l with candidate := l.candidate.map fun c => { c with since := c.since.shift step } } }
    ltr :=
      { s.ltr with
        gripStart := move s.ltr.gripStart
        releaseStart := move s.ltr.releaseStart
        liftOffStart := move s.ltr.liftOffStart
        dropStart := move s.ltr.dropStart } }

/-- The step of a SET CLOCK: the new reading less the old one, in ms, with no reduction (R132). -/
def clockStep (seconds : BitVec 32) (old : Stamp) : Int := (seconds.toNat : Int) * 1000 - old.toMs

/-- The clock takes a new reading and every running stamp moves with it (R132). -/
def takeClock (seconds : BitVec 32) (s : State) : State :=
  let s' := shiftRunningStamps (clockStep seconds s.log.clock) s
  { s' with log := { s'.log with clock := ⟨seconds, 0⟩ } }

/-- A section's group of pulse periods begins, on the codes handed last (R173). -/
def SectionState.beginGroup (x : SectionState) : SectionState := { x with driven := x.duty }

/-- One millisecond of VDR's timers and of the coil driver: a group that has lasted its 2 ms gives way to the
next, which drives every coil with the code handed last (R173). -/
def Vdr.passMillisecond (d : Vdr) : Vdr :=
  let ended := match d.groupTimer with
    | none => false
    | some n => n ≤ 1
  { d with
    sections := if ended then d.sections.map fun _ x => x.beginGroup else d.sections
    leverTimer := d.leverTimer.tick
    driveTimer := d.driveTimer.tick
    groupTimer := if ended then some 2 else d.groupTimer.tick }

/-- One elapsed millisecond: the clock advances (R130), and each block's own running timer has one
millisecond less to run. -/
def passMillisecond (s : State) : State :=
  { s with
    log := { s.log with clock := s.log.clock.next }
    iau := { s.iau with frameTimer := s.iau.frameTimer.tick }
    tlc :=
      { s.tlc with
        hailTimer := s.tlc.hailTimer.tick
        probeWindow := s.tlc.probeWindow.tick
        startWindow := s.tlc.startWindow.tick
        resend := s.tlc.resend.tick
        lossTimer := s.tlc.lossTimer.tick
        backOff := s.tlc.backOff.tick
        noiseInterval := s.tlc.noiseInterval.tick
        reportTimer := s.tlc.reportTimer.tick }
    wen := { s.wen with compensationTimer := s.wen.compensationTimer.tick }
    mlm :=
      { s.mlm with
        segmentTimer := s.mlm.segmentTimer.tick
        waveTimer := s.mlm.waveTimer.map (· - 4096)
        flashTimer := s.mlm.flashTimer.tick }
    vdr := s.vdr.passMillisecond
    clp :=
      { s.clp with
        liveTimer := s.clp.liveTimer.tick
        receiver :=
          { s.clp.receiver with sinceByte := s.clp.receiver.sinceByte.map (· + 1) } } }

/-! ## Commands -/

/-- CLOCK_MILLISECOND (R130). -/
def execClockMillisecond (s : State) : Host.Outcome State Fault Refusal :=
  .next (whenPowered passMillisecond s)

/-- SET CLOCK (R132). -/
def execSetClock (seconds : BitVec 32) (s : State) : Host.Outcome State Fault Refusal :=
  .next (answer 0x38 .ok [] (takeClock seconds) s)

/-- READ CLOCK (R133). -/
def execReadClock (s : State) : Host.Outcome State Fault Refusal :=
  .next (answer 0x39 .ok (stampBytes s.log.clock) id s)

/-- MARK: the reply carries the entry's sequence number, or its absence when the enable is off
(R142). -/
def execMark (s : State) : Host.Outcome State Fault Refusal :=
  let number := if s.log.enables.mark then some s.log.nextSequence.toNat else none
  .next (answer 0x3A .ok (opt u32 number) makeMark s)

/-- SET LOG (R143). -/
def execSetLog (f : EnableFields) (s : State) : Host.Outcome State Fault Refusal :=
  .next (match enablesOfFields f with
    | none => refuse 0x3B .badValue s
    | some e => answer 0x3B .ok [] (fun s => { s with log := { s.log with enables := e } }) s)

/-- The reply of READ LOG: entries returned, entries left, the entries (R141). -/
def readLogData (n : Nat) (l : Log) : List Byte :=
  let out := l.ring.take n
  u8 out.length ++ u8 (l.ring.length - out.length) ++ out.flatMap Entry.bytes

/-- READ LOG takes the oldest entries out of the ring (R141). -/
def execReadLog (n : Nat) (s : State) : Host.Outcome State Fault Refusal :=
  .next (if Nat.inRange 1 4 n then
      answer 0x3C .ok (readLogData n s.log)
        (fun s => { s with log := { s.log with ring := s.log.ring.drop n } }) s
    else refuse 0x3C .badValue s)

/-- The five enables in the order of R138. -/
def Enables.bytes (e : Enables) : List Byte :=
  u8 (onOffCode e.tallied) ++ u8 (onOffCode e.untallied) ++ u8 (onOffCode e.dropped)
    ++ u8 (onOffCode e.mark) ++ u8 (onOffCode e.system)

/-- READ LOG STATUS (R144). -/
def execReadLogStatus (s : State) : Host.Outcome State Fault Refusal :=
  .next (answer 0x3D .ok
    (u8 s.log.ring.length ++ opt (fun e : Entry => u32 e.sequence.toNat) s.log.ring.head?
      ++ u32 s.log.nextSequence.toNat ++ s.log.enables.bytes) id s)

end Sys2Proof.Machine
end

