-- ==== Sys2Proof/Machine/Tally.lean ====
section
/-! DEFINITION. Tally and Loads (06): the assortment table, the commits and their effect on the open
load, targets, PAYLOAD, closings, the load history, and the requests of TAL. -/

namespace Sys2Proof.Machine

/-! ## The open load -/

/-- The sum of the sixteen assortment masses (R111). -/
def Load.total (l : Load) : Nat := (l.figures.toList.map Figures.mass).sum

/-- The load's total, 0 when the record is NONE (R111). -/
def Tal.total (t : Tal) : Nat :=
  match t.load with
  | none => 0
  | some l => l.total

/-- The tally hold is active while the commanded hold is on or the switch is closed (R113). -/
def Tal.holdActive (t : Tal) : Bool := t.commandedHold || t.switchClosed

/-- An entry is defined when its label is not empty (R108). -/
def Tal.defined (t : Tal) (i : Fin 16) : Bool := !t.labels[i].isEmpty

/-- PAYLOAD is judged: live while the total is at least the rated payload (R122). -/
def judgePayload (s : State) : State :=
  setLive .payload (decide (s.sto.working.payload ≤ s.tal.total)) s

/-- Every enabled field of the target holds, and one is enabled (R121). -/
def Target.met (t : Target) (l : Load) : Bool :=
  (t.totalOn || t.liftsOn || t.assortmentOn)
    && (!t.totalOn || t.total ≤ l.total)
    && (!t.liftsOn || t.lifts ≤ l.loadedLifts)
    && (!t.assortmentOn || t.mass ≤ l.figures[t.index].mass)

/-- The target is evaluated: a load first meeting it sets its flag and a TARGET notice is sent (R121). -/
def evaluateTarget (s : State) : State :=
  match s.tal.load with
  | none => s
  | some l =>
    if s.tal.target.met l && !l.targetReached then
      notify (.target l.number l.total l.loadedLifts)
        { s with tal := { s.tal with load := some { l with targetReached := true } } }
    else s

/-! ## Closing a load -/

/-- One pair for each assortment whose mass or lifts is not 0, in ascending order of index (R125). -/
def summaryPairs (figures : Vector Figures 16) : List SummaryPair :=
  figures.toList.zipIdx.filterMap fun (f, i) =>
    if f.mass = 0 ∧ f.lifts = 0 then none else some ⟨i, f.mass, f.lifts⟩

/-- The summary of a load at its closing (R125). -/
def Load.summary (l : Load) (reason : CloseReason) (now : Stamp) : Summary where
  number := l.number
  openTime := l.openTime
  closeTime := now
  reason := reason
  total := l.total
  loadedLifts := l.loadedLifts
  unloadedLifts := l.unloadedLifts
  saturated := l.saturated
  pairs := summaryPairs l.figures

/-- A summary joins the history; the oldest of 8 is discarded first (R125). -/
def appendSummary (h : List Summary) (x : Summary) : List Summary :=
  (if 8 ≤ h.length then h.drop 1 else h) ++ [x]

/-- A load closes: its summary, its LOAD_CLOSED entry, the record NONE, PAYLOAD (R123). -/
def closeLoad (reason : CloseReason) (s : State) : State :=
  match s.tal.load with
  | none => s
  | some l =>
    let s1 := { s with
      tal := { s.tal with
        history := appendSummary s.tal.history (l.summary reason s.log.clock) } }
    let s2 := record
      (.loadClosed ⟨l.number, reason, l.total, l.loadedLifts, l.unloadedLifts⟩) s1
    judgePayload { s2 with tal := { s2.tal with load := none } }

/-! ## Commits -/

/-- The record a load opens with (R112). -/
def Load.opened (number : Nat) (now : Stamp) : Load where
  number := number
  openTime := now
  figures := Vector.replicate 16 ⟨0, 0, 0⟩
  loadedLifts := 0
  unloadedLifts := 0
  targetReached := false
  saturated := false

/-- After 65,535 the next load number is 1 (R112). -/
def nextLoadNumber (n : Nat) : Nat := if n = 65535 then 1 else n + 1

/-- A load opens when none is open (R112). -/
def openLoad (s : State) : State :=
  match s.tal.load with
  | some _ => s
  | none =>
    { s with
      tal :=
        { s.tal with
          load := some (.opened s.tal.nextNumber s.log.clock)
          nextNumber := nextLoadNumber s.tal.nextNumber } }

/-- The mass that a LOADED commit adds to an assortment that stands at `before` (R115, R116). -/
def loadedApplied (before mass : Nat) : Nat := if 60000 < before + mass then 60000 - before else mass

/-- A LOADED commit would bring the assortment past 60,000 kg (R116). -/
def saturates (before mass : Nat) : Bool := 60000 < before + mass

/-- An assortment's figures after a LOADED commit (R115, R116). -/
def Figures.afterLoaded (f : Figures) (mass : Nat) (q : Quality) : Figures where
  mass := f.mass + loadedApplied f.mass mass
  lifts := saturate16 (f.lifts + 1)
  unweighed := if q = .unweighed then saturate16 (f.unweighed + 1) else f.unweighed

/-- The load after a LOADED commit (R115, R116). -/
def Load.afterLoaded (l : Load) (a : Fin 16) (mass : Nat) (q : Quality) : Load :=
  { l with
    figures := l.figures.set a (l.figures[a].afterLoaded mass q)
    loadedLifts := saturate16 (l.loadedLifts + 1)
    saturated := l.saturated || saturates l.figures[a].mass mass }

/-- A LOADED commit that is not held: load, figures, TALLY_SATURATED, target, PAYLOAD (R115). -/
def commitLoaded (a : Fin 16) (mass : Nat) (q : Quality) (s : State) : State :=
  let s1 := openLoad s
  match s1.tal.load with
  | none => s1
  | some l =>
    let s2 := { s1 with tal := { s1.tal with load := some (l.afterLoaded a mass q) } }
    let s3 := if saturates l.figures[a].mass mass then latch .tallySaturated s2 else s2
    judgePayload (evaluateTarget s3)

/-- An assortment's figures after an UNLOADED commit (R117). -/
def Figures.afterUnloaded (f : Figures) (mass : Nat) (q : Quality) : Figures where
  mass := f.mass - mass
  lifts := f.lifts
  unweighed := if q = .unweighed then saturate16 (f.unweighed + 1) else f.unweighed

/-- The load after an UNLOADED commit (R117). -/
def Load.afterUnloaded (l : Load) (a : Fin 16) (mass : Nat) (q : Quality) : Load :=
  { l with
    figures := l.figures.set a (l.figures[a].afterUnloaded mass q)
    unloadedLifts := saturate16 (l.unloadedLifts + 1) }

/-- An UNLOADED commit that is not held, with a load open or with none (R117, R118, R119). -/
def commitUnloaded (a : Fin 16) (mass : Nat) (q : Quality) (s : State) : State :=
  match s.tal.load with
  | none => if mass = 0 then s else latch .overdraw s
  | some l =>
    let s1 := { s with tal := { s.tal with load := some (l.afterUnloaded a mass q) } }
    let s2 := if l.figures[a].mass < mass then latch .overdraw s1 else s1
    if (l.afterUnloaded a mass q).total = 0 then closeLoad .emptied s2
    else judgePayload (evaluateTarget s2)

/-- What a commit does to the module (R114). -/
def commit (o : LiftOutcome) (a : Fin 16) (mass : Nat) (q : Quality) (s : State) : State :=
  if s.tal.holdActive then s
  else
    match o with
    | .loaded => commitLoaded a mass q s
    | .unloaded => commitUnloaded a mass q s
    | .restacked => s
    | .moved => s
    | .unplaced => s
    | .empty => s
    | .dropped => s

/-- The number of the open load, or absent (R97, R102). -/
def Tal.openNumber (t : Tal) : Option Nat := t.load.map Load.number

/-- The tally effect of a lift without a commit (R97, R102). -/
def Tal.noEffect (t : Tal) : TallyEffect := ⟨0, 0, false, t.openNumber⟩

/-- The tally effect that a commit taken in this state returns (R102, R114 to R118). -/
def commitEffect (o : LiftOutcome) (a : Fin 16) (mass : Nat) (t : Tal) : TallyEffect :=
  match o with
  | .loaded =>
    if t.holdActive then ⟨0, 0, true, none⟩
    else
      match t.load with
      | none => ⟨loadedApplied 0 mass, 0, false, some t.nextNumber⟩
      | some l => ⟨loadedApplied l.figures[a].mass mass, 0, false, some l.number⟩
  | .unloaded =>
    if t.holdActive then ⟨0, 0, true, none⟩
    else
      match t.load with
      | none => ⟨0, mass, false, none⟩
      | some l =>
        ⟨min l.figures[a].mass mass, mass - l.figures[a].mass, false, some l.number⟩
  | .restacked => t.noEffect
  | .moved => t.noEffect
  | .unplaced => t.noEffect
  | .empty => t.noEffect
  | .dropped => t.noEffect

/-! ## Requests -/

/-- SELECT ASSORTMENT (R109). -/
def execSelectAssortment (i : Nat) (s : State) : Host.Outcome State Fault Refusal :=
  .next (if h : i < 16 then
      if s.tal.defined ⟨i, h⟩ then
        answer 0x28 .ok [] (fun s => { s with tal := { s.tal with selected := ⟨i, h⟩ } }) s
      else refuse 0x28 .state s
    else refuse 0x28 .badValue s)

/-- The entry holds figures in the open load (R110). -/
def Tal.hasFigures (t : Tal) (i : Fin 16) : Bool :=
  match t.load with
  | none => false
  | some l => l.figures[i].mass != 0 || l.figures[i].lifts != 0 || l.figures[i].unweighed != 0

/-- An entry takes a label; a selected entry made undefined returns the selection to 0 (R110). -/
def takeLabel (i : Fin 16) (label : Label) (s : State) : State :=
  { s with
    tal :=
      { s.tal with
        labels := s.tal.labels.set i label
        selected := if label.isEmpty && s.tal.selected == i then 0 else s.tal.selected } }

/-- DEFINE ASSORTMENT (R110). A label longer than 8 makes the frame's length unsuited to the kind. -/
def execDefineAssortment (i : Nat) (label : List Byte) (s : State) :
    Host.Outcome State Fault Refusal :=
  .next (if 8 < label.length then refuse 0x29 .badLength s
    else if h : i < 16 then
      if i = 0 then refuse 0x29 .badValue s
      else if !Label.printable label then refuse 0x29 .badValue s
      else if label.isEmpty && s.tal.hasFigures ⟨i, h⟩ then refuse 0x29 .state s
      else answer 0x29 .ok [] (takeLabel ⟨i, h⟩ label) s
    else refuse 0x29 .badValue s)

/-- HOLD TALLY (R113). -/
def execHoldTally (s : State) : Host.Outcome State Fault Refusal :=
  .next (answer 0x2A .ok [] (fun s => { s with tal := { s.tal with commandedHold := true } }) s)

/-- RELEASE TALLY (R113). -/
def execReleaseTally (s : State) : Host.Outcome State Fault Refusal :=
  .next (answer 0x2B .ok [] (fun s => { s with tal := { s.tal with commandedHold := false } }) s)

/-- The target record is replaced, and an open load's target-reached flag is cleared (R120). -/
def takeTarget (t : Target) (s : State) : State :=
  { s with
    tal :=
      { s.tal with
        target := t
        load := s.tal.load.map fun l => { l with targetReached := false } } }

/-- SET TARGET (R120). -/
def execSetTarget (f : TargetFields) (s : State) : Host.Outcome State Fault Refusal :=
  .next (match targetOfFields f with
    | none => refuse 0x2C .badValue s
    | some t =>
      if t.assortmentOn && !s.tal.defined t.index then refuse 0x2C .state s
      else answer 0x2C .ok [] (takeTarget t) s)

/-- CLOSE LOAD: the reply carries the number and total of the load closed (R124). -/
def execCloseLoad (s : State) : Host.Outcome State Fault Refusal :=
  .next (match s.tal.load with
    | none => refuse 0x2D .state s
    | some l => answer 0x2D .ok (u16 l.number ++ u32 l.total) (closeLoad .command) s)

/-- The load record in READ LOAD (R111, R127). DESIGN CHOICE (log 12): OPEN is 0 and NONE is 1, and a NONE record
is that byte alone. -/
def loadBytes : Option Load → List Byte
  | none => u8 1
  | some l =>
    u8 0 ++ u16 l.number ++ stampBytes l.openTime ++ u32 l.total ++ u16 l.loadedLifts
      ++ u16 l.unloadedLifts ++ flag l.targetReached ++ flag l.saturated

/-- The target record, its enables first (R120). -/
def Target.bytes (t : Target) : List Byte :=
  u8 (onOffCode t.totalOn) ++ u8 (onOffCode t.liftsOn) ++ u8 (onOffCode t.assortmentOn)
    ++ u32 t.total ++ u16 t.lifts ++ u8 t.index.val ++ u16 t.mass

/-- The reply data of READ LOAD (R127). DESIGN CHOICE (log 12): DL2's switch state is 1 when closed, 0 when
open. -/
def readLoadData (s : State) : List Byte :=
  loadBytes s.tal.load ++ u16 s.tal.nextNumber ++ u8 s.tal.selected.val
    ++ u8 (onOffCode s.tal.commandedHold) ++ flag s.tal.switchClosed ++ flag s.tal.holdActive
    ++ s.tal.target.bytes ++ flag (s.clp.isLive .payload) ++ u8 s.tal.history.length

/-- READ LOAD (R127). -/
def execReadLoad (s : State) : Host.Outcome State Fault Refusal :=
  .next (answer 0x2E .ok (readLoadData s) id s)

/-- An entry's figures in the open load, or 0, 0 and 0 (R128). -/
def Tal.figuresOf (t : Tal) (i : Fin 16) : Figures :=
  match t.load with
  | none => ⟨0, 0, 0⟩
  | some l => l.figures[i]

/-- READ ASSORTMENT (R128). The label is sent as its length and its characters (log 12). -/
def execReadAssortment (i : Nat) (s : State) : Host.Outcome State Fault Refusal :=
  .next (if h : i < 16 then
      let label := s.tal.labels[(⟨i, h⟩ : Fin 16)]
      let f := s.tal.figuresOf ⟨i, h⟩
      answer 0x2F .ok
        (u8 i ++ u8 label.length ++ label ++ flag (s.tal.selected == ⟨i, h⟩) ++ u16 f.mass
          ++ u16 f.lifts ++ u16 f.unweighed) id s
    else refuse 0x2F .badValue s)

def SummaryPair.bytes (p : SummaryPair) : List Byte := u8 p.index ++ u16 p.mass ++ u16 p.lifts

/-- One summary with up to six pairs from an offset (R126). -/
def summaryBytes (held : Nat) (x : Summary) (offset : Nat) : List Byte :=
  u8 held ++ u16 x.number ++ stampBytes x.openTime ++ stampBytes x.closeTime ++ u8 x.reason.code
    ++ u32 x.total ++ u16 x.loadedLifts ++ u16 x.unloadedLifts ++ flag x.saturated
    ++ u8 x.pairs.length ++ ((x.pairs.drop offset).take 6).flatMap SummaryPair.bytes

/-- READ LOAD HISTORY (R126). -/
def execReadLoadHistory (position offset : Nat) (s : State) : Host.Outcome State Fault Refusal :=
  .next (if position ≤ 7 && offset ≤ 15 then
      match s.tal.history[position]? with
      | none => refuse 0x30 .state s
      | some x => answer 0x30 .ok (summaryBytes s.tal.history.length x offset) id s
    else refuse 0x30 .badValue s)

end Sys2Proof.Machine
end

