-- ==== Sys2Proof/Machine/Windows.lean ====
section
/-! DEFINITION. Weigh windows, the live estimate and the gates of WEN (R67 to R71), and the failure of
a capture (R74): what the lift tracker and the weighing engine share. -/

namespace Sys2Proof.Machine

/-- A window as opened (R70). -/
def Window.opened (source : Source) (size : Nat) : Window := ⟨source, size, 0, 0, none, none⟩

/-- One accepted value joins a window (R70). -/
def Window.add (w : Window) (x : Int) : Window :=
  { w with
    count := w.count + 1
    sum := w.sum + x
    low := some (match w.low with | none => x | some y => min y x)
    high := some (match w.high with | none => x | some y => max y x) }

/-- A window with N accepted values takes no more (R70). -/
def Window.complete (w : Window) : Bool := w.size ≤ w.count

/-- An accepted sample joins an open window that is not complete (R70). -/
def Window.take (w : Window) (x : Int) : Window := if w.complete then w else w.add x

/-- The mean of what a window holds, rounded (R70, R99). -/
def Window.mean (w : Window) : Int := roundDiv w.sum w.count

/-- Maximum less minimum (R70). -/
def Window.spread (w : Window) : Int := w.high.getD 0 - w.low.getD 0

/-- The quality of a complete window (R70). -/
def Window.quality (w : Window) (spreadLimit : Nat) : Quality :=
  if (spreadLimit : Int) < w.spread then .rough else .good

/-- The live history holds four samples, newest last (R67). -/
def pushHistory (h : List Int) (x : Int) : List Int := (if 4 ≤ h.length then h.drop 1 else h) ++ [x]

/-- The live estimate of a history (R67). -/
def estimateOf (h : List Int) (source : Source) (tare : Nat) (z : Int) : Option Int :=
  if h.isEmpty then none
  else
    let mean := roundDiv h.sum h.length
    some (if source = .tip then mean - tare - z else mean)

/-- A sample of the current source joins the live history, and the live estimate is recomputed with the
tare and offset in force (R67). -/
def Wen.feed (w : Wen) (x : Int) : Wen :=
  let h := pushHistory w.history x
  { w with history := h, liveEstimate := estimateOf h w.source w.calibration.tare w.zeroOffset }

/-- The live history is emptied and the live estimate is absent (R64, R65). -/
def Wen.emptyHistory (w : Wen) : Wen := { w with history := [], liveEstimate := none }

/-- The capture in flight fails: the calibration is unchanged and CAL_FAILED is sent (R74). -/
def failCapture (reason : CaptureReason) (s : State) : State :=
  { s with
    wen := { s.wen with capture := none }
    clp :=
      match s.wen.capture with
      | none => s.clp
      | some c => s.clp.send (.calFailed c.kind reason) }

/-- The capture in flight is one of the given kinds. -/
def capturing (kinds : List CaptureKind) (s : State) : Bool :=
  match s.wen.capture with
  | none => false
  | some c => kinds.contains c.kind

/-- A capture of one of the given kinds fails ABORTED (R76 to R79). -/
def abortCaptures (kinds : List CaptureKind) (s : State) : State :=
  if capturing kinds s then failCapture .aborted s else s

end Sys2Proof.Machine
end

