-- ==== Sys2Proof/Machine/Lift.lean ====
section
/-! DEFINITION. Lift Tracking (05): the qualified events, the transitions of the lift context, the
release procedure and the drop, and the requests of LTR. -/

namespace Sys2Proof.Machine

/-! ## Qualifications -/

/-- One sample of a qualification's input: the start stamp it leaves, and whether the event is taken
(R88). -/
def qualify (holds : Bool) (now : Stamp) (time : Nat) (start : Option Stamp) : Option Stamp × Bool :=
  if holds then
    match start with
    | none => (some now, false)
    | some t => if (time : Int) ≤ now.since t then (none, true) else (some t, false)
  else (none, false)

/-- RELEASE runs while the grapple is closed (R89). -/
def LiftState.releaseRuns : LiftState → Bool
  | .idle => false
  | _ => true

/-- DROP runs, and a lift source is kept, while a lift is in progress (R66, R89). -/
def LiftState.inLift : LiftState → Bool
  | .lifted => true
  | .weighed => true
  | _ => false

/-- The context in a new state, with the start stamps R89 leaves. -/
def Ltr.enter (l : Ltr) (new : LiftState) : Ltr :=
  { l with
    state := new
    gripStart := none
    releaseStart := if l.state.releaseRuns && new.releaseRuns then l.releaseStart else none
    liftOffStart := none
    dropStart := if l.state.inLift && new.inLift then l.dropStart else none }

/-- The lift fields from the lift-off on are absent (R85). -/
def Ltr.clearLift (l : Ltr) : Ltr :=
  { l with
    liftOffTime := none
    fromZone := none
    source := none
    result := none
    assortment := none
    toZone := none
    outcome := none
    effect := none }

/-- WEN on being handed a lift state: the empty window ends outside IDLE, and the lift source and lift
window outside LIFTED and WEIGHED (R66, R72, R87). -/
def Wen.onLiftState (w : Wen) (new : LiftState) : Wen :=
  { w with
    emptyWindow := if new = .idle then w.emptyWindow else none
    liftSource := if new.inLift then w.liftSource else none
    liftWindow := if new.inLift then w.liftWindow else none }

/-- The captures whose state conditions a change to a lift state breaks (R76 to R79). -/
def brokenBy : LiftState → List CaptureKind
  | .idle => [.span, .cylLoad]
  | _ => [.zero, .cylEmpty]

/-- A change of the lift state, handed to WEN and to MLM at the instant of the change (R87). DESIGN CHOICE (log 9):
to WEN, with the failure of a capture it breaks, before MLM. -/
def enterState (new : LiftState) (s : State) : State :=
  evaluate (abortCaptures (brokenBy new)
    { s with ltr := s.ltr.enter new, wen := s.wen.onLiftState new })

/-! ## Results and outcomes -/

/-- A window whose source is CYLINDER caps its quality at ESTIMATE (R95). -/
def capQuality (source : Source) (q : Quality) : Quality :=
  match source with
  | .cylinder => (match q with | .unweighed => .unweighed | _ => .estimate)
  | _ => q

/-- A result from a window mean, with T, z and min_lift in force (R71, R95). -/
def weighedResult (w : Wen) (source : Source) (mean : Int) (q : Quality) : LiftResult :=
  let net := if source = .tip then mean - w.calibration.tare - w.zeroOffset else mean
  let mass := clamp (-2000) 30000 (roundDiv net 10)
  ⟨net, mass, capQuality source q, mass < w.settings.minLift⟩

/-- An unweighed result, from the live estimate (R100). -/
def unweighedResult (w : Wen) : LiftResult :=
  let mass := match w.liveEstimate with
    | none => 0
    | some x => clamp 0 30000 (roundDiv x 10)
  ⟨mass * 10, mass, .unweighed, false⟩

/-- The result that a release or drop fixes (R99). -/
def fixedResult (s : State) : LiftResult :=
  match s.ltr.state, s.ltr.result, s.wen.liftWindow with
  | .weighed, some r, _ => r
  | .lifted, _, some w =>
    if 8 ≤ w.count then weighedResult s.wen w.source w.mean .partialWindow
    else unweighedResult s.wen
  | _, _, _ => unweighedResult s.wen

/-- The outcome of a released lift (R101). -/
def outcomeOf (empty : Bool) (fromZone toZone : Zone) : LiftOutcome :=
  if empty then .empty
  else
    match fromZone, toZone with
    | .ground, .ground => .moved
    | .ground, .bunk => .loaded
    | .bunk, .ground => .unloaded
    | .bunk, .bunk => .restacked
    | _, _ => .unplaced

/-- The lift record passed to LOG (R103), from the lift context. -/
def liftPart (l : Ltr) (r : LiftResult) (a : Fin 16) (toZone : Zone) (o : LiftOutcome)
    (e : TallyEffect) : LiftPart where
  number := l.number
  outcome := o
  fromZone := l.fromZone.getD .unknown
  toZone := toZone
  assortment := a
  mass := r.mass
  quality := r.quality
  source := l.source.getD .none
  effect := e

/-- The fields that the release or drop which ends a lift gives the context (R85). -/
def Ltr.ending (l : Ltr) (r : LiftResult) (a : Fin 16) (toZone : Zone) (o : LiftOutcome)
    (e : TallyEffect) : Ltr :=
  { l with
    result := some r
    assortment := some a
    toZone := some toZone
    outcome := some o
    effect := some e }

/-! ## Transitions -/

/-- GRIP in IDLE (R92). -/
def takeGrip (s : State) : State :=
  enterState .gripped { s with ltr := { s.ltr with gripTime := some s.log.clock } }

/-- RELEASE in GRIPPED: no record (R93). -/
def releaseWithoutLift (s : State) : State :=
  enterState .idle { s with ltr := { s.ltr with gripTime := none } }

/-- LIFT-OFF in GRIPPED: the lift number, the stamp, the from-zone, the lift window on the current
source (R66, R70, R86, R94). -/
def takeLiftOff (s : State) : State :=
  enterState .lifted
    { s with
      ltr :=
        { s.ltr with
          number := s.ltr.number + 1
          liftOffTime := some s.log.clock
          fromZone := some s.geo.zone
          source := some s.wen.source }
      wen :=
        { s.wen with
          liftSource := some s.wen.source
          liftWindow := some (.opened s.wen.source s.wen.settings.windowSize) } }

/-- The completion of the lift window in LIFTED: the result is fixed (R95). -/
def completeWindow (s : State) : State :=
  match s.ltr.state, s.wen.liftWindow with
  | .lifted, some w =>
    if w.complete then
      enterState .weighed
        { s with
          ltr :=
            { s.ltr with
              result :=
                some (weighedResult s.wen w.source w.mean (w.quality s.wen.settings.spread)) } }
    else s
  | _, _ => s

/-- A source downgrade: in LIFTED the window is reopened on the lower source (R96). -/
def takeDowngrade (lower : Source) (s : State) : State :=
  match s.ltr.state with
  | .lifted =>
    { s with
      ltr := { s.ltr with source := some lower }
      wen := { s.wen with liftWindow := some (.opened lower s.wen.settings.windowSize) } }
  | _ => s

/-- DROP in LIFTED or WEIGHED: the lift is logged DROPPED and the tally is unchanged (R97). DESIGN CHOICE (log 9):
a capture that the drop breaks fails after the lift record is passed to LOG. -/
def takeDrop (s : State) : State :=
  let r := fixedResult s
  let e := s.tal.noEffect
  let s1 := { s with ltr := s.ltr.ending r s.tal.selected s.geo.zone .dropped e }
  let s2 := record (.lift (liftPart s.ltr r s.tal.selected s.geo.zone .dropped e)) s1
  let s3 := abortCaptures [.span, .cylLoad] { s2 with ltr := s2.ltr.clearLift }
  enterState .gripped s3

/-- The release procedure: result, assortment, to-zone, outcome, commit, log, IDLE (R98). -/
def takeRelease (s : State) : State :=
  let r := fixedResult s
  let a := s.tal.selected
  let o := outcomeOf r.empty (s.ltr.fromZone.getD .unknown) s.geo.zone
  let e := commitEffect o a r.mass.toNat s.tal
  let s1 := commit o a r.mass.toNat r.quality s
  let s2 := { s1 with ltr := s1.ltr.ending r a s.geo.zone o e }
  let s3 := record (.lift (liftPart s.ltr r a s.geo.zone o e)) s2
  enterState .idle { s3 with ltr := { s3.ltr.clearLift with gripTime := none } }

/-! ## Samples -/

/-- The grip pressure of the frame, when the GRIP channel is GOOD (R90). -/
def gripPressure (s : State) : Option Int :=
  match s.iau.channels.grip.status with
  | .good => s.iau.channels.grip.value
  | _ => none

/-- GRIP's condition at a frame: a GOOD pressure at or above the grip threshold (R88, R90). -/
def gripHolds (s : State) : Bool :=
  match gripPressure s with
  | none => false
  | some p => (s.ltr.settings.gripThreshold : Int) ≤ p

/-- RELEASE's condition at a frame: a GOOD pressure below the release threshold (R88, R90). -/
def releaseHolds (s : State) : Bool :=
  match gripPressure s with
  | none => false
  | some p => p < (s.ltr.settings.releaseThreshold : Int)

/-- LIFT-OFF's condition at an update: a live estimate at or above its threshold (R88, R91). -/
def liftOffHolds (s : State) : Bool :=
  match s.wen.liveEstimate with
  | none => false
  | some x => (s.ltr.settings.liftOffThreshold : Int) ≤ x

/-- DROP's condition at an update: a live estimate below its threshold (R88, R91). -/
def dropHolds (s : State) : Bool :=
  match s.wen.liveEstimate with
  | none => false
  | some x => x < (s.ltr.settings.dropThreshold : Int)

/-- A frame's grip sample, judged for GRIP in IDLE and for RELEASE in the other states (R88 to R90). -/
def judgeGrip (s : State) : State :=
  if s.ltr.state.releaseRuns then
    let q := qualify (releaseHolds s) s.log.clock s.ltr.settings.releaseTime s.ltr.releaseStart
    let s1 := { s with ltr := { s.ltr with releaseStart := q.1 } }
    if q.2 then (if s.ltr.state.inLift then takeRelease s1 else releaseWithoutLift s1) else s1
  else
    let q := qualify (gripHolds s) s.log.clock s.ltr.settings.gripTime s.ltr.gripStart
    let s1 := { s with ltr := { s.ltr with gripStart := q.1 } }
    if q.2 then takeGrip s1 else s1

/-- A live-estimate update, judged for LIFT-OFF in GRIPPED and for DROP in LIFTED and WEIGHED (R88,
R89, R91). -/
def judgeLive (s : State) : State :=
  match s.ltr.state with
  | .idle => s
  | .gripped =>
    let q := qualify (liftOffHolds s) s.log.clock s.ltr.settings.liftOffTime s.ltr.liftOffStart
    let s1 := { s with ltr := { s.ltr with liftOffStart := q.1 } }
    if q.2 then takeLiftOff s1 else s1
  | _ =>
    let q := qualify (dropHolds s) s.log.clock s.ltr.settings.dropTime s.ltr.dropStart
    let s1 := { s with ltr := { s.ltr with dropStart := q.1 } }
    if q.2 then takeDrop s1 else s1

/-- A live-estimate update handed to LTR and to MLM (R67, R146). -/
def handLiveUpdate (s : State) : State := evaluate (judgeLive s)

/-! ## Requests -/

/-- SET LIFT: running qualifications keep their start stamps (R105). -/
def execSetLift (t : LiftSettings) (s : State) : Host.Outcome State Fault Refusal :=
  .next (if t.accepted then
      answer 0x20 .ok [] (fun s => { s with ltr := { s.ltr with settings := t } }) s
    else refuse 0x20 .badValue s)

def LiftResult.bytes (r : LiftResult) : List Byte :=
  i32 r.net ++ i16 r.mass ++ u8 r.quality.code ++ flag r.empty

def LiftSettings.bytes (t : LiftSettings) : List Byte :=
  u16 t.gripThreshold ++ u16 t.releaseThreshold ++ u16 t.gripTime ++ u16 t.releaseTime
    ++ u16 t.liftOffThreshold ++ u16 t.dropThreshold ++ u16 t.liftOffTime ++ u16 t.dropTime

/-- Whether a qualification runs, and its start stamp (R106). -/
def qualificationBytes (runs : Bool) (start : Option Stamp) : List Byte :=
  flag runs ++ opt stampBytes start

/-- The reply data of READ LIFT (R106). -/
def readLiftData (l : Ltr) : List Byte :=
  u8 l.state.code ++ u32 l.number.toNat ++ opt stampBytes l.gripTime
    ++ opt stampBytes l.liftOffTime ++ opt (fun z => u8 z.code) l.fromZone
    ++ opt (fun x => u8 x.code) l.source ++ opt LiftResult.bytes l.result
    ++ qualificationBytes (l.state == .idle) l.gripStart
    ++ qualificationBytes l.state.releaseRuns l.releaseStart
    ++ qualificationBytes (l.state == .gripped) l.liftOffStart
    ++ qualificationBytes l.state.inLift l.dropStart
    ++ LiftSettings.bytes l.settings

/-- READ LIFT (R106). -/
def execReadLift (s : State) : Host.Outcome State Fault Refusal :=
  .next (answer 0x21 .ok (readLiftData s.ltr) id s)

end Sys2Proof.Machine
end

