-- ==== Sys2Proof/Machine/Weighing.lean ====
section
/-! DEFINITION. Weighing (04): the two sources and their selection, the path from a tip sample or a pair
of pressures to windows and the live estimate, temperature compensation, auto-zero, the calibration
captures, and the requests of WEN. -/

namespace Sys2Proof.Machine

/-! ## Sources -/

/-- The tip calibration is valid (R57). -/
def Calibration.tipValid (c : Calibration) : Bool := c.zeroValid && c.spanValid

/-- A band is calibrated (R57). -/
def Band.calibrated (b : Band) : Bool := b.emptyCaptured && b.gainCaptured

/-- A channel without fault (R6). -/
def ChannelState.isGood (c : ChannelState) : Bool := c.status == .good

/-- Both pressure channels are GOOD and geometry is valid (R63, R65). -/
def cylinderReadable (s : State) : Bool :=
  s.iau.channels.pHead.isGood && s.iau.channels.pRod.isGood && s.geo.valid

/-- A source is available (R65). -/
def available (s : State) : Source → Bool
  | .tip => s.tlc.link == .up && !s.clp.isLive .tipStuck && s.wen.calibration.tipValid
  | .cylinder => s.sto.working.fallback && cylinderReadable s
  | .none => false

/-- The current source as R65 judges it. -/
def judgedSource (s : State) : Source :=
  if available s .tip then .tip else if available s .cylinder then .cylinder else .none

/-- The current source changes: the live history is emptied, the empty window discarded, and the change
is handed to MLM and, as an update without a live estimate, to LTR and MLM (R65, R67, R91). DESIGN CHOICE (log 9):
MLM's evaluation of the new source comes first. -/
def changeSource (new : Source) (s : State) : State :=
  handLiveUpdate (evaluate
    { s with wen := { s.wen.emptyHistory with source := new, emptyWindow := none } })

/-- What an unavailable lift source falls to (R66). -/
def lowerSource (s : State) (old : Source) : Source :=
  if old = .tip && available s .cylinder then .cylinder else .none

/-- A lift source that stops being available falls, and LTR is handed the downgrade (R66). -/
def judgeLiftSource (s : State) : State :=
  match s.wen.liftSource with
  | none => s
  | some .none => s
  | some old =>
    if available s old then s
    else
      takeDowngrade (lowerSource s old)
        { s with wen := { s.wen with liftSource := some (lowerSource s old) } }

/-- WEN judges its sources again at a change of one of their inputs (R65, R66). DESIGN CHOICE (log 9): the current
source first, then the lift source. -/
def rejudgeSources (s : State) : State :=
  judgeLiftSource
    (if judgedSource s = s.wen.source then s else changeSource (judgedSource s) s)

/-- NO_CAL is live while the tip calibration is not valid (R58). -/
def judgeNoCal (s : State) : State := setLive .noCal (!s.wen.calibration.tipValid) s

/-! ## Captures -/

/-- A capture window holds 32 raw quantities (R74). -/
def captureSize : Nat := 32

/-- A completed capture changes its one value, R58 and R65 are judged anew, LOG is passed a CAL entry
and CAL_DONE is sent (R74). -/
def finishCapture (c : Capture) (name : CalName) (old new : Int) (cal : Calibration) (s : State) :
    State :=
  notify (.calDone c.kind c.band new)
    (record (.cal ⟨name, c.band, old, new⟩)
      (rejudgeSources (judgeNoCal
        { s with wen := { s.wen with calibration := cal, capture := none } })))

/-- CAL ZERO completes (R73, R76). DESIGN CHOICE (log 9): ZERO_DRIFT goes non-live before NO_CAL is judged. -/
def finishZero (c : Capture) (mean : Int) (s : State) : State :=
  let s1 := setLive .zeroDrift false
    { s with wen := { s.wen with zeroOffset := 0, emptyWindow := none } }
  let cal := s.wen.calibration
  finishCapture c .z cal.zero mean { cal with zero := mean.toNat, zeroValid := true } s1

/-- CAL SPAN completes, or fails SMALL_SPAN (R77). -/
def finishSpan (c : Capture) (mean : Int) (s : State) : State :=
  let cal := s.wen.calibration
  let d := mean - cal.zero
  if d < 1000 then failCapture .smallSpan s
  else
    let span := roundDiv ((c.mass + cal.tare) * 1024) d
    finishCapture c .s cal.span span { cal with span := span.toNat, spanValid := true }
      { s with wen := { s.wen with emptyWindow := none } }

/-- CAL CYL EMPTY completes: the gain and its mark are kept (R78). -/
def finishCylEmpty (c : Capture) (b : Fin 8) (mean : Int) (s : State) : State :=
  let cal := s.wen.calibration
  let bands := cal.bands.set b { cal.bands[b] with emptyForce := mean, emptyCaptured := true }
  finishCapture c .fe cal.bands[b].emptyForce mean { cal with bands := bands } s

/-- CAL CYL LOAD completes, or fails SMALL_SPAN or RANGE (R79). -/
def finishCylLoad (c : Capture) (b : Fin 8) (mean : Int) (s : State) : State :=
  let cal := s.wen.calibration
  let d := mean - cal.bands[b].emptyForce
  if d < 500 then failCapture .smallSpan s
  else
    let gain := roundDiv (c.mass * 65536) d
    if Int.inRange 1 65535 gain then
      let bands := cal.bands.set b { cal.bands[b] with gain := gain.toNat, gainCaptured := true }
      finishCapture c .g cal.bands[b].gain gain { cal with bands := bands } s
    else failCapture .range s

/-- A capture whose window holds 32 values goes on to its completion test (R75). -/
def finish (c : Capture) (s : State) : State :=
  let mean := roundDiv c.sum captureSize
  match c.kind, c.band with
  | .zero, _ => finishZero c mean s
  | .span, _ => finishSpan c mean s
  | .cylEmpty, some b => finishCylEmpty c b mean s
  | .cylLoad, some b => finishCylLoad c b mean s
  | .cylEmpty, none => s
  | .cylLoad, none => s

/-- A raw quantity joins the window of the capture in flight (R75). -/
def captureTake (c : Capture) (x : Int) (s : State) : State :=
  let c' := { c with count := c.count + 1, sum := c.sum + x }
  if captureSize ≤ c'.count then finish c' s
  else { s with wen := { s.wen with capture := some c' } }

/-! ## The tip path -/

/-- Clamped to −20,000..+300,000 in 0.1 kg (R60, R62, R64). -/
def clampMass (x : Int) : Int := clamp (-20000) 300000 x

/-- Stage 1 (R60). -/
def grossValue (c : Calibration) (force : Nat) : Int :=
  clampMass (roundDiv (((force : Int) - c.zero) * c.span) 1024)

/-- Stage 2, and the value of an overrange sample (R60, R62). -/
def correctedValue (w : Wen) (t : TipSample) : Int :=
  if t.overrange then 300000
  else clampMass (roundDiv (grossValue w.calibration t.force * w.k) 1000000)

/-- Stage 3: the tip gates (R68). -/
def tipAccepted (w : Wen) (t : TipSample) (x : Int) : Bool :=
  t.swing ≤ w.settings.swing && !t.overrange
    && (match w.previousCorrected with
      | none => false
      | some y => within x y w.settings.jitter)

/-- The capture gates of a tip capture (R75). -/
def countAccepted (w : Wen) (t : TipSample) : Bool :=
  t.swing ≤ w.settings.swing && !t.overrange
    && (match w.previousCount with
      | none => false
      | some n => within t.force n w.settings.jitter)

/-- Auto-zero runs (R72). -/
def autoZeroRuns (s : State) : Bool :=
  s.ltr.state == .idle && s.wen.source == .tip && s.wen.settings.autoZero

/-- The size of the empty window (R70, R72). -/
def emptyWindowSize : Nat := 16

/-- A completed empty window gives a candidate for the offset (R73). -/
def judgeEmptyWindow (w : Window) (s : State) : State :=
  let s1 := { s with wen := { s.wen with emptyWindow := none } }
  if w.quality s.wen.settings.spread = .rough then s1
  else
    let candidate := w.mean - s.wen.calibration.tare
    if candidate.natAbs ≤ s.wen.settings.tracking then
      setLive .zeroDrift false { s1 with wen := { s1.wen with zeroOffset := candidate } }
    else setLive .zeroDrift true s1

/-- An accepted tip sample joins the empty window while auto-zero runs (R72). DESIGN CHOICE (log 9): a window it
completes is judged here, in step 4 of R59. -/
def feedEmptyWindow (x : Int) (s : State) : State :=
  if autoZeroRuns s then
    let w := (s.wen.emptyWindow.getD (.opened .tip emptyWindowSize)).add x
    if w.complete then judgeEmptyWindow w s
    else { s with wen := { s.wen with emptyWindow := some w } }
  else s

/-- An accepted sample joins the lift window when the lift source is the sample's (R59, R64). -/
def feedLiftWindow (source : Source) (x : Int) (s : State) : State :=
  if s.wen.liftSource = some source then
    { s with wen := { s.wen with liftWindow := s.wen.liftWindow.map fun w => w.take x } }
  else s

/-- The raw count joins the window of a tip capture in flight (R59, R75). -/
def captureTip (force : Nat) (s : State) : State :=
  match s.wen.capture with
  | none => s
  | some c =>
    match c.kind with
    | .zero => captureTake c force s
    | .span => captureTake c force s
    | .cylEmpty => s
    | .cylLoad => s

/-- A sample of the current source joins the live history (R64, R67). -/
def feedIf (fed : Bool) (x : Int) (s : State) : State :=
  if fed then { s with wen := s.wen.feed x } else s

/-- The live-estimate update of a sample of the current source is handed on (R64, R67). -/
def handIf (fed : Bool) (s : State) : State := if fed then handLiveUpdate s else s

/-- A sample that passes the tip gates joins the lift window and the empty window (R59, R68). DESIGN CHOICE (log 9):
where the sample also completes a CAL ZERO, the empty window is judged first. -/
def gateTip (t : TipSample) (x : Int) (s : State) : State :=
  if tipAccepted s.wen t x then feedEmptyWindow x (feedLiftWindow .tip x s) else s

/-- A raw count that passes the capture gates joins a tip capture (R59, R75). DESIGN CHOICE (log 9): a capture it
completes is finished here, in step 5 of R59. -/
def countTip (t : TipSample) (s : State) : State :=
  if countAccepted s.wen t then captureTip t.force s else s

/-- A sample becomes the predecessor of the next, and its temperature the latest (R59, R61). -/
def rememberTip (t : TipSample) (x : Int) (s : State) : State :=
  { s with
    wen :=
      { s.wen with
        previousCorrected := some x
        previousCount := some t.force
        latestTemperature := some t.temperature } }

/-- One tip sample, in the seven steps of R59. -/
def tipSample (t : TipSample) (s : State) : State :=
  let x := correctedValue s.wen t
  let fed := s.wen.source == .tip
  rememberTip t x (handIf fed (completeWindow (countTip t (gateTip t x
    (feedIf fed x (setLive .tipOverrange t.overrange s))))))

/-- The link has left UP: no predecessor, no overrange, tip captures fail ABORTED, and the sources are
judged (R59, R60, R65, R76, R77). DESIGN CHOICE (log 9): in this order, TIP_OVERRANGE, the capture, the sources. -/
def tipLinkDown (s : State) : State :=
  rejudgeSources (abortCaptures [.zero, .span] (setLive .tipOverrange false
    { s with wen := { s.wen with previousCorrected := none, previousCount := none } }))

/-- TIP_STUCK has become live or non-live: a tip capture fails ABORTED when it is live, and the sources
are judged (R65, R76, R77). DESIGN CHOICE (log 9): the capture first. -/
def tipStuckChanged (s : State) : State :=
  rejudgeSources (if s.clp.isLive .tipStuck then abortCaptures [.zero, .span] s else s)

/-- The compensation update: K from the latest temperature, or held (R61). -/
def compensatedK (w : Wen) : Int :=
  match w.latestTemperature with
  | none => w.k
  | some t =>
    if t = 127 then w.k else 1000000 - w.calibration.kt * (clamp (-40) 85 t - w.calibration.tref)

/-! ## The cylinder path -/

/-- The cylinder band of a reach (R63). -/
def bandOf (reach : Nat) : Fin 8 := Fin.ofNat 8 (min (reach / 1000) 7)

/-- The force and band a frame forms (R63). -/
def formedForce (s : State) : Option CylinderForce :=
  if cylinderReadable s then
    match s.iau.channels.pHead.value, s.iau.channels.pRod.value, s.geo.position with
    | some ph, some pr, some p =>
      let c := s.wen.calibration
      some ⟨roundDiv (ph * c.areaHead - pr * c.areaRod) 1000, bandOf p.reach⟩
    | _, _, _ => none
  else none

/-- The cylinder sample of a force in a calibrated band (R64). -/
def cylinderSample (c : Calibration) (f : CylinderForce) : Option Int :=
  let b := c.bands[f.band]
  if b.calibrated then some (clampMass (roundDiv ((f.force - b.emptyForce) * b.gain) 65536))
  else none

/-- The boom's output demand is exactly 0 (R69, R75). -/
def boomStill (s : State) : Bool := s.vdr.sections.boom.output == 0

/-- The cylinder gates (R69). -/
def cylinderAccepted (s : State) (x : Int) : Bool :=
  boomStill s
    && (match s.wen.previousCylinder with
      | none => false
      | some y => within x y s.wen.settings.jitter)

/-- A sample that passes the cylinder gates joins the lift window (R64, R69). -/
def gateCylinder (x : Int) (s : State) : State :=
  if cylinderAccepted s x then feedLiftWindow .cylinder x s else s

/-- A frame that forms a cylinder sample (R64). -/
def takeCylinderSample (x : Int) (s : State) : State :=
  let fed := s.wen.source == .cylinder
  let s1 := handIf fed (completeWindow (gateCylinder x (feedIf fed x s)))
  { s1 with wen := { s1.wen with previousCylinder := some x } }

/-- A frame that forms no cylinder sample (R64). -/
def noCylinderSample (s : State) : State :=
  let s1 := { s with wen := { s.wen with previousCylinder := none } }
  if s.wen.source = .cylinder then handLiveUpdate { s1 with wen := s1.wen.emptyHistory } else s1

/-- The force of a frame meets a cylinder capture in flight (R75, R78, R79). -/
def captureCylinder (f : CylinderForce) (before : Option CylinderForce) (s : State) : State :=
  match s.wen.capture with
  | none => s
  | some c =>
    match c.kind with
    | .zero => s
    | .span => s
    | _ =>
      if c.band = some f.band then
        match before with
        | none => s
        | some g =>
          if boomStill s && within f.force g.force s.wen.settings.jitter then
            captureTake c f.force s
          else s
      else failCapture .bandMoved s

/-- WEN's work on an acquisition frame (R63 to R65, R75): sources, force, sample, capture. DESIGN CHOICE (log 9):
the sample is handed on before a capture in flight takes the frame's force. -/
def cylinderFrame (s : State) : State :=
  let s1 := rejudgeSources s
  let before := s1.wen.frameForce
  let formed := formedForce s1
  let s2 := { s1 with wen := { s1.wen with frameForce := formed } }
  match formed with
  | none => noCylinderSample s2
  | some f =>
    captureCylinder f before
      (match cylinderSample s2.wen.calibration f with
      | some x => takeCylinderSample x s2
      | none => noCylinderSample s2)

/-! ## Commands -/

/-- COMPENSATION_UPDATE (R61). -/
def updateCompensation (s : State) : State :=
  { s with
    wen :=
      { s.wen with k := compensatedK s.wen, compensationTimer := some s.wen.settings.period } }

def execCompensationUpdate (s : State) : Host.Outcome State Fault Refusal :=
  .next (whenPowered updateCompensation s)

/-- The weighing settings are replaced (R73, R81). -/
def takeWeigh (t : WeighSettings) (s : State) : State :=
  { s with
    wen :=
      { s.wen with
        settings := t
        compensationTimer :=
          if t.period = s.wen.settings.period then s.wen.compensationTimer else some t.period
        emptyWindow := if t.autoZero then s.wen.emptyWindow else none
        zeroOffset := clamp (-t.tracking) t.tracking s.wen.zeroOffset } }

/-- SET WEIGH (R81). -/
def execSetWeigh (f : WeighFields) (s : State) : Host.Outcome State Fault Refusal :=
  .next (match weighOfFields f with
    | none => refuse 0x18 .badValue s
    | some t => answer 0x18 .ok [] (takeWeigh t) s)

/-- The marks of all eight bands are cleared (R57). -/
def clearBandMarks (bands : Vector Band 8) : Vector Band 8 :=
  ⟨⟨bands.toList.map fun b => { b with emptyCaptured := false, gainCaptured := false }⟩, by simp⟩

/-- The calibration after a SET CALIBRATION (R57, R82). -/
def Calibration.afterSet (c : Calibration) (f : CalibrationFields) : Calibration :=
  { c with
    tare := f.tare
    kt := f.kt
    tref := f.tref
    areaHead := f.areaHead
    areaRod := f.areaRod
    bands :=
      if f.areaHead = c.areaHead ∧ f.areaRod = c.areaRod then c.bands
      else clearBandMarks c.bands }

/-- The CAL entry of a value that differs from its old value (R82). -/
def recordChange (name : CalName) (old new : Int) (s : State) : State :=
  if old = new then s else record (.cal ⟨name, none, old, new⟩) s

/-- The values are replaced, and each changed value is passed to LOG in the order of R137 (R82). -/
def takeCalibration (f : CalibrationFields) (s : State) : State :=
  let c := s.wen.calibration
  recordChange .ar c.areaRod f.areaRod
    (recordChange .ah c.areaHead f.areaHead
      (recordChange .tref c.tref f.tref
        (recordChange .kt c.kt f.kt
          (recordChange .t c.tare f.tare
            { s with wen := { s.wen with calibration := c.afterSet f } }))))

/-- SET CALIBRATION (R82); its refusals come in the order of R194 (log 15). -/
def execSetCalibration (f : CalibrationFields) (s : State) : Host.Outcome State Fault Refusal :=
  .next (if f.accepted then
      if s.wen.capture.isSome then refuse 0x19 .busy s
      else answer 0x19 .ok [] (takeCalibration f) s
    else refuse 0x19 .badValue s)

/-- A capture is in flight with an empty window (R74). -/
def startCapture (kind : CaptureKind) (band : Option (Fin 8)) (mass : Nat) (s : State) : State :=
  { s with wen := { s.wen with capture := some ⟨kind, band, mass, 0, 0⟩ } }

/-- The link is UP and TIP_STUCK is not live (R76, R77). -/
def tipReadable (s : State) : Bool := s.tlc.link == .up && !s.clp.isLive .tipStuck

/-- The lift states in which a known mass can be captured (R77, R79). -/
def massInGrapple (s : State) : Bool :=
  match s.ltr.state with
  | .idle => false
  | .gripped => s.wen.liveEstimate.isNone
  | .lifted => true
  | .weighed => true

/-- The known mass of a capture, in 0.1 kg (R77, R79). -/
def knownMass (m : Nat) : Bool := Nat.inRange 500 30000 m

/-- CAL ZERO (R74, R76). -/
def execCalZero (s : State) : Host.Outcome State Fault Refusal :=
  .next (if s.wen.capture.isSome then refuse 0x1B .busy s
    else if s.ltr.state == .idle && tipReadable s then
      answer 0x1B .accepted [] (startCapture .zero none 0) s
    else refuse 0x1B .state s)

/-- CAL SPAN (R74, R77). -/
def execCalSpan (m : Nat) (s : State) : Host.Outcome State Fault Refusal :=
  .next (if knownMass m then
      if s.wen.capture.isSome then refuse 0x1C .busy s
      else if massInGrapple s && tipReadable s && s.wen.calibration.zeroValid then
        answer 0x1C .accepted [] (startCapture .span none m) s
      else refuse 0x1C .state s
    else refuse 0x1C .badValue s)

/-- CAL CYL EMPTY (R74, R78). -/
def execCalCylEmpty (s : State) : Host.Outcome State Fault Refusal :=
  .next (if s.wen.capture.isSome then refuse 0x1D .busy s
    else
      match s.wen.frameForce with
      | none => refuse 0x1D .state s
      | some f =>
        if s.ltr.state == .idle && boomStill s && cylinderReadable s then
          answer 0x1D .accepted [] (startCapture .cylEmpty (some f.band) 0) s
        else refuse 0x1D .state s)

/-- A load capture begins, and fails NO_EMPTY at once when its band has no empty force (R79). -/
def startCylLoad (b : Fin 8) (m : Nat) (s : State) : State :=
  let s1 := startCapture .cylLoad (some b) m s
  if s.wen.calibration.bands[b].emptyCaptured then s1 else failCapture .noEmpty s1

/-- CAL CYL LOAD (R74, R79). -/
def execCalCylLoad (m : Nat) (s : State) : Host.Outcome State Fault Refusal :=
  .next (if knownMass m then
      if s.wen.capture.isSome then refuse 0x1E .busy s
      else
        match s.wen.frameForce with
        | none => refuse 0x1E .state s
        | some f =>
          if massInGrapple s && cylinderReadable s then
            answer 0x1E .accepted [] (startCylLoad f.band m) s
          else refuse 0x1E .state s
    else refuse 0x1E .badValue s)

/-- CAL ABORT (R80). -/
def execCalAbort (s : State) : Host.Outcome State Fault Refusal :=
  .next (if s.wen.capture.isSome then answer 0x1F .ok [] (failCapture .aborted) s
    else refuse 0x1F .state s)

def Band.bytes (b : Band) : List Byte :=
  i32 b.emptyForce ++ flag b.emptyCaptured ++ u16 b.gain ++ flag b.gainCaptured

/-- The values of R57 with their marks (R83). DESIGN CHOICE (log 26): band by band, each value with its mark after
it. -/
def Calibration.bytes (c : Calibration) : List Byte :=
  u16 c.zero ++ flag c.zeroValid ++ u16 c.span ++ flag c.spanValid ++ u16 c.tare ++ i16 c.kt
    ++ i8 c.tref ++ u16 c.areaHead ++ u16 c.areaRod ++ c.bands.toList.flatMap Band.bytes

/-- A capture in flight as READ WEIGH reports it (R83). -/
def Capture.bytes (c : Capture) : List Byte :=
  u8 c.kind.code ++ opt (fun b : Fin 8 => u8 b.val) c.band ++ u8 c.count

/-- A lift window as READ WEIGH reports it (R83). -/
def Window.bytes (w : Window) : List Byte :=
  u8 w.source.code ++ u8 w.size ++ u8 w.count ++ opt i32 w.low ++ opt i32 w.high

/-- The eight settings in the order of R81, the compensation period as a number of ms (log 12). -/
def WeighSettings.bytes (t : WeighSettings) : List Byte :=
  u16 t.swing ++ u16 t.jitter ++ u8 t.windowSize ++ u16 t.spread ++ u8 t.minLift ++ u16 t.period
    ++ u8 (onOffCode t.autoZero) ++ u16 t.tracking

/-- The reply data of READ WEIGH (R83). -/
def readWeighData (s : State) : List Byte :=
  let w := s.wen
  u8 w.source.code ++ opt (fun x => u8 x.code) w.liftSource ++ opt i32 w.liveEstimate
    ++ u8 w.history.length ++ u32 w.k.toNat ++ opt i8 w.latestTemperature ++ i16 w.zeroOffset
    ++ opt (fun e => u8 e.count) w.emptyWindow ++ Calibration.bytes w.calibration
    ++ opt Capture.bytes w.capture ++ opt Window.bytes w.liftWindow
    ++ WeighSettings.bytes w.settings ++ flag (s.clp.isLive .noCal)
    ++ flag (s.clp.isLive .zeroDrift) ++ flag (s.clp.isLive .tipOverrange)

/-- READ WEIGH (R83). -/
def execReadWeigh (s : State) : Host.Outcome State Fault Refusal :=
  .next (answer 0x1A .ok (readWeighData s) id s)

end Sys2Proof.Machine
end

