-- ==== Sys2Proof/Machine/TipLink.lean ====
section
/-! DEFINITION. Tip Link (02): the link states and their timers, the reception of DATA, the noise and
stuck rules, error counting, and the requests of TLC. -/

namespace Sys2Proof.Machine

/-! ## Link states -/

/-- Every link timer is cancelled (R20, R22). -/
def Tlc.stopTimers (t : Tlc) : Tlc :=
  { t with
    hailTimer := none
    probeWindow := none
    startWindow := none
    resend := none
    lossTimer := none
    backOff := none }

/-- A HAIL is sent, and the hail timer runs 10 ms (R23). -/
def Tlc.sendHail (t : Tlc) : Tlc :=
  { t with hailCount := t.hailCount + 1, hailTimer := some 10, sent := some .hail }

/-- PROBING is entered at a rate index: a 50 ms window and PROBE number 1 (R24). -/
def Tlc.probing (t : Tlc) (rate : Nat) : Tlc :=
  { t.stopTimers with
    link := .probing
    rate := rate
    probeWindow := some 50
    probesSent := 1
    resend := some 10
    sent := some (.probe (BitVec.ofNat 8 rate) 1) }

/-- STARTING is entered: a 30 ms window and the first GO (R25). -/
def Tlc.starting (t : Tlc) : Tlc :=
  { t.stopTimers with
    link := .starting
    startWindow := some 30
    gosSent := 1
    resend := some 10
    sent := some (.go (BitVec.ofNat 8 t.rate)) }

/-- FAILED is entered: a 5 s back-off, and nothing sent (R26). -/
def Tlc.failed (t : Tlc) : Tlc := { t.stopTimers with link := .failed, backOff := some 5000 }

/-- A failed probe, a failed start or a noise step-down: the next slower rate, or FAILED at the slowest
(R21, R24, R25, R30). -/
def Tlc.stepDown (t : Tlc) : Tlc := if t.rate < 3 then t.probing (t.rate + 1) else t.failed

/-- A transition out of UP clears the sequence reference and the noise count (R28, R30). -/
def Tlc.leaveUp (t : Tlc) (old : LinkState) : Tlc :=
  if old = .up ∧ t.link ≠ .up then { t with sequenceRef := none, noiseCount := 0 } else t

/-- WEN is handed a change of the link between UP and any other state (R20). -/
def handLink (old new : LinkState) (s : State) : State :=
  if old = .up ∧ new ≠ .up then tipLinkDown s
  else if old ≠ .up ∧ new = .up then rejudgeSources s
  else s

/-- TLC takes a new link state: TIP_DOWN and TIP_FAILED follow it, WEN is handed a change between UP and
not UP, and MLM one into or out of FAILED (R20, R157). DESIGN CHOICE (log 9): in this order, TIP_DOWN, TIP_FAILED,
WEN, the horn. -/
def moveLink (new : Tlc) (s : State) : State :=
  let s1 := handLink s.tlc.link new.link
    (setLive .tipFailed (new.link == .failed)
      (setLive .tipDown (new.link != .up) { s with tlc := new.leaveUp s.tlc.link }))
  if (s.tlc.link == .failed) != (new.link == .failed) then selectHorn s1 else s1

/-- The live state of TIP_STUCK is made v; a change is handed to WEN (R20, R65). -/
def setStuck (v : Bool) (s : State) : State :=
  if s.clp.isLive .tipStuck = v then s else tipStuckChanged (setLive .tipStuck v s)

/-- TLC's state as a fresh bring-up begins: HAILING, with HAIL 1 sent (R22, R23). -/
def Tlc.fresh (t : Tlc) : Tlc :=
  ({ t.stopTimers with
    link := .hailing
    rate := 0
    hailCount := 0
    noiseCount := 0
    sequenceRef := none
    stuckCount := 0
    stuckRef := none } : Tlc).sendHail

/-- A fresh bring-up, whatever the link state (R22). DESIGN CHOICE (log 9): the link moves first, and TIP_STUCK is
taken non-live after it. -/
def freshBringUp (s : State) : State := setStuck false (moveLink s.tlc.fresh s)

/-! ## Errors and noise -/

/-- Lost frames are added to the error counter and the noise count (R28, R30, R34). -/
def countErrors (n : Nat) (s : State) : State :=
  let total := saturate16 (s.tlc.errorCounter + n)
  let s1 := { s with
    tlc := { s.tlc with
      errorCounter := total
      noiseCount := saturate16 (s.tlc.noiseCount + n) } }
  if total = 65535 then setLive .tipErrOverflow true s1 else s1

/-- A raise that brings the noise count to 25 or more steps the link down (R30). -/
def judgeNoise (s : State) : State :=
  if s.tlc.link = .up ∧ 25 ≤ s.tlc.noiseCount then moveLink s.tlc.stepDown s else s

/-- A damaged or dropped frame in UP (R28, R30). -/
def dropFrame (s : State) : State := judgeNoise (countErrors 1 s)

/-- A transfer of the error counter to the report value (R34). -/
def transferErrors (s : State) : State :=
  setLive .tipErrOverflow false
    { s with tlc := { s.tlc with reportValue := s.tlc.errorCounter, errorCounter := 0 } }

/-! ## DATA -/

/-- The tip sample of a frame's fields (R31). -/
def tipSampleOf (force swing : BitVec 16) (temperature status : Byte) : TipSample where
  force := force.toNat
  swing := min swing.toNat 900
  temperature :=
    if Int.inRange (-40) 85 temperature.toInt then temperature.toInt else 127
  overrange := status.getLsbD 0

/-- The threshold of a stuck rule (R32). -/
def StuckRule.threshold : StuckRule → Nat
  | .strict => 24
  | .lenient => 120

/-- The stuck count after an accepted frame's force count (R32). -/
def stuckCountAfter (t : Tlc) (force : Nat) : Nat :=
  match t.stuckRef with
  | none => t.stuckCount
  | some r => if r = force then saturate16 (t.stuckCount + 1) else 0

/-- The live state of TIP_STUCK after an accepted frame's force count (R32). -/
def stuckLiveAfter (t : Tlc) (live : Bool) (force : Nat) : Bool :=
  match t.stuckRef with
  | none => live
  | some r =>
    r == force && (live || t.settings.stuckRule.threshold ≤ stuckCountAfter t force)

/-- TLC's state as a frame is accepted: the link is UP, its loss timer restarts, and the frame becomes
the reference of its successors (R25, R28, R29, R31, R32). -/
def Tlc.accepted (t : Tlc) (sequence : Byte) (x : TipSample) : Tlc :=
  { t.stopTimers with
    link := .up
    lossTimer := some 40
    sequenceRef := some sequence
    stuckCount := stuckCountAfter t x.force
    stuckRef := some x.force
    lastSample := some (x, sequence) }

/-- An accepted frame: the frames missing before it are counted, the changes of the link state and of
TIP_STUCK are handed on, then the sample, and a noise step-down follows (R28, R30, R31). DESIGN CHOICE (log 9): the
count first, then the link, then TIP_STUCK. -/
def acceptFrame (sequence : Byte) (x : TipSample) (missing : Nat) (s : State) : State :=
  let s1 := if missing = 0 then s else countErrors missing s
  let stuck := stuckLiveAfter s.tlc (s.clp.isLive .tipStuck) x.force
  let s2 := setStuck stuck (moveLink (s1.tlc.accepted sequence x) s1)
  let s3 := tipSample x s2
  if missing = 0 then s3 else judgeNoise s3

/-- A DATA frame in UP, judged by its step from the sequence reference (R28). -/
def judgeFrame (sequence : Byte) (x : TipSample) (s : State) : State :=
  match s.tlc.sequenceRef with
  | none => acceptFrame sequence x 0 s
  | some r =>
    let d := (sequence - r).toNat
    if Nat.inRange 1 128 d then acceptFrame sequence x (d - 1) s else dropFrame s

/-! ## Commands from the line -/

/-- HAIL: a fresh bring-up in any link state (R22, R27). -/
def execHail (s : State) : Host.Outcome State Fault Refusal := .next (whenPowered freshBringUp s)

/-- HAIL REPLY, in HAILING alone (R23, R27). -/
def takeHailReply (s : State) : State :=
  if s.tlc.link = .hailing then moveLink (s.tlc.probing 0) s else s

def execHailReply (s : State) : Host.Outcome State Fault Refusal :=
  .next (whenPowered takeHailReply s)

/-- PROBE ECHO, in PROBING alone, when it matches (R24, R27). -/
def takeProbeEcho (rate number : Byte) (s : State) : State :=
  if s.tlc.link = .probing ∧ rate.toNat = s.tlc.rate ∧ Nat.inRange 1 5 number.toNat then
    moveLink s.tlc.starting s
  else s

def execProbeEcho (rate number : Byte) (s : State) : Host.Outcome State Fault Refusal :=
  .next (whenPowered (takeProbeEcho rate number) s)

/-- DATA, in UP and STARTING (R25, R27, R28). -/
def takeData (sequence : Byte) (x : TipSample) (s : State) : State :=
  match s.tlc.link with
  | .up => judgeFrame sequence x s
  | .starting => acceptFrame sequence x 0 s
  | .hailing => s
  | .probing => s
  | .failed => s

def execDataFrame (sequence : Byte) (force swing : BitVec 16) (temperature status : Byte)
    (s : State) : Host.Outcome State Fault Refusal :=
  .next (whenPowered (takeData sequence (tipSampleOf force swing temperature status)) s)

/-- A damaged frame, counted in UP alone (R19, R25, R28). -/
def takeDamaged (s : State) : State := if s.tlc.link = .up then dropFrame s else s

def execDamagedTipFrame (s : State) : Host.Outcome State Fault Refusal :=
  .next (whenPowered takeDamaged s)

/-! ## Timers -/

/-- The hail timer expires: the next HAIL, or FAILED after the tenth (R23). -/
def expireHail (s : State) : State :=
  if s.tlc.link = .hailing then
    if s.tlc.hailCount < 10 then { s with tlc := s.tlc.sendHail } else moveLink s.tlc.failed s
  else s

def execHailTimerExpiry (s : State) : Host.Outcome State Fault Refusal :=
  .next (whenPowered expireHail s)

/-- PROBE numbers 2 to 5 at 10 ms intervals (R24). -/
def resendProbe (s : State) : State :=
  if s.tlc.link = .probing ∧ s.tlc.probesSent < 5 then
    let n := s.tlc.probesSent + 1
    { s with
      tlc :=
        { s.tlc with
          probesSent := n
          resend := if n < 5 then some 10 else none
          sent := some (.probe (BitVec.ofNat 8 s.tlc.rate) (BitVec.ofNat 8 n)) } }
  else s

def execProbeResend (s : State) : Host.Outcome State Fault Refusal :=
  .next (whenPowered resendProbe s)

/-- The probe window expires: the probe has failed (R24). -/
def expireProbe (s : State) : State :=
  if s.tlc.link = .probing then moveLink s.tlc.stepDown s else s

def execProbeWindowExpiry (s : State) : Host.Outcome State Fault Refusal :=
  .next (whenPowered expireProbe s)

/-- GO again at 10 ms and 20 ms into the start window (R25). -/
def resendGo (s : State) : State :=
  if s.tlc.link = .starting ∧ s.tlc.gosSent < 3 then
    let n := s.tlc.gosSent + 1
    { s with
      tlc :=
        { s.tlc with
          gosSent := n
          resend := if n < 3 then some 10 else none
          sent := some (.go (BitVec.ofNat 8 s.tlc.rate)) } }
  else s

def execGoResend (s : State) : Host.Outcome State Fault Refusal := .next (whenPowered resendGo s)

/-- The start window expires: the start has failed (R25). -/
def expireStart (s : State) : State :=
  if s.tlc.link = .starting then moveLink s.tlc.stepDown s else s

def execStartWindowExpiry (s : State) : Host.Outcome State Fault Refusal :=
  .next (whenPowered expireStart s)

/-- The loss timer expires: a re-probe at the same rate index (R29). -/
def expireLoss (s : State) : State :=
  if s.tlc.link = .up then moveLink (s.tlc.probing s.tlc.rate) s else s

def execLossTimerExpiry (s : State) : Host.Outcome State Fault Refusal :=
  .next (whenPowered expireLoss s)

/-- The back-off expires: a fresh bring-up (R26). -/
def expireBackOff (s : State) : State := if s.tlc.link = .failed then freshBringUp s else s

def execBackOffExpiry (s : State) : Host.Outcome State Fault Refusal :=
  .next (whenPowered expireBackOff s)

/-- The noise interval expires and restarts (R30). -/
def expireNoise (s : State) : State :=
  { s with tlc := { s.tlc with noiseCount := 0, noiseInterval := some 1000 } }

def execNoiseIntervalExpiry (s : State) : Host.Outcome State Fault Refusal :=
  .next (whenPowered expireNoise s)

/-- The report timer expires and restarts; in AUTO it does a transfer, and a report value that is not 0
is sent (R35). -/
def expireReport (s : State) : State :=
  let s1 := { s with tlc := { s.tlc with reportTimer := some 1000 } }
  match s.tlc.settings.errorMode with
  | .manual => s1
  | .auto =>
    if s.tlc.errorCounter = 0 then transferErrors s1
    else notify (.tipErrors s.tlc.errorCounter) (transferErrors s1)

def execReportTimerExpiry (s : State) : Host.Outcome State Fault Refusal :=
  .next (whenPowered expireReport s)

/-! ## Requests -/

/-- The tip link settings are replaced; a changed stuck rule judges the present count (R33, R37). -/
def takeTipLink (t : TipSettings) (s : State) : State :=
  let s1 := { s with tlc := { s.tlc with settings := t } }
  if t.stuckRule = s.tlc.settings.stuckRule then s1
  else setStuck (decide (t.stuckRule.threshold ≤ s.tlc.stuckCount)) s1

/-- SET TIP LINK (R37). -/
def execSetTipLink (errorMode stuckRule : Nat) (s : State) : Host.Outcome State Fault Refusal :=
  .next (match ErrorMode.ofCode errorMode, StuckRule.ofCode stuckRule with
    | some e, some r => answer 0x08 .ok [] (takeTipLink ⟨e, r⟩) s
    | _, _ => refuse 0x08 .badValue s)

/-- LINK RESTART (R38). -/
def execLinkRestart (s : State) : Host.Outcome State Fault Refusal :=
  .next (answer 0x09 .ok [] freshBringUp s)

/-- A last sample as READ TIP LINK reports it (R39). -/
def lastSampleBytes (x : TipSample × Byte) : List Byte :=
  u16 x.1.force ++ u16 x.1.swing ++ i8 x.1.temperature ++ flag x.1.overrange ++ [x.2]

/-- READ TIP LINK (R39). -/
def execReadTipLink (s : State) : Host.Outcome State Fault Refusal :=
  let t := s.tlc
  .next (answer 0x0A .ok
    (u8 t.link.code ++ u8 t.rate ++ u8 t.hailCount ++ u16 t.errorCounter ++ u16 t.reportValue
      ++ flag (s.clp.isLive .tipErrOverflow) ++ u16 t.noiseCount ++ u16 t.stuckCount
      ++ flag (s.clp.isLive .tipStuck) ++ u8 t.settings.errorMode.code
      ++ u8 t.settings.stuckRule.code ++ opt lastSampleBytes t.lastSample) id s)

/-- REPORT TIP ERRORS: a transfer in MANUAL, refused STATE in AUTO (R36). -/
def execReportTipErrors (s : State) : Host.Outcome State Fault Refusal :=
  .next (match s.tlc.settings.errorMode with
    | .auto => refuse 0x0B .state s
    | .manual => answer 0x0B .ok (u16 s.tlc.errorCounter) transferErrors s)

end Sys2Proof.Machine
end

