-- ==== Sys2Proof/Machine/Inputs.lean ====
section
/-! DEFINITION. Inputs (01): the analog channels, the discrete lines, the acquisition frame with its
delivery to every consumer, and the requests of IAU. -/

namespace Sys2Proof.Machine

/-! ## Analog channels -/

/-- The scaled value of a raw code under a channel's settings (R5). -/
def scaledValue (c : Channel) (t : ChannelSettings) (r : RawCode) : Int :=
  let v := t.valueLo
    + roundDiv (((r.val : Int) - t.rawLo) * (t.valueHi - t.valueLo)) ((t.rawHi : Int) - t.rawLo)
  match c with
  | .slew => v % 3600
  | c => clamp c.range.1 c.range.2 v

/-- A code lies in the valid band, both ends included (R6). -/
def inBand (t : ChannelSettings) (r : RawCode) : Bool := Nat.inRange t.bandLo t.bandHi r.val

/-- A channel after a frame's code: status, last good code and value by the table of R6. -/
def ChannelState.judge (ch : Channel) (c : ChannelState) (r : RawCode) : ChannelState :=
  if inBand c.settings r then
    { c with
      raw := some r
      status := .good
      lastGood := some r
      value := some (scaledValue ch c.settings r) }
  else
    match c.status, c.lastGood with
    | .none, _ => { c with raw := some r, status := .none, lastGood := none, value := none }
    | _, some g =>
      { c with raw := some r, status := .held, value := some (scaledValue ch c.settings g) }
    | _, none => { c with raw := some r, status := .none, value := none }

/-- The live states of the nine SENSOR_FAULT conditions, in the order of R3 (R7). -/
def setSensorFaults (codes : PerChannel RawCode) (s : State) : State :=
  Channel.list.foldl
    (fun s c => setLive (.sensorFault c) (!inBand (s.iau.channels.get c).settings (codes.get c)) s) s

/-! ## Discrete lines -/

/-- The class of a mode on a line is output (R12). -/
def outputClass : Line → LineMode → Bool
  | _, .output => true
  | .dl0, .function => true
  | .dl1, .function => true
  | _, _ => false

/-- A line's pull-up is on (R12). DESIGN CHOICE (log 35): it is off in the modes of the output class, for which the
manual gives none. -/
def pullUp : Line → LineMode → Bool
  | _, .inputPullup => true
  | .dl2, .function => true
  | .dl3, .function => true
  | _, _ => false

/-- A line after a frame's sampled level: the debounce of R13, or the read back of R12. -/
def LineState.sample (line : Line) (l : LineState) (x : Level) (now : Stamp) : LineState :=
  if outputClass line l.settings.mode then
    { l with sampled := some x, debounced := none, candidate := none }
  else
    match l.debounced with
    | none => { l with sampled := some x, debounced := some x, candidate := none }
    | some d =>
      if x = d then { l with sampled := some x, candidate := none }
      else
        match l.candidate with
        | none => { l with sampled := some x, candidate := some ⟨x, now⟩ }
        | some c =>
          if c.level = x then
            if 20 ≤ now.since c.since then
              { l with sampled := some x, debounced := some x, candidate := none }
            else { l with sampled := some x }
          else { l with sampled := some x, candidate := some ⟨x, now⟩ }

/-- The debounced change between two states of a line, by its new level (R13). The settling frame is
none. -/
def debouncedChange (before after : LineState) : Option Level :=
  match before.debounced, after.debounced with
  | some d, some x => if d = x then none else some x
  | _, _ => none

/-- An edge setting selects a change to a new level (R14). -/
def Edge.selects : Edge → Level → Bool
  | .falling, x => x == .low
  | .rising, x => x == .high
  | .both, _ => true

/-- The edge event of a frame on a line, by the new level (R14). -/
def edgeEvent (before after : LineState) : Option Level :=
  (debouncedChange before after).filter before.settings.edge.selects

/-- A plain input sends its edge events as LINE_EDGE notices (R14). -/
def sendsEdges : LineMode → Bool
  | .input => true
  | .inputPullup => true
  | _ => false

/-- The LINE_EDGE notice of a line's frame, if any (R14). -/
def noteEdge (before : PerLine LineState) (line : Line) (s : State) : State :=
  if sendsEdges (before.get line).settings.mode then
    match edgeEvent (before.get line) (s.iau.lines.get line) with
    | none => s
    | some x => notify (.lineEdge line x s.log.clock) s
  else s

/-- DL3 in FUNCTION mode has an edge event: a mark (R14). -/
def isMark (before : PerLine LineState) (s : State) : Bool :=
  before.dl3.settings.mode == .function && (edgeEvent before.dl3 s.iau.lines.dl3).isSome

/-- DL2's switch state: closed in FUNCTION mode with a debounced level of low (R14). -/
def LineState.switchState (dl2 : LineState) : Bool :=
  dl2.settings.mode == .function && dl2.debounced == some .low

/-- IAU hands TAL the switch state (R14, R113). -/
def handSwitch (s : State) : State :=
  { s with tal := { s.tal with switchClosed := s.iau.lines.dl2.switchState } }

/-- What a line drives, or `none` when it is released (R12). A module without supply drives nothing
(R18). -/
def lineDrive (s : State) (line : Line) : Option Level :=
  let l := s.iau.lines.get line
  if !s.powered then none
  else
    match line, l.settings.mode with
    | _, .output => some l.written
    | .dl0, .function => some (if s.mlm.hornHigh then .high else .low)
    | .dl1, .function => some (if s.mlm.lampHigh then .high else .low)
    | _, _ => none

/-! ## The acquisition frame -/

/-- The samples of a frame, judged (R2, R6, R13); the next frame is 10 ms away. -/
def sampleInputs (codes : PerChannel RawCode) (levels : PerLine Level) (s : State) : State :=
  { s with
    iau :=
      { channels := s.iau.channels.map fun c t => t.judge c (codes.get c)
        lines := s.iau.lines.map fun l t => t.sample l (levels.get l) s.log.clock
        frameTimer := some 10 } }

/-- The frame inside IAU and GEO: samples, SENSOR_FAULT, LINE_EDGE, switch state, geometry (R2, R7,
R14, R41). -/
def acquire (codes : PerChannel RawCode) (levels : PerLine Level) (s : State) : State :=
  let before := s.iau.lines
  updateGeometry (handSwitch
    (Line.list.foldl (fun s l => noteEdge before l s)
      (setSensorFaults codes (sampleInputs codes levels s))))

/-- The tasks of the consumers at a frame whose order the manual leaves open. -/
inductive FrameTask where
  | cylinder | grip | mark | evaluation
deriving DecidableEq, Repr

/-- The four tasks in the order of an operand. -/
def orderedTasks (o : FrameOrder) : List FrameTask :=
  ((if o.gripFirst then [FrameTask.grip, .cylinder] else [.cylinder, .grip]).insertIdx
    o.markAt.val .mark).insertIdx o.evaluationAt.val .evaluation

/-- One task: WEN's (R63 to R65), LTR's (R90), LOG's (R136) or MLM's (R146). -/
def performTask (marked : Bool) (t : FrameTask) (s : State) : State :=
  match t with
  | .cylinder => cylinderFrame s
  | .grip => judgeGrip s
  | .mark => if marked then makeMark s else s
  | .evaluation => evaluate s

/-- An acquisition frame and its delivery (R2, R8). -/
def takeFrame (codes : PerChannel RawCode) (levels : PerLine Level) (order : FrameOrder)
    (s : State) : State :=
  let s1 := acquire codes levels s
  let marked := isMark s.iau.lines s1
  (orderedTasks order).foldl (fun u t => performTask marked t u) s1

/-- ACQUISITION_FRAME (R2). -/
def execAcquisitionFrame (codes : PerChannel RawCode) (levels : PerLine Level) (order : FrameOrder)
    (s : State) : Host.Outcome State Fault Refusal :=
  .next (whenPowered (takeFrame codes levels order) s)

/-! ## Requests -/

/-- A channel's settings are replaced; what the latest frame delivered stands (R9). -/
def takeChannel (c : Channel) (t : ChannelSettings) (s : State) : State :=
  { s with
    iau :=
      { s.iau with
        channels := s.iau.channels.set c { s.iau.channels.get c with settings := t } } }

/-- SET CHANNEL (R9). -/
def execSetChannel (index : Nat) (t : ChannelSettings) (s : State) :
    Host.Outcome State Fault Refusal :=
  .next (match Channel.ofCode index with
    | none => refuse 0x01 .badValue s
    | some c =>
      if t.accepted c then answer 0x01 .ok [] (takeChannel c t) s else refuse 0x01 .badValue s)

/-- A value in the channel's own range (R203): SLEW and the pressures are unsigned in R3, and every
value setting of SLEW is signed in R4; both take two bytes. -/
def ChannelSettings.bytes (t : ChannelSettings) : List Byte :=
  u16 t.rawLo ++ i16 t.valueLo ++ u16 t.rawHi ++ i16 t.valueHi ++ u16 t.bandLo ++ u16 t.bandHi

/-- The reply data of READ CHANNEL (R10). -/
def readChannelData (s : State) (c : Channel) : List Byte :=
  let x := s.iau.channels.get c
  opt (fun r : RawCode => u16 r.val) x.raw ++ u8 x.status.code ++ opt i16 x.value
    ++ opt (fun r : RawCode => u16 r.val) x.lastGood ++ flag (s.clp.isLive (.sensorFault c))
    ++ ChannelSettings.bytes x.settings

/-- READ CHANNEL (R10). -/
def execReadChannel (index : Nat) (s : State) : Host.Outcome State Fault Refusal :=
  .next (match Channel.ofCode index with
    | none => refuse 0x02 .badValue s
    | some c => answer 0x02 .ok (readChannelData s c) id s)

/-- A line under a new mode and edge setting: the table of R15. -/
def LineState.reset (line : Line) (l : LineState) (t : LineSettings) : LineState :=
  if outputClass line l.settings.mode || outputClass line t.mode then
    { l with settings := t, debounced := none, candidate := none }
  else { l with settings := t }

/-- A line's mode and edge setting are replaced, and TAL is handed the switch state (R15). -/
def takeLine (line : Line) (t : LineSettings) (s : State) : State :=
  handSwitch
    { s with
      iau := { s.iau with lines := s.iau.lines.set line ((s.iau.lines.get line).reset line t) } }

/-- SET LINE (R15). -/
def execSetLine (line mode edge : Nat) (s : State) : Host.Outcome State Fault Refusal :=
  .next (match Line.ofCode line, LineMode.ofCode mode, Edge.ofCode edge with
    | some l, some m, some e => answer 0x03 .ok [] (takeLine l ⟨m, e⟩) s
    | _, _, _ => refuse 0x03 .badValue s)

/-- The level that bit i of WRITE LINES' levels carries (R16). DESIGN CHOICE (log 26): bit i stands for DLi, and
a set bit is high. -/
def levelBit (levels i : Nat) : Level := if levels.testBit i then .high else .low

/-- The written levels of the named lines are replaced (R16). DESIGN CHOICE (log 26): bit i of the mask names
DLi. -/
def takeLevels (mask levels : Nat) (s : State) : State :=
  { s with
    iau :=
      { s.iau with
        lines := s.iau.lines.map fun l t =>
          if mask.testBit l.code then { t with written := levelBit levels l.code } else t } }

/-- WRITE LINES (R16). -/
def execWriteLines (mask levels : Nat) (s : State) : Host.Outcome State Fault Refusal :=
  .next (if mask < 16 && levels < 16 then answer 0x04 .ok [] (takeLevels mask levels) s
    else refuse 0x04 .badValue s)

/-- One line in READ LINES (R17). DESIGN CHOICE (log 12): DL2's switch state is 1 when closed, 0 when open. -/
def lineBytes (line : Line) (l : LineState) : List Byte :=
  u8 l.settings.mode.code ++ u8 l.settings.edge.code ++ u8 l.written.code
    ++ opt (fun x : Level => u8 x.code) l.sampled ++ opt (fun x : Level => u8 x.code) l.debounced
    ++ flag l.candidate.isSome ++ (if line = .dl2 then flag l.switchState else [])

/-- READ LINES (R17). -/
def execReadLines (s : State) : Host.Outcome State Fault Refusal :=
  .next (answer 0x05 .ok ((s.iau.lines.map lineBytes).toList.flatten) id s)

end Sys2Proof.Machine
end

