-- ==== Sys2Proof/Machine/Valve.lean ====
section
/-! DEFINITION. Valve Drive (09): lever intake and the neutral latches, the drive update, coil
monitoring, the duty codes, and the requests of VDR. -/

namespace Sys2Proof.Machine

/-! ## Lever intake -/

/-- A lever demand as taken, −1,000..+1,000 (R166). -/
def clampDemand (d : Int) : Int := clamp (-1000) 1000 d

/-- A section takes its demand: judged against the neutral latch (R166). -/
def SectionState.takeDemand (x : SectionState) (demand : Int) : SectionState :=
  let d := clampDemand demand
  if x.latch then
    (if d.natAbs ≤ 50 then { x with latch := false, target := d } else { x with target := 0 })
  else { x with target := d }

/-- The six demands of a record, in the order of R166. -/
def demandsOf : List Int → Option (PerSection Int)
  | [a, b, c, d, e, f] => some ⟨a, b, c, d, e, f⟩
  | _ => none

/-- A LEVER record is taken (R166): the sections, the lever timer, LEVER_STALE. -/
def takeLever (demands : PerSection Int) (s : State) : State :=
  { s with
    vdr :=
      { s.vdr with
        sections := s.vdr.sections.map fun v x => x.takeDemand (demands.get v)
        leverTimer := some 150 }
    clp := s.clp.setLive .leverStale false }

/-- LEVER: no reply to a record of the right length; BAD_LENGTH to any other (R166, R194). -/
def execLever (demands : List Int) (s : State) : Host.Outcome State Fault Refusal :=
  .next (match demandsOf demands with
    | none => refuse 0x48 .badLength s
    | some d => if s.dispatching then takeLever d s else s)

/-- The neutral latch is set and the lever target is 0 (R168). -/
def SectionState.hold (x : SectionState) : SectionState := { x with latch := true, target := 0 }

/-- The lever timer expires (R167); it does not run again until the next record. -/
def expireLever (s : State) : State :=
  if s.vdr.leverTimer.isSome then
    { s with
      vdr :=
        { s.vdr with
          sections := s.vdr.sections.map fun _ x => x.hold
          leverTimer := none }
      clp := s.clp.setLive .leverStale true }
  else s

/-- LEVER_TIMER_EXPIRY (R167). -/
def execLeverTimerExpiry (s : State) : Host.Outcome State Fault Refusal :=
  .next (whenPowered expireLever s)

/-! ## Composed target and ramp -/

/-- The sections that the limiter governs (R170). -/
def limited : Section → Bool
  | .slew => true
  | .boom => true
  | .jib => true
  | .tele => true
  | .rotate => false
  | .grapple => false

/-- The factor in use for a lever target (R170). -/
def factorInUse (v : Section) (target : Int) (f : FactorPair) : Nat :=
  if target = 0 || !limited v then 1000 else if 0 < target then f.positive else f.negative

/-- The composed target: the quotient is taken toward zero (R170). -/
def composedTarget (target : Int) (factor : Nat) : Int := (target * factor).tdiv 1000

/-- Both are above 0, or both are below 0. -/
def sameSign (x y : Int) : Bool := (0 < x && 0 < y) || (x < 0 && y < 0)

/-- The output after one drive update's ramp: the table of R171. -/
def rampOutput (up down : Nat) (o t : Int) : Int :=
  if o = t then o
  else if (sameSign o t || o == 0) && o.natAbs < t.natAbs then
    t.sign * (o.natAbs + min up (t.natAbs - o.natAbs) : Nat)
  else if (sameSign o t || t == 0) && t.natAbs < o.natAbs then
    o.sign * (o.natAbs - min down (o.natAbs - t.natAbs) : Nat)
  else o.sign * (o.natAbs - min down o.natAbs : Nat)

/-! ## Current and duty -/

/-- The active coil's setpoint in mA (R172). -/
def activeCurrent (t : SectionSettings) (o : Int) : Nat :=
  if o = 0 || o.natAbs < t.deadband then 0
  else t.iMin + (o.natAbs - t.deadband) * (t.iMax - t.iMin) / (1000 - t.deadband)

/-- The two setpoints: coil A for a positive output, coil B for a negative one (R172). -/
def setpoints (t : SectionSettings) (o : Int) : CoilPair :=
  if 0 < o then ⟨activeCurrent t o, 0⟩ else ⟨0, activeCurrent t o⟩

/-- The duty code of a setpoint (R173). -/
def dutyCode (current : Nat) : Nat := (roundDiv (current * 255) 2000).toNat

/-- The parts of a duty code that the coil driver drives with (R173). -/
def dutyBase (code : Nat) : Nat := code / 4

def dutyExt (code : Nat) : Nat := code % 4

/-- The extra of each of the four pulse periods of a group (R173). -/
def dutyExtra : Nat → List Nat
  | 0 => [0, 0, 0, 0]
  | 1 => [0, 0, 1, 0]
  | 2 => [0, 1, 0, 1]
  | _ => [0, 1, 1, 1]

/-- The duties of a group's four pulse periods, in sixty-fourths (R173). -/
def dutyGroup (code : Nat) : List Nat := (dutyExtra (dutyExt code)).map fun x => dutyBase code + x

/-- What the coil driver drives a section's two coils with in the group in progress: the duties of its four
pulse periods (R173). -/
def SectionState.pulses (x : SectionState) : List Nat × List Nat :=
  (dutyGroup x.driven.a, dutyGroup x.driven.b)

/-! ## Coil monitoring -/

/-- A coil fails the open test: m below s / 4, taken exactly (R174). -/
def failsOpen (setpoint measured : Nat) : Bool := setpoint != 0 && measured * 4 < setpoint

/-- The open count after an update, and whether the coil is found open (R174). -/
def openJudged (fails : Bool) (count : Nat) : Nat × Bool :=
  if fails then (if count < 10 then (count + 1, false) else (10, true)) else (0, false)

/-- A section is disabled with a fault: everything it drives becomes 0 at once, and the coil driver does not
wait for the end of its group (R173, R176). -/
def SectionState.disable (x : SectionState) (fault : CoilFault) : SectionState :=
  { x with
    coil := .disabled fault
    composed := 0
    output := 0
    setpoint := ⟨0, 0⟩
    duty := ⟨0, 0⟩
    driven := ⟨0, 0⟩
    openCount := ⟨0, 0⟩ }

/-- A section is DISABLED. -/
def SectionState.isDisabled (x : SectionState) : Bool :=
  match x.coil with
  | .enabled => false
  | .disabled _ => true

/-! ## The drive update -/

/-- Steps 2 to 5 of a drive update, for an ENABLED section (R169 to R173). The codes are handed to the coil
driver, whose group in progress finishes on the old ones. -/
def SectionState.drive (v : Section) (f : FactorPair) (x : SectionState) : SectionState :=
  let factor := factorInUse v x.target f
  let composed := composedTarget x.target factor
  let output := rampOutput x.settings.up x.settings.down x.output composed
  let setpoint := setpoints x.settings output
  { x with
    factor := factor
    composed := composed
    output := output
    setpoint := setpoint
    duty := ⟨dutyCode setpoint.a, dutyCode setpoint.b⟩ }

/-- A section's drive update (R169): the open test on the setpoints of the period just ended, then the
drive. Coil A's fault is taken before coil B's (R174). -/
def SectionState.update (v : Section) (f : FactorPair) (m : CoilPair) (x : SectionState) :
    SectionState :=
  match x.coil with
  | .disabled _ => { x with measured := m }
  | .enabled =>
    let a := openJudged (failsOpen x.setpoint.a m.a) x.openCount.a
    let b := openJudged (failsOpen x.setpoint.b m.b) x.openCount.b
    let x1 := { x with measured := m, openCount := ⟨a.1, b.1⟩ }
    if a.2 then x1.disable .openA else if b.2 then x1.disable .openB else x1.drive v f

/-- COIL_FAULT goes live for each section that has become DISABLED, in the order of the sections
(R176). -/
def noteCoilFaults (before after : PerSection SectionState) (c : Clp) : Clp :=
  Section.list.foldl
    (fun c v =>
      if (after.get v).isDisabled && !(before.get v).isDisabled then c.setLive (.coilFault v) true
      else c) c

/-- The six sections after a drive update (R169). -/
def updatedSections (m : CoilSamples) (d : Vdr) : PerSection SectionState :=
  d.sections.map fun v x => x.update v (d.factors.get v) (m.get v)

/-- A drive update; the next is 10 ms away (R169). -/
def updateDrive (m : CoilSamples) (s : State) : State :=
  { s with
    vdr := { s.vdr with sections := updatedSections m s.vdr, driveTimer := some 10 }
    clp := noteCoilFaults s.vdr.sections (updatedSections m s.vdr) s.clp }

/-- DRIVE_UPDATE (R169). -/
def execDriveUpdate (m : CoilSamples) (s : State) : Host.Outcome State Fault Refusal :=
  .next (whenPowered (updateDrive m) s)

/-- The fault of a short in a coil (R175). -/
def Coil.short : Coil → CoilFault
  | .a => .shortA
  | .b => .shortB

/-- A short in a coil of an ENABLED section disables it at once (R175, R176). -/
def takeShort (v : Section) (coil : Coil) (s : State) : State :=
  if (s.vdr.sections.get v).isDisabled then s
  else
    { s with
      vdr :=
        { s.vdr with
          sections :=
            s.vdr.sections.set v ((s.vdr.sections.get v).disable (Coil.short coil)) }
      clp := s.clp.setLive (.coilFault v) true }

/-- COIL_SHORT (R175). -/
def execCoilShort (v : Section) (coil : Coil) (s : State) : Host.Outcome State Fault Refusal :=
  .next (whenPowered (takeShort v coil) s)

/-- A DISABLED section is re-enabled with its neutral latch set (R177). -/
def SectionState.reenable (x : SectionState) : SectionState :=
  if x.isDisabled then { x.hold with coil := .enabled, openCount := ⟨0, 0⟩ } else x

/-- Every DISABLED section is re-enabled and its COIL_FAULT goes non-live (R177). -/
def reenableSections (s : State) : State :=
  { s with
    vdr := { s.vdr with sections := s.vdr.sections.map fun _ x => x.reenable }
    clp :=
      Section.list.foldl
        (fun c v =>
          if (s.vdr.sections.get v).isDisabled then c.setLive (.coilFault v) false else c) s.clp }

/-! ## Caps and requests -/

/-- Current settings brought within a cap, in the two steps of R165. -/
def withinCap (cap : Nat) (t : SectionSettings) : SectionSettings :=
  let iMax := min t.iMax cap
  { t with iMax := iMax, iMin := min t.iMin iMax }

/-- VDR brings its section settings within the working caps (R165). -/
def clampSections (s : State) : State :=
  { s with
    vdr :=
      { s.vdr with
        sections := s.vdr.sections.map fun v x =>
          { x with settings := withinCap (s.sto.working.caps.get v) x.settings } } }

/-- The settings of the sections named are replaced (R178). -/
def takeSection (chosen : List Section) (t : SectionSettings) (s : State) : State :=
  { s with
    vdr :=
      { s.vdr with
        sections := s.vdr.sections.map fun v x =>
          if chosen.contains v then { x with settings := t } else x } }

/-- SET SECTION (R178). -/
def execSetSection (valve : Nat) (t : SectionSettings) (s : State) :
    Host.Outcome State Fault Refusal :=
  .next (match Section.choice valve with
    | none => refuse 0x49 .badValue s
    | some chosen =>
      if chosen.all fun v => t.accepted (s.sto.working.caps.get v) then
        answer 0x49 .ok [] (takeSection chosen t) s
      else refuse 0x49 .badValue s)

def CoilPair.u16s (p : CoilPair) : List Byte := u16 p.a ++ u16 p.b

def CoilPair.u8s (p : CoilPair) : List Byte := u8 p.a ++ u8 p.b

def SectionSettings.bytes (t : SectionSettings) : List Byte :=
  u16 t.iMin ++ u16 t.iMax ++ u8 t.deadband ++ u16 t.up ++ u16 t.down

/-- The reply data of READ SECTION (R179). -/
def readSectionData (s : State) (v : Section) : List Byte :=
  let x := s.vdr.sections.get v
  i16 x.target ++ flag x.latch ++ u16 x.factor ++ FactorPair.bytes (s.vdr.factors.get v)
    ++ i16 x.composed ++ i16 x.output ++ CoilPair.u16s x.setpoint ++ CoilPair.u8s x.duty
    ++ CoilPair.u16s x.measured ++ CoilPair.u8s x.openCount ++ u8 x.coil.code
    ++ SectionSettings.bytes x.settings ++ u16 (s.sto.working.caps.get v)
    ++ flag (s.clp.isLive .leverStale)

/-- READ SECTION (R179). -/
def execReadSection (valve : Nat) (s : State) : Host.Outcome State Fault Refusal :=
  .next (match Section.ofCode valve with
    | none => refuse 0x4A .badValue s
    | some v => answer 0x4A .ok (readSectionData s v) id s)

end Sys2Proof.Machine
end

