-- ==== Sys2Proof/Machine/Store.lean ====
section
/-! DEFINITION. Capability Profile and Stored Settings (10): the record check, the writes, the working
profile and its handover, loss of supply, and the requests of STO. -/

namespace Sys2Proof.Machine

/-! ## Records -/

/-- The content of a record that passes its check (R182): a sum of 0, the signature of its kind, and
every value in its range. -/
def StoreSlot.passing {α : Type} (kind : RecordKind) (valid : α → Bool) : StoreSlot α → Option α
  | .unreadable => none
  | .record x signature sum =>
    if sum = 0 ∧ signature = some kind ∧ valid x then some x else none

/-- A record as STO writes it: its own signature, and a checksum that makes the sum 0 (R182). -/
def StoreSlot.written {α : Type} (kind : RecordKind) (x : α) : StoreSlot α :=
  .record x (some kind) 0

/-- The profile that the stored record gives, when it passes (R182, R183). -/
def Sto.loadProfile (t : Sto) : Option Profile :=
  t.profileSlot.passing .profile Profile.withinFactory

/-- The settings that the stored record gives, when it passes (R182, R183). -/
def Sto.loadSettings (t : Sto) : Option SettingsRecord :=
  t.settingsSlot.passing .settings SettingsRecord.accepted

/-- The calibration that the stored record gives, when it passes (R182, R183). -/
def Sto.loadCalibration (t : Sto) : Option Calibration :=
  t.calibrationSlot.passing .calibration Calibration.accepted

/-- A record's result in the load report (R183). -/
def loadResult {α : Type} : Option α → LoadResult
  | some _ => .passed
  | none => .failed

/-- The settings of every block as they stand (R181). -/
def currentSettings (s : State) : SettingsRecord where
  channels := s.iau.channels.map fun _ c => c.settings
  lines := s.iau.lines.map fun _ l => l.settings
  tip := s.tlc.settings
  geometry := s.geo.geometry
  zones := s.geo.zones
  weigh := s.wen.settings
  lift := s.ltr.settings
  labels := s.tal.labels
  target := s.tal.target
  enables := s.log.enables
  limiter := s.mlm.limiter
  horn := s.mlm.horn
  sections := s.vdr.sections.map fun _ x => x.settings
  cab := s.clp.settings

/-! ## Writes -/

/-- A write is in flight with the copy it stores (R184). -/
def beginWrite (w : StoreWrite) (s : State) : State :=
  { s with sto := { s.sto with write := some w } }

/-- The request that began a write (R184). -/
def StoreWrite.kind : StoreWrite → WriteKind
  | .save .. => .saveSettings
  | .profile .set _ => .profileSet
  | .profile .restore _ => .profileRestore
  | .profile .freeze _ => .profileFreeze

/-- The record whose part is in progress (R185, R190). -/
def StoreWrite.record : StoreWrite → RecordKind
  | .save _ _ .settings => .settings
  | .save _ _ .calibration => .calibration
  | .profile _ _ => .profile

/-- The part in progress writes its record (R184). -/
def StoreWrite.apply (w : StoreWrite) (t : Sto) : Sto :=
  match w with
  | .save x _ .settings => { t with settingsSlot := .written .settings x }
  | .save _ c .calibration => { t with calibrationSlot := .written .calibration c }
  | .profile _ p => { t with profileSlot := .written .profile p }

/-- What is still to be written after the part in progress (R185). -/
def StoreWrite.rest : StoreWrite → Option StoreWrite
  | .save x c .settings => some (.save x c .calibration)
  | .save _ _ .calibration => none
  | .profile _ _ => none

/-- A part of the write in flight ends; STORE_DONE follows the last (R184, R185). -/
def finishPart (s : State) : State :=
  match s.sto.write with
  | none => s
  | some w =>
    let s1 := { s with sto := { w.apply s.sto with write := w.rest } }
    if w.rest.isNone then notify (.storeDone w.kind) s1 else s1

/-- STORE_WRITE_PART (R184). -/
def execStoreWritePart (s : State) : Host.Outcome State Fault Refusal :=
  .next (whenPowered finishPart s)

/-- The record whose part was in progress is left failing its check (R184). -/
def Sto.breakOff (t : Sto) : Sto :=
  match t.write with
  | none => t
  | some w =>
    let t1 := { t with write := none }
    match w.record with
    | .profile => { t1 with profileSlot := .unreadable }
    | .settings => { t1 with settingsSlot := .unreadable }
    | .calibration => { t1 with calibrationSlot := .unreadable }

/-- Supply is lost: the store is what is left (R184). -/
def loseSupply (s : State) : State := .unpowered s.sto.breakOff s.pending

/-- LOSS_OF_SUPPLY (R184, R189). -/
def execLossOfSupply (s : State) : Host.Outcome State Fault Refusal :=
  .next (whenPowered loseSupply s)

/-- SAVE SETTINGS (R185). -/
def execSaveSettings (s : State) : Host.Outcome State Fault Refusal :=
  .next (if s.sto.write.isSome then refuse 0x50 .busy s
    else answer 0x50 .accepted []
      (beginWrite (.save (currentSettings s) s.wen.calibration .settings)) s)

/-! ## The capability profile -/

/-- The working profile as it stands is handed to its users (R187): MLM, WEN, TAL and VDR, in the order
R187 lists them. -/
def handProfile (s : State) : State :=
  clampSections (judgePayload (rejudgeSources (evaluate s)))

/-- The working profile changes and is handed on (R187). -/
def changeProfile (p : Profile) (s : State) : State :=
  handProfile { s with sto := { s.sto with working := p } }

/-- PROFILE SET (R188): its three refusals in their order, then the change and the write. -/
def execProfileSet (mask : Nat) (f : ProfileFields) (s : State) :
    Host.Outcome State Fault Refusal :=
  .next (if profileMaskNames mask && profileFieldsInRange mask f then
      if s.sto.freeze = .frozen then refuse 0x51 .frozen s
      else if s.sto.write.isSome then refuse 0x51 .busy s
      else
        let p := profileAfterSet mask f s.sto.working
        answer 0x51 .accepted (u16 (profileIgnored mask f))
          (fun s => beginWrite (.profile .set p) (changeProfile p s)) s
    else refuse 0x51 .badValue s)

/-- PROFILE RESTORE (R189). -/
def execProfileRestore (s : State) : Host.Outcome State Fault Refusal :=
  .next (if s.sto.freeze = .frozen then refuse 0x52 .frozen s
    else if s.sto.write.isSome then refuse 0x52 .busy s
    else
      answer 0x52 .accepted []
        (fun s => beginWrite (.profile .restore .factory) (changeProfile .factory s)) s)

/-- The working profile is frozen and written (R189). -/
def freezeProfile (s : State) : State :=
  beginWrite (.profile .freeze s.sto.working) { s with sto := { s.sto with freeze := .frozen } }

/-- PROFILE FREEZE (R189). -/
def execProfileFreeze (s : State) : Host.Outcome State Fault Refusal :=
  .next (if s.sto.freeze = .frozen then refuse 0x53 .frozen s
    else if s.sto.write.isSome then refuse 0x53 .busy s
    else answer 0x53 .accepted [] freezeProfile s)

/-! ## Identity and status -/

/-- The ten fields of a profile in the order of R186. -/
def Profile.bytes (p : Profile) : List Byte :=
  u16 p.mBase ++ u16 p.tilt ++ u8 (fallbackCode p.fallback) ++ u32 p.payload
    ++ p.caps.toList.flatMap u16

/-- PROFILE IDENTIFY (R190). -/
def execProfileIdentify (s : State) : Host.Outcome State Fault Refusal :=
  .next (answer 0x54 .ok Profile.factory.bytes id s)

/-- BOLPETRA (R190). -/
def vendorName : List Byte := [0x42, 0x4F, 0x4C, 0x50, 0x45, 0x54, 0x52, 0x41]

/-- CG-28 (R190). -/
def partName : List Byte := [0x43, 0x47, 0x2D, 0x32, 0x38]

/-- The reply data of IDENTIFY (R190). -/
def identifyData (p : Profile) : List Byte :=
  vendorName ++ partName ++ u8 (Config.revisionLessOne.val + 1) ++ u32 (Config.serialLessOne.val + 1)
    ++ u16 p.mBase ++ u16 p.tilt ++ u32 p.payload ++ u8 (fallbackCode p.fallback)

/-- IDENTIFY (R190). -/
def execIdentify (s : State) : Host.Outcome State Fault Refusal :=
  .next (answer 0x55 .ok (identifyData s.sto.working) id s)

/-- The reply data of READ STORE (R190). -/
def readStoreData (t : Sto) : List Byte :=
  t.working.bytes ++ u8 t.freeze.code ++ u8 t.report.profile.code ++ u8 t.report.settings.code
    ++ u8 t.report.calibration.code
    ++ opt (fun w : StoreWrite => u8 w.kind.code ++ u8 w.record.code) t.write

/-- READ STORE (R190). -/
def execReadStore (s : State) : Host.Outcome State Fault Refusal :=
  .next (answer 0x56 .ok (readStoreData s.sto) id s)

end Sys2Proof.Machine
end

