-- ==== Sys2Proof/Machine/StartUp.lean ====
section
/-! DEFINITION. The two resets (00, 10, 11): what each block takes at the reset, the loading of the store,
and the start-up sequence that ends with STARTED. A reset and its start-up are one step. -/

namespace Sys2Proof.Machine

/-! ## The blocks at a reset -/

/-- STO after the loading of its three records (R183): the working profile, the load report, no write,
and the freeze state OPEN. -/
def Sto.loaded (t : Sto) : Sto :=
  { t with
    working := t.loadProfile.getD .factory
    freeze := .opened
    report := ⟨loadResult t.loadProfile, loadResult t.loadSettings, loadResult t.loadCalibration⟩
    write := none }

/-- Every block on the values the loading brings into force (R183), before any is started. -/
def powerOnBlocks (sto : Sto) (pending : List Instr) : State :=
  let r := sto.loadSettings.getD .default
  let c := sto.loadCalibration.getD .default
  { powered := true
    iau := .afterReset r
    tlc := .afterReset r.tip
    geo := .afterReset r.geometry r.zones
    wen := .afterReset c r.weigh 0
    ltr := .afterReset r.lift 0
    tal := .afterReset r.labels r.target
    log := .afterReset r.enables
    mlm := .afterReset r.limiter r.horn
    vdr := .afterReset r.sections
    sto := sto.loaded
    clp := .afterReset r.cab
    pending := pending }

/-- STORE_INVALID is latched at each record that fails (R183). -/
def latchFailed (x : LoadResult) (s : State) : State :=
  match x with
  | .passed => s
  | .failed => latch .storeInvalid s

/-- The loading of the store in the order profile, settings, calibration, and TALLY_LOST (R183, R129). -/
def loadStore (sto : Sto) (pending : List Instr) : State :=
  let s := powerOnBlocks sto pending
  latch .tallyLost
    (latchFailed s.sto.report.calibration
      (latchFailed s.sto.report.settings (latchFailed s.sto.report.profile s)))

/-- Every block in its RESTART state: what each reset rule keeps is kept (R11, R18, R40, R56, R84, R107,
R129, R145, R163, R180, R192, R200). -/
def restartBlocks (s : State) : State where
  powered := s.powered
  iau := .afterReset (currentSettings s)
  tlc := .afterReset s.tlc.settings
  geo := .afterReset s.geo.geometry s.geo.zones
  wen := .afterReset s.wen.calibration s.wen.settings s.wen.zeroOffset
  ltr := .afterReset s.ltr.settings s.ltr.number
  tal := { s.tal with switchClosed := false }
  log := s.log
  mlm := .afterReset s.mlm.limiter s.mlm.horn
  vdr := .afterReset (s.vdr.sections.map fun _ x => x.settings)
  sto := s.sto
  clp := .afterReset s.clp.settings
  pending := s.pending

/-! ## Start-up -/

/-- IAU is started: its first frame is 10 ms away (R2). -/
def startIau (s : State) : State := { s with iau := { s.iau with frameTimer := some 10 } }

/-- TLC is started: its two timers, and the fresh bring-up (R22, R30, R35, R40). -/
def startTlc (s : State) : State :=
  freshBringUp { s with tlc := { s.tlc with noiseInterval := some 1000, reportTimer := some 1000 } }

/-- WEN is started: its timer, its source and NO_CAL judged on the inputs as they stand (R84). -/
def startWen (s : State) : State :=
  judgeNoCal
    { s with
      wen :=
        { s.wen with source := judgedSource s, compensationTimer := some s.wen.settings.period } }

/-- VDR is started: the clamp of R165, the lever timer, the coil driver's groups (log 30), and the first drive
update (R180). -/
def startVdr (m : CoilSamples) (s : State) : State :=
  let s1 := clampSections s
  updateDrive m { s1 with vdr := { s1.vdr with leverTimer := some 150, groupTimer := some 2 } }

/-- CLP sends STARTED, starts the live report timer, and begins to take records (R191, R199). -/
def sendStarted (kind : ResetKind) (s : State) : State :=
  let s1 := notify
    (.started kind (s.clp.isLatched .storeInvalid) s.sto.report s.sto.freeze) s
  { s1 with
    clp := { s1.clp with started := true, liveTimer := s1.clp.settings.period.timer } }

/-- The start-up sequence (R191): PAYLOAD on the working profile, then IAU, TLC, GEO, WEN, MLM and VDR in
that order, then STARTED. GEO has no schedule of its own to start. -/
def startUp (kind : ResetKind) (m : CoilSamples) (s : State) : State :=
  sendStarted kind (startVdr m (evaluate (startWen (startTlc (startIau (judgePayload s))))))

/-! ## Commands -/

/-- The application of supply to what the store holds (R191). Supply applied to a module that has it is
supply lost and applied again. -/
def powerUp (m : CoilSamples) (s : State) : State :=
  startUp .powerOn m (loadStore s.sto.breakOff s.pending)

/-- POWER_ON (R191). -/
def execPowerOn (m : CoilSamples) (s : State) : Host.Outcome State Fault Refusal :=
  .next (powerUp m s)

/-- RESTART: BUSY during a write; otherwise OK, and CLP stops dispatching (R184, R200). -/
def execRestart (s : State) : Host.Outcome State Fault Refusal :=
  .next (if s.sto.write.isSome then refuse 0x5B .busy s
    else answer 0x5B .ok [] (fun s => { s with clp := { s.clp with restarting := true } }) s)

/-- A RESTART that has been answered is performed (R200). -/
def performRestart (m : CoilSamples) (s : State) : State :=
  if s.clp.restarting then startUp .restart m (restartBlocks s) else s

/-- RESTART_PERFORMED (R200). -/
def execRestartPerformed (m : CoilSamples) (s : State) : Host.Outcome State Fault Refusal :=
  .next (whenPowered (performRestart m) s)

end Sys2Proof.Machine
end

