-- ==== Sys2Proof/Machine/CabLine.lean ====
section
/-! DEFINITION. Cab Line (11): the requests of CLP, the live report, and the transmit side. -/

namespace Sys2Proof.Machine

/-- The reply data of CLEAR CONDITIONS: the masks after both steps (R198). -/
def conditionMasks (c : Clp) : List Byte := u32 c.live.toNat ++ u32 c.latched.toNat

/-- The two steps of CLEAR CONDITIONS (R198). -/
def clearConditions (mask : BitVec 30) (s : State) : State :=
  let s1 := reenableSections s
  { s1 with clp := s1.clp.clearLatches mask }

/-- CLEAR CONDITIONS (R198). The masks of the reply are those the request leaves; the notices that the
re-enable sends behind the reply do not touch them. -/
def execClearConditions (mask : BitVec 32) (s : State) : Host.Outcome State Fault Refusal :=
  .next (if mask.toNat < 2 ^ 30 then
      answer 0x58 .ok (conditionMasks (clearConditions (mask.truncate 30) s).clp)
        (clearConditions (mask.truncate 30)) s
    else refuse 0x58 .badValue s)

/-- The reply data of READ CONDITIONS (R198). -/
def readConditionsData (c : Clp) : List Byte :=
  conditionMasks c ++ (c.settings.modes.toList.flatMap fun m => u8 m.code)
    ++ u8 c.settings.period.code ++ u8 c.lost

/-- READ CONDITIONS: the lost-notice count is then 0 (R198). -/
def execReadConditions (s : State) : Host.Outcome State Fault Refusal :=
  .next (answer 0x59 .ok (readConditionsData s.clp)
    (fun s => { s with clp := { s.clp with lost := 0 } }) s)

/-- The cab line settings are replaced; a changed period restarts the live report timer (R199). -/
def takeCabLine (t : CabSettings) (s : State) : State :=
  { s with
    clp :=
      { s.clp with
        settings := t
        liveTimer := if t.period = s.clp.settings.period then s.clp.liveTimer else t.period.timer } }

/-- SET CAB LINE (R199). A frame without 30 modes has a length that does not suit the kind (R194). -/
def execSetCabLine (period : Nat) (modes : List Nat) (s : State) :
    Host.Outcome State Fault Refusal :=
  .next (if modes.length ≠ 30 then refuse 0x5A .badLength s
    else
      match cabOfFields period modes with
      | none => refuse 0x5A .badValue s
      | some t => answer 0x5A .ok [] (takeCabLine t) s)

/-- The values of a LIVE notice as their owners hold them (R199). -/
def liveReport (s : State) : LiveReport where
  liveEstimate := s.wen.liveEstimate
  source := s.wen.source
  liftState := s.ltr.state
  zone := s.geo.zone
  reach := if s.geo.valid then s.geo.position.map Position.reach else none
  tau := s.geo.tau
  utilisation := s.mlm.figures.utilisation
  stage := s.mlm.stage
  selected := s.tal.selected
  total := s.tal.total

/-- The live report timer expires: it restarts, and a LIVE notice is formed (R199). -/
def expireLive (s : State) : State :=
  if s.clp.liveTimer.isSome then
    notify (.live (liveReport s))
      { s with clp := { s.clp with liveTimer := s.clp.settings.period.timer } }
  else s

/-- LIVE_REPORT_TIMER_EXPIRY (R199). -/
def execLiveReportTimerExpiry (s : State) : Host.Outcome State Fault Refusal :=
  .next (whenPowered expireLive s)

/-- The oldest frame of the queue has been sent (R195). -/
def execFrameTransmitted (s : State) : Host.Outcome State Fault Refusal :=
  .next (whenPowered
    (fun s => { s with clp := { s.clp with queue := s.clp.queue.drop 1 } }) s)

/-- The receiver is in HUNT with nothing kept. -/
def clearReceiver (s : State) : State := { s with clp := { s.clp with receiver := .idle } }

/-- BYTE_GAP_EXPIRY: a gap of more than 5 ms discards the frame in progress (R193). -/
def execByteGapExpiry (s : State) : Host.Outcome State Fault Refusal :=
  .next (whenPowered clearReceiver s)

/-- UNKNOWN_KIND: BAD_KIND (R194). -/
def execUnknownKind (kind : Byte) (s : State) : Host.Outcome State Fault Refusal :=
  .next (refuse kind .badKind s)

end Sys2Proof.Machine
end

