-- ==== Sys2Proof/Machine/Requests.lean ====
section
/-! DEFINITION. Requests as frames carry them (R194, R202, R203): the KIND byte of each request, the
lengths that suit it, its fields read from a payload, and the payload a request is sent in. Also the
command that a frame of the tip unit stands for (R19, R203). -/

namespace Sys2Proof.Machine

/-! ## Fields of a payload -/

/-- A value setting of SET CHANNEL: signed where the range that R4 accepts for the channel is signed
(R203). -/
def signedValue (index : Nat) : Bool :=
  match Channel.ofCode index with
  | some .slew => true
  | some .boom => true
  | some .pitch => true
  | some .roll => true
  | _ => false

/-- A two-byte number, signed or not. -/
def num16At (signed : Bool) (p : List Byte) (i : Nat) : Int :=
  if signed then i16At p i else u16At p i

/-- The six settings of R4, from an offset. -/
def channelSettingsAt (signed : Bool) (p : List Byte) (i : Nat) : ChannelSettings where
  rawLo := u16At p i
  valueLo := num16At signed p (i + 2)
  rawHi := u16At p (i + 4)
  valueHi := num16At signed p (i + 6)
  bandLo := u16At p (i + 8)
  bandHi := u16At p (i + 10)

/-- R42. -/
def geometrySettingsOf (p : List Byte) : GeometrySettings :=
  ⟨u16At p 0, u16At p 2, u16At p 4, u16At p 6⟩

/-- R50. -/
def zoneSettingsOf (p : List Byte) : ZoneSettings :=
  ⟨u16At p 0, u16At p 2, u16At p 4, u16At p 6, u16At p 8, u16At p 10, u16At p 12⟩

/-- R81. DESIGN CHOICE (log 12): the compensation period is a number of ms in two bytes. -/
def weighFieldsOf (p : List Byte) : WeighFields :=
  ⟨u16At p 0, u16At p 2, byteAt p 4, u16At p 5, byteAt p 7, u16At p 8, byteAt p 10, u16At p 11⟩

/-- R82. -/
def calibrationFieldsOf (p : List Byte) : CalibrationFields :=
  ⟨u16At p 0, i16At p 2, i8At p 4, u16At p 5, u16At p 7⟩

/-- R105. -/
def liftSettingsOf (p : List Byte) : LiftSettings :=
  ⟨u16At p 0, u16At p 2, u16At p 4, u16At p 6, u16At p 8, u16At p 10, u16At p 12, u16At p 14⟩

/-- R120: the three enables, then the values of the three fields. -/
def targetFieldsOf (p : List Byte) : TargetFields :=
  ⟨byteAt p 0, byteAt p 1, byteAt p 2, u32At p 3, u16At p 7, byteAt p 9, u16At p 10⟩

/-- R143. -/
def enableFieldsOf (p : List Byte) : EnableFields :=
  ⟨byteAt p 0, byteAt p 1, byteAt p 2, byteAt p 3, byteAt p 4⟩

/-- R165. -/
def sectionSettingsAt (p : List Byte) (i : Nat) : SectionSettings :=
  ⟨u16At p i, u16At p (i + 2), byteAt p (i + 4), u16At p (i + 5), u16At p (i + 7)⟩

/-- R188, after the mask. -/
def profileFieldsAt (p : List Byte) (i : Nat) : ProfileFields where
  mBase := u16At p i
  tilt := u16At p (i + 2)
  fallback := byteAt p (i + 4)
  payload := u32At p (i + 5)
  caps := ⟨u16At p (i + 9), u16At p (i + 11), u16At p (i + 13), u16At p (i + 15), u16At p (i + 17),
    u16At p (i + 19)⟩

/-- The six demands of a LEVER record (R203). -/
def demandsAt (p : List Byte) : List Int :=
  [i16At p 0, i16At p 2, i16At p 4, i16At p 6, i16At p 8, i16At p 10]

/-- The bytes of a payload as numbers. -/
def bytesAt (p : List Byte) : List Nat := p.map BitVec.toNat

/-! ## Kinds -/

/-- A request kind: the payload lengths that suit it, and the request a payload carries. -/
structure RequestForm where
  suits : Nat → Bool
  read : List Byte → Instr

/-- A kind whose payload has one length. -/
def fixedForm (length : Nat) (read : List Byte → Instr) : RequestForm := ⟨fun n => n == length, read⟩

/-- A kind that carries no data. -/
def emptyForm (i : Instr) : RequestForm := fixedForm 0 fun _ => i

/-- The request kinds of R202 by KIND byte. -/
def requestForm : Nat → Option RequestForm
  | 0x01 => some (fixedForm 13 fun p =>
      .setChannel (byteAt p 0) (channelSettingsAt (signedValue (byteAt p 0)) p 1))
  | 0x02 => some (fixedForm 1 fun p => .readChannel (byteAt p 0))
  | 0x03 => some (fixedForm 3 fun p => .setLine (byteAt p 0) (byteAt p 1) (byteAt p 2))
  | 0x04 => some (fixedForm 2 fun p => .writeLines (byteAt p 0) (byteAt p 1))
  | 0x05 => some (emptyForm .readLines)
  | 0x08 => some (fixedForm 2 fun p => .setTipLink (byteAt p 0) (byteAt p 1))
  | 0x09 => some (emptyForm .linkRestart)
  | 0x0A => some (emptyForm .readTipLink)
  | 0x0B => some (emptyForm .reportTipErrors)
  | 0x10 => some (fixedForm 8 fun p => .setGeometry (geometrySettingsOf p))
  | 0x11 => some (fixedForm 14 fun p => .setZones (zoneSettingsOf p))
  | 0x12 => some (emptyForm .readGeometry)
  | 0x18 => some (fixedForm 13 fun p => .setWeigh (weighFieldsOf p))
  | 0x19 => some (fixedForm 9 fun p => .setCalibration (calibrationFieldsOf p))
  | 0x1A => some (emptyForm .readWeigh)
  | 0x1B => some (emptyForm .calZero)
  | 0x1C => some (fixedForm 2 fun p => .calSpan (u16At p 0))
  | 0x1D => some (emptyForm .calCylEmpty)
  | 0x1E => some (fixedForm 2 fun p => .calCylLoad (u16At p 0))
  | 0x1F => some (emptyForm .calAbort)
  | 0x20 => some (fixedForm 16 fun p => .setLift (liftSettingsOf p))
  | 0x21 => some (emptyForm .readLift)
  | 0x28 => some (fixedForm 1 fun p => .selectAssortment (byteAt p 0))
  | 0x29 => some ⟨Nat.inRange 1 9, fun p => .defineAssortment (byteAt p 0) (p.drop 1)⟩
  | 0x2A => some (emptyForm .holdTally)
  | 0x2B => some (emptyForm .releaseTally)
  | 0x2C => some (fixedForm 12 fun p => .setTarget (targetFieldsOf p))
  | 0x2D => some (emptyForm .closeLoad)
  | 0x2E => some (emptyForm .readLoad)
  | 0x2F => some (fixedForm 1 fun p => .readAssortment (byteAt p 0))
  | 0x30 => some (fixedForm 2 fun p => .readLoadHistory (byteAt p 0) (byteAt p 1))
  | 0x38 => some (fixedForm 4 fun p => .setClock (BitVec.ofNat 32 (u32At p 0)))
  | 0x39 => some (emptyForm .readClock)
  | 0x3A => some (emptyForm .mark)
  | 0x3B => some (fixedForm 5 fun p => .setLog (enableFieldsOf p))
  | 0x3C => some (fixedForm 1 fun p => .readLog (byteAt p 0))
  | 0x3D => some (emptyForm .readLogStatus)
  | 0x40 => some (fixedForm 5 fun p => .setLimiter ⟨byteAt p 0, u16At p 1, u16At p 3⟩)
  | 0x41 => some (fixedForm 2 fun p => .setHorn ⟨byteAt p 0, byteAt p 1⟩)
  | 0x42 => some (emptyForm .readLimiter)
  | 0x48 => some (fixedForm 12 fun p => .lever (demandsAt p))
  | 0x49 => some (fixedForm 10 fun p => .setSection (byteAt p 0) (sectionSettingsAt p 1))
  | 0x4A => some (fixedForm 1 fun p => .readSection (byteAt p 0))
  | 0x50 => some (emptyForm .saveSettings)
  | 0x51 => some (fixedForm 23 fun p => .profileSet (u16At p 0) (profileFieldsAt p 2))
  | 0x52 => some (emptyForm .profileRestore)
  | 0x53 => some (emptyForm .profileFreeze)
  | 0x54 => some (emptyForm .profileIdentify)
  | 0x55 => some (emptyForm .identify)
  | 0x56 => some (emptyForm .readStore)
  | 0x58 => some (fixedForm 4 fun p => .clearConditions (BitVec.ofNat 32 (u32At p 0)))
  | 0x59 => some (emptyForm .readConditions)
  | 0x5A => some (fixedForm 31 fun p => .setCabLine (byteAt p 0) (bytesAt (p.drop 1)))
  | 0x5B => some (emptyForm .restart)
  | _ => none

/-- What a frame's KIND and payload carry (R194). -/
inductive FrameContent where
  | badKind
  | badLength
  | request (i : Instr)
deriving DecidableEq, Repr

/-- The first two judgements of R194: the KIND, then the LENGTH. -/
def decodeRequest (kind : Byte) (payload : List Byte) : FrameContent :=
  match requestForm kind.toNat with
  | none => .badKind
  | some f => if f.suits payload.length then .request (f.read payload) else .badLength

/-! ## Payloads -/

/-- The payload bytes of channel settings (R203); two's complement serves both kinds of range. -/
def ChannelSettings.payload (t : ChannelSettings) : List Byte :=
  u16 t.rawLo ++ i16 t.valueLo ++ u16 t.rawHi ++ i16 t.valueHi ++ u16 t.bandLo ++ u16 t.bandHi

def ProfileFields.payload (f : ProfileFields) : List Byte :=
  u16 f.mBase ++ u16 f.tilt ++ u8 f.fallback ++ u32 f.payload ++ f.caps.toList.flatMap u16

/-- The KIND and payload in which the cab computer sends a request, and `none` for a command that is no
request (R202, R203). -/
def encodeRequest : Instr → Option (Byte × List Byte)
  | .setChannel c t => some (0x01, u8 c ++ ChannelSettings.payload t)
  | .readChannel c => some (0x02, u8 c)
  | .setLine l m e => some (0x03, u8 l ++ u8 m ++ u8 e)
  | .writeLines m l => some (0x04, u8 m ++ u8 l)
  | .readLines => some (0x05, [])
  | .setTipLink e r => some (0x08, u8 e ++ u8 r)
  | .linkRestart => some (0x09, [])
  | .readTipLink => some (0x0A, [])
  | .reportTipErrors => some (0x0B, [])
  | .setGeometry t => some (0x10, u16 t.l1 ++ u16 t.l2 ++ u16 t.h0 ++ u16 t.eMax)
  | .setZones t => some (0x11, u16 t.bunkFrom ++ u16 t.bunkTo ++ u16 t.bunkMin ++ u16 t.bunkMax
      ++ u16 t.cabFrom ++ u16 t.cabTo ++ u16 t.cabRadius)
  | .readGeometry => some (0x12, [])
  | .setWeigh f => some (0x18, u16 f.swing ++ u16 f.jitter ++ u8 f.windowSize ++ u16 f.spread
      ++ u8 f.minLift ++ u16 f.period ++ u8 f.autoZero ++ u16 f.tracking)
  | .setCalibration f => some (0x19, u16 f.tare ++ i16 f.kt ++ i8 f.tref ++ u16 f.areaHead
      ++ u16 f.areaRod)
  | .readWeigh => some (0x1A, [])
  | .calZero => some (0x1B, [])
  | .calSpan m => some (0x1C, u16 m)
  | .calCylEmpty => some (0x1D, [])
  | .calCylLoad m => some (0x1E, u16 m)
  | .calAbort => some (0x1F, [])
  | .setLift t => some (0x20, u16 t.gripThreshold ++ u16 t.releaseThreshold ++ u16 t.gripTime
      ++ u16 t.releaseTime ++ u16 t.liftOffThreshold ++ u16 t.dropThreshold ++ u16 t.liftOffTime
      ++ u16 t.dropTime)
  | .readLift => some (0x21, [])
  | .selectAssortment i => some (0x28, u8 i)
  | .defineAssortment i label => some (0x29, u8 i ++ label)
  | .holdTally => some (0x2A, [])
  | .releaseTally => some (0x2B, [])
  | .setTarget f => some (0x2C, u8 f.totalEnable ++ u8 f.liftsEnable ++ u8 f.assortmentEnable
      ++ u32 f.total ++ u16 f.lifts ++ u8 f.index ++ u16 f.mass)
  | .closeLoad => some (0x2D, [])
  | .readLoad => some (0x2E, [])
  | .readAssortment i => some (0x2F, u8 i)
  | .readLoadHistory p o => some (0x30, u8 p ++ u8 o)
  | .setClock t => some (0x38, u32 t.toNat)
  | .readClock => some (0x39, [])
  | .mark => some (0x3A, [])
  | .setLog f => some (0x3B, u8 f.tallied ++ u8 f.untallied ++ u8 f.dropped ++ u8 f.mark
      ++ u8 f.system)
  | .readLog n => some (0x3C, u8 n)
  | .readLogStatus => some (0x3D, [])
  | .setLimiter t => some (0x40, u8 t.kd ++ u16 t.dMin ++ u16 t.warn)
  | .setHorn t => some (0x41, u8 t.p ++ u8 t.n)
  | .readLimiter => some (0x42, [])
  | .lever d => some (0x48, d.flatMap i16)
  | .setSection v t => some (0x49, u8 v ++ u16 t.iMin ++ u16 t.iMax ++ u8 t.deadband ++ u16 t.up
      ++ u16 t.down)
  | .readSection v => some (0x4A, u8 v)
  | .saveSettings => some (0x50, [])
  | .profileSet m f => some (0x51, u16 m ++ ProfileFields.payload f)
  | .profileRestore => some (0x52, [])
  | .profileFreeze => some (0x53, [])
  | .profileIdentify => some (0x54, [])
  | .identify => some (0x55, [])
  | .readStore => some (0x56, [])
  | .clearConditions m => some (0x58, u32 m.toNat)
  | .readConditions => some (0x59, [])
  | .setCabLine p ms => some (0x5A, u8 p ++ ms.flatMap u8)
  | .restart => some (0x5B, [])
  | .powerOn _ => none
  | .restartPerformed _ => none
  | .acquisitionFrame _ _ _ => none
  | .driveUpdate _ => none
  | .coilShort _ _ => none
  | .hail => none
  | .hailReply => none
  | .probeEcho _ _ => none
  | .dataFrame _ _ _ _ _ => none
  | .damagedTipFrame => none
  | .hailTimerExpiry => none
  | .probeResend => none
  | .probeWindowExpiry => none
  | .goResend => none
  | .startWindowExpiry => none
  | .lossTimerExpiry => none
  | .backOffExpiry => none
  | .noiseIntervalExpiry => none
  | .reportTimerExpiry => none
  | .compensationUpdate => none
  | .leverTimerExpiry => none
  | .liveReportTimerExpiry => none
  | .hornPatternStep => none
  | .lampFlashStep => none
  | .byteGapExpiry => none
  | .cabFrameDiscarded => none
  | .storeWritePart => none
  | .unknownKind _ => none
  | .cabLineByteReceived _ => none
  | .frameTransmitted => none
  | .lossOfSupply => none
  | .clockMillisecond => none
  | .hornHalfPeriod => none

/-! ## Frames of the tip unit -/

/-- The command that a frame received on the tip link stands for: a frame that is not intact is damaged,
and an intact PROBE or GO from the line is discarded (R19, R27, R203). `intact` is R19's judgement. -/
def tipCommand (intact : List Byte → Bool) (bs : List Byte) : Option Instr :=
  if intact bs then
    match bs with
    | [0x48#8, _] => some .hail
    | [0x68#8, _] => some .hailReply
    | [0x70#8, r, n, _] => some (.probeEcho r n)
    | [0x44#8, q, c1, c0, a1, a0, t, x, _] => some (.dataFrame q (c1 ++ c0) (a1 ++ a0) t x)
    | _ => none
  else some .damagedTipFrame

end Sys2Proof.Machine
end

