-- ==== Sys2Proof/Machine/CabBytes.lean ====
section
/-! DEFINITION. CLP's receiver (R193): each byte through HUNT, LENGTH, BODY and CHECK, the rescan after a
discard, and the dispatch of a complete frame to the request it carries (R194). -/

namespace Sys2Proof.Machine

/-- A frame complete with a matching CRC. -/
structure CabRecord where
  kind : Byte
  payload : List Byte
deriving DecidableEq, Repr

/-- What one byte does to the receiver. -/
inductive RxResult where
  | going (r : Receiver)
  | discarded (kept : List Byte)
  | complete (frame : CabRecord)
deriving DecidableEq, Repr

/-- The LENGTH byte among the kept bytes. -/
def keptLength (kept : List Byte) : Nat := byteAt kept 1

/-- The second CRC byte: a frame that matches is complete, any other is discarded (R193). -/
def judgeCrc (kept : List Byte) : RxResult :=
  let n := keptLength kept
  if (crc16 ((kept.drop 1).take (n + 1))).toNat = u16At kept (n + 2) then
    .complete ⟨kept.getD 2 0, (kept.drop 3).take (n - 1)⟩
  else .discarded kept

/-- One byte in the state the receiver is in: the table of R193. -/
def Receiver.take (r : Receiver) (b : Byte) : RxResult :=
  let kept := r.kept ++ [b]
  match r.state with
  | .hunt => if b = 0xA5 then .going ⟨.length, [b], some 0⟩ else .going .idle
  | .length =>
    if Nat.inRange 1 64 b.toNat then .going ⟨.body, kept, some 0⟩ else .discarded kept
  | .body =>
    if kept.length < keptLength kept + 2 then .going ⟨.body, kept, some 0⟩
    else .going ⟨.check, kept, some 0⟩
  | .check =>
    if kept.length < keptLength kept + 4 then .going ⟨.check, kept, some 0⟩ else judgeCrc kept

/-- Bytes taken one after another. After a discard the bytes that follow the discarded frame's SYNC are
taken afresh from HUNT (R193). `fuel` is a bound on the bytes taken. -/
def Receiver.feed : Nat → Receiver → List Byte → Receiver × List CabRecord
  | 0, r, _ => (r, [])
  | _ + 1, r, [] => (r, [])
  | fuel + 1, r, b :: bs =>
    match r.take b with
    | .going r' => Receiver.feed fuel r' bs
    | .discarded kept => Receiver.feed fuel .idle (kept.drop 1 ++ bs)
    | .complete f =>
      let rest := Receiver.feed fuel .idle bs
      (rest.1, f :: rest.2)

/-- Enough for every rescan of n bytes: each rescan takes fewer bytes than the one before. -/
def feedFuel (n : Nat) : Nat := (n + 1) * (n + 1)

/-- The receiver after a byte, and the frames it completes. A byte more than 5 ms after the byte before it
is taken in HUNT (R193). -/
def Receiver.receive (r : Receiver) (b : Byte) : Receiver × List CabRecord :=
  if 5 < r.sinceByte.getD 0 then Receiver.feed 1 .idle [b]
  else Receiver.feed (feedFuel (r.kept.length + 1)) r [b]

/-- The receiver after bytes it had kept were taken afresh: no byte has been received, so the time of the last
byte stands while anything is kept (R193, log 25). -/
def Receiver.sinceLast (r : Receiver) (since : Option Nat) : Receiver :=
  { r with sinceByte := if r.kept.isEmpty then none else since }

/-- A stop-bit error (R193). More than 5 ms after the last byte, the gap has discarded the frame in progress
and all its kept bytes. Otherwise the frame is discarded and rescanned, without the byte, which is no byte
received (log 25). -/
def Receiver.stopError (r : Receiver) : Receiver × List CabRecord :=
  if 5 < r.sinceByte.getD 0 then (.idle, [])
  else
    let rescan := Receiver.feed (feedFuel r.kept.length) .idle (r.kept.drop 1)
    (rescan.1.sinceLast r.sinceByte, rescan.2)

/-! ## Dispatch -/

/-- The state that an outcome leaves; a command that stops leaves the state before it. -/
def outcomeState (s : State) : Host.Outcome State Fault Refusal → State
  | .next t => t
  | .fault _ => s
  | .refused _ => s

/-- The meaning of a request, by its owner (R194). A command that is no request has none here. -/
def requestMeaning (i : Instr) (s : State) : Host.Outcome State Fault Refusal :=
  match i with
  | .setChannel c t => execSetChannel c t s
  | .readChannel c => execReadChannel c s
  | .setLine l m e => execSetLine l m e s
  | .writeLines m l => execWriteLines m l s
  | .readLines => execReadLines s
  | .setTipLink e r => execSetTipLink e r s
  | .linkRestart => execLinkRestart s
  | .readTipLink => execReadTipLink s
  | .reportTipErrors => execReportTipErrors s
  | .setGeometry t => execSetGeometry t s
  | .setZones t => execSetZones t s
  | .readGeometry => execReadGeometry s
  | .setWeigh f => execSetWeigh f s
  | .setCalibration f => execSetCalibration f s
  | .readWeigh => execReadWeigh s
  | .calZero => execCalZero s
  | .calSpan m => execCalSpan m s
  | .calCylEmpty => execCalCylEmpty s
  | .calCylLoad m => execCalCylLoad m s
  | .calAbort => execCalAbort s
  | .setLift t => execSetLift t s
  | .readLift => execReadLift s
  | .selectAssortment i => execSelectAssortment i s
  | .defineAssortment i l => execDefineAssortment i l s
  | .holdTally => execHoldTally s
  | .releaseTally => execReleaseTally s
  | .setTarget f => execSetTarget f s
  | .closeLoad => execCloseLoad s
  | .readLoad => execReadLoad s
  | .readAssortment i => execReadAssortment i s
  | .readLoadHistory p o => execReadLoadHistory p o s
  | .setClock t => execSetClock t s
  | .readClock => execReadClock s
  | .mark => execMark s
  | .setLog f => execSetLog f s
  | .readLog n => execReadLog n s
  | .readLogStatus => execReadLogStatus s
  | .setLimiter t => execSetLimiter t s
  | .setHorn t => execSetHorn t s
  | .readLimiter => execReadLimiter s
  | .lever d => execLever d s
  | .setSection v t => execSetSection v t s
  | .readSection v => execReadSection v s
  | .saveSettings => execSaveSettings s
  | .profileSet m f => execProfileSet m f s
  | .profileRestore => execProfileRestore s
  | .profileFreeze => execProfileFreeze s
  | .profileIdentify => execProfileIdentify s
  | .identify => execIdentify s
  | .readStore => execReadStore s
  | .clearConditions m => execClearConditions m s
  | .readConditions => execReadConditions s
  | .setCabLine p ms => execSetCabLine p ms s
  | .restart => execRestart s
  | .powerOn _ => .next s
  | .restartPerformed _ => .next s
  | .acquisitionFrame _ _ _ => .next s
  | .driveUpdate _ => .next s
  | .coilShort _ _ => .next s
  | .hail => .next s
  | .hailReply => .next s
  | .probeEcho _ _ => .next s
  | .dataFrame _ _ _ _ _ => .next s
  | .damagedTipFrame => .next s
  | .hailTimerExpiry => .next s
  | .probeResend => .next s
  | .probeWindowExpiry => .next s
  | .goResend => .next s
  | .startWindowExpiry => .next s
  | .lossTimerExpiry => .next s
  | .backOffExpiry => .next s
  | .noiseIntervalExpiry => .next s
  | .reportTimerExpiry => .next s
  | .compensationUpdate => .next s
  | .leverTimerExpiry => .next s
  | .liveReportTimerExpiry => .next s
  | .hornPatternStep => .next s
  | .lampFlashStep => .next s
  | .byteGapExpiry => .next s
  | .cabFrameDiscarded => .next s
  | .storeWritePart => .next s
  | .unknownKind _ => .next s
  | .cabLineByteReceived _ => .next s
  | .frameTransmitted => .next s
  | .lossOfSupply => .next s
  | .clockMillisecond => .next s
  | .hornHalfPeriod => .next s

/-- A complete frame is dispatched (R194). -/
def dispatchFrame (f : CabRecord) (s : State) : State :=
  match decodeRequest f.kind f.payload with
  | .badKind => refuse f.kind .badKind s
  | .badLength => refuse f.kind .badLength s
  | .request i => outcomeState s (requestMeaning i s)

/-- The receiver's new state, and the frames it has completed dispatched in their order (R194). -/
def takeReceived (r : Receiver × List CabRecord) (s : State) : State :=
  r.2.foldl (fun s f => dispatchFrame f s) { s with clp := { s.clp with receiver := r.1 } }

/-- A byte on the cab line; until STARTED every byte is discarded (R193). -/
def receiveByte (b : Byte) (s : State) : State :=
  if s.clp.started then takeReceived (s.clp.receiver.receive b) s else s

/-- CAB_LINE_BYTE_RECEIVED (R193). -/
def execCabLineByteReceived (b : Byte) (s : State) : Host.Outcome State Fault Refusal :=
  .next (whenPowered (receiveByte b) s)

/-- The frame in progress is discarded and rescanned (R193). -/
def discardFrame (s : State) : State :=
  if s.clp.started then takeReceived s.clp.receiver.stopError s else s

/-- CAB_FRAME_DISCARDED (R193). -/
def execCabFrameDiscarded (s : State) : Host.Outcome State Fault Refusal :=
  .next (whenPowered discardFrame s)

end Sys2Proof.Machine
end

