-- ==== Sys2Proof/Machine/Dispatch.lean ====
section
/-! DEFINITION. The dispatch: each command goes to its meaning. -/

namespace Sys2Proof.Machine

/-- A command's effect on everything but the queue of commands. -/
def exec (i : Instr) (s : State) : Host.Outcome State Fault Refusal :=
  match i with
  | .powerOn samples => Sys2Proof.Machine.execPowerOn samples s
  | .restart => Sys2Proof.Machine.execRestart s
  | .restartPerformed samples => Sys2Proof.Machine.execRestartPerformed samples s
  | .acquisitionFrame codes levels order => Sys2Proof.Machine.execAcquisitionFrame codes levels order s
  | .driveUpdate samples => Sys2Proof.Machine.execDriveUpdate samples s
  | .coilShort valve coil => Sys2Proof.Machine.execCoilShort valve coil s
  | .hail => Sys2Proof.Machine.execHail s
  | .hailReply => Sys2Proof.Machine.execHailReply s
  | .probeEcho rate number => Sys2Proof.Machine.execProbeEcho rate number s
  | .dataFrame sequence force swing temperature status => Sys2Proof.Machine.execDataFrame sequence force swing temperature status s
  | .damagedTipFrame => Sys2Proof.Machine.execDamagedTipFrame s
  | .hailTimerExpiry => Sys2Proof.Machine.execHailTimerExpiry s
  | .probeResend => Sys2Proof.Machine.execProbeResend s
  | .probeWindowExpiry => Sys2Proof.Machine.execProbeWindowExpiry s
  | .goResend => Sys2Proof.Machine.execGoResend s
  | .startWindowExpiry => Sys2Proof.Machine.execStartWindowExpiry s
  | .lossTimerExpiry => Sys2Proof.Machine.execLossTimerExpiry s
  | .backOffExpiry => Sys2Proof.Machine.execBackOffExpiry s
  | .noiseIntervalExpiry => Sys2Proof.Machine.execNoiseIntervalExpiry s
  | .reportTimerExpiry => Sys2Proof.Machine.execReportTimerExpiry s
  | .compensationUpdate => Sys2Proof.Machine.execCompensationUpdate s
  | .leverTimerExpiry => Sys2Proof.Machine.execLeverTimerExpiry s
  | .liveReportTimerExpiry => Sys2Proof.Machine.execLiveReportTimerExpiry s
  | .hornPatternStep => Sys2Proof.Machine.execHornPatternStep s
  | .lampFlashStep => Sys2Proof.Machine.execLampFlashStep s
  | .byteGapExpiry => Sys2Proof.Machine.execByteGapExpiry s
  | .cabFrameDiscarded => Sys2Proof.Machine.execCabFrameDiscarded s
  | .storeWritePart => Sys2Proof.Machine.execStoreWritePart s
  | .unknownKind kind => Sys2Proof.Machine.execUnknownKind kind s
  | .setChannel index settings => Sys2Proof.Machine.execSetChannel index settings s
  | .readChannel index => Sys2Proof.Machine.execReadChannel index s
  | .setLine line mode edge => Sys2Proof.Machine.execSetLine line mode edge s
  | .writeLines mask levels => Sys2Proof.Machine.execWriteLines mask levels s
  | .readLines => Sys2Proof.Machine.execReadLines s
  | .setTipLink errorMode stuckRule => Sys2Proof.Machine.execSetTipLink errorMode stuckRule s
  | .linkRestart => Sys2Proof.Machine.execLinkRestart s
  | .readTipLink => Sys2Proof.Machine.execReadTipLink s
  | .reportTipErrors => Sys2Proof.Machine.execReportTipErrors s
  | .setGeometry settings => Sys2Proof.Machine.execSetGeometry settings s
  | .setZones settings => Sys2Proof.Machine.execSetZones settings s
  | .readGeometry => Sys2Proof.Machine.execReadGeometry s
  | .setWeigh fields => Sys2Proof.Machine.execSetWeigh fields s
  | .setCalibration fields => Sys2Proof.Machine.execSetCalibration fields s
  | .readWeigh => Sys2Proof.Machine.execReadWeigh s
  | .calZero => Sys2Proof.Machine.execCalZero s
  | .calSpan mass => Sys2Proof.Machine.execCalSpan mass s
  | .calCylEmpty => Sys2Proof.Machine.execCalCylEmpty s
  | .calCylLoad mass => Sys2Proof.Machine.execCalCylLoad mass s
  | .calAbort => Sys2Proof.Machine.execCalAbort s
  | .setLift settings => Sys2Proof.Machine.execSetLift settings s
  | .readLift => Sys2Proof.Machine.execReadLift s
  | .selectAssortment index => Sys2Proof.Machine.execSelectAssortment index s
  | .defineAssortment index label => Sys2Proof.Machine.execDefineAssortment index label s
  | .holdTally => Sys2Proof.Machine.execHoldTally s
  | .releaseTally => Sys2Proof.Machine.execReleaseTally s
  | .setTarget fields => Sys2Proof.Machine.execSetTarget fields s
  | .closeLoad => Sys2Proof.Machine.execCloseLoad s
  | .readLoad => Sys2Proof.Machine.execReadLoad s
  | .readAssortment index => Sys2Proof.Machine.execReadAssortment index s
  | .readLoadHistory position offset => Sys2Proof.Machine.execReadLoadHistory position offset s
  | .setClock seconds => Sys2Proof.Machine.execSetClock seconds s
  | .readClock => Sys2Proof.Machine.execReadClock s
  | .mark => Sys2Proof.Machine.execMark s
  | .setLog enables => Sys2Proof.Machine.execSetLog enables s
  | .readLog count => Sys2Proof.Machine.execReadLog count s
  | .readLogStatus => Sys2Proof.Machine.execReadLogStatus s
  | .setLimiter settings => Sys2Proof.Machine.execSetLimiter settings s
  | .setHorn settings => Sys2Proof.Machine.execSetHorn settings s
  | .readLimiter => Sys2Proof.Machine.execReadLimiter s
  | .lever demands => Sys2Proof.Machine.execLever demands s
  | .setSection valve settings => Sys2Proof.Machine.execSetSection valve settings s
  | .readSection valve => Sys2Proof.Machine.execReadSection valve s
  | .saveSettings => Sys2Proof.Machine.execSaveSettings s
  | .profileSet mask fields => Sys2Proof.Machine.execProfileSet mask fields s
  | .profileRestore => Sys2Proof.Machine.execProfileRestore s
  | .profileFreeze => Sys2Proof.Machine.execProfileFreeze s
  | .profileIdentify => Sys2Proof.Machine.execProfileIdentify s
  | .identify => Sys2Proof.Machine.execIdentify s
  | .readStore => Sys2Proof.Machine.execReadStore s
  | .clearConditions mask => Sys2Proof.Machine.execClearConditions mask s
  | .readConditions => Sys2Proof.Machine.execReadConditions s
  | .setCabLine period modes => Sys2Proof.Machine.execSetCabLine period modes s
  | .cabLineByteReceived byte => Sys2Proof.Machine.execCabLineByteReceived byte s
  | .frameTransmitted => Sys2Proof.Machine.execFrameTransmitted s
  | .lossOfSupply => Sys2Proof.Machine.execLossOfSupply s
  | .clockMillisecond => Sys2Proof.Machine.execClockMillisecond s
  | .hornHalfPeriod => Sys2Proof.Machine.execHornHalfPeriod s

end Sys2Proof.Machine
end

