-- ==== Sys2Proof/WellFormed.lean ====
section
/-! DEFINITION. Well-formed commands: the operands that the lines, the coil driver and the frames of R203
can bring. The meanings are total and judge ill-formed operands too; the encoding of a request is exact
for the well-formed ones. -/

namespace Sys2Proof

/-- A number of one byte. -/
def fits8 (n : Nat) : Bool := n < 256

/-- A number of two bytes. -/
def fits16 (n : Nat) : Bool := n < 65536

/-- A number of four bytes. -/
def fits32 (n : Nat) : Bool := n < 4294967296

/-- A signed number of one byte. -/
def fitsI8 (x : Int) : Bool := Int.inRange (-128) 127 x

/-- A signed number of two bytes. -/
def fitsI16 (x : Int) : Bool := Int.inRange (-32768) 32767 x

/-- A two-byte number of a signed or an unsigned range. -/
def fitsNum16 (signed : Bool) (x : Int) : Bool :=
  if signed then fitsI16 x else Int.inRange 0 65535 x

/-- Measured currents lie in 0..3,000 mA (R164). -/
def CoilSamples.wellFormed (m : CoilSamples) : Bool :=
  m.toList.all fun p => p.a ≤ 3000 && p.b ≤ 3000

def ChannelSettings.wellFormed (signed : Bool) (t : ChannelSettings) : Bool :=
  fits16 t.rawLo && fitsNum16 signed t.valueLo && fits16 t.rawHi && fitsNum16 signed t.valueHi
    && fits16 t.bandLo && fits16 t.bandHi

def GeometrySettings.wellFormed (t : GeometrySettings) : Bool :=
  fits16 t.l1 && fits16 t.l2 && fits16 t.h0 && fits16 t.eMax

def ZoneSettings.wellFormed (t : ZoneSettings) : Bool :=
  fits16 t.bunkFrom && fits16 t.bunkTo && fits16 t.bunkMin && fits16 t.bunkMax && fits16 t.cabFrom
    && fits16 t.cabTo && fits16 t.cabRadius

def WeighFields.wellFormed (f : WeighFields) : Bool :=
  fits16 f.swing && fits16 f.jitter && fits8 f.windowSize && fits16 f.spread && fits8 f.minLift
    && fits16 f.period && fits8 f.autoZero && fits16 f.tracking

def CalibrationFields.wellFormed (f : CalibrationFields) : Bool :=
  fits16 f.tare && fitsI16 f.kt && fitsI8 f.tref && fits16 f.areaHead && fits16 f.areaRod

def LiftSettings.wellFormed (t : LiftSettings) : Bool :=
  fits16 t.gripThreshold && fits16 t.releaseThreshold && fits16 t.gripTime && fits16 t.releaseTime
    && fits16 t.liftOffThreshold && fits16 t.dropThreshold && fits16 t.liftOffTime
    && fits16 t.dropTime

def TargetFields.wellFormed (f : TargetFields) : Bool :=
  fits8 f.totalEnable && fits8 f.liftsEnable && fits8 f.assortmentEnable && fits32 f.total
    && fits16 f.lifts && fits8 f.index && fits16 f.mass

def EnableFields.wellFormed (f : EnableFields) : Bool :=
  fits8 f.tallied && fits8 f.untallied && fits8 f.dropped && fits8 f.mark && fits8 f.system

def LimiterSettings.wellFormed (t : LimiterSettings) : Bool :=
  fits8 t.kd && fits16 t.dMin && fits16 t.warn

def HornSettings.wellFormed (t : HornSettings) : Bool := fits8 t.p && fits8 t.n

def SectionSettings.wellFormed (t : SectionSettings) : Bool :=
  fits16 t.iMin && fits16 t.iMax && fits8 t.deadband && fits16 t.up && fits16 t.down

def ProfileFields.wellFormed (f : ProfileFields) : Bool :=
  fits16 f.mBase && fits16 f.tilt && fits8 f.fallback && fits32 f.payload
    && f.caps.toList.all fits16

/-- The operands of a command fit the line that brings it; a request has a length that suits its kind. -/
def Instr.wellFormed : Instr → Bool
  | .powerOn m => m.wellFormed
  | .restart => true
  | .restartPerformed m => m.wellFormed
  | .acquisitionFrame _ _ _ => true
  | .driveUpdate m => m.wellFormed
  | .coilShort _ _ => true
  | .hail => true
  | .hailReply => true
  | .probeEcho _ _ => true
  | .dataFrame _ _ _ _ _ => true
  | .damagedTipFrame => true
  | .hailTimerExpiry => true
  | .probeResend => true
  | .probeWindowExpiry => true
  | .goResend => true
  | .startWindowExpiry => true
  | .lossTimerExpiry => true
  | .backOffExpiry => true
  | .noiseIntervalExpiry => true
  | .reportTimerExpiry => true
  | .compensationUpdate => true
  | .leverTimerExpiry => true
  | .liveReportTimerExpiry => true
  | .hornPatternStep => true
  | .lampFlashStep => true
  | .byteGapExpiry => true
  | .cabFrameDiscarded => true
  | .storeWritePart => true
  | .unknownKind k => (Machine.requestForm k.toNat).isNone
  | .setChannel c t => fits8 c && t.wellFormed (Machine.signedValue c)
  | .readChannel c => fits8 c
  | .setLine l m e => fits8 l && fits8 m && fits8 e
  | .writeLines m l => fits8 m && fits8 l
  | .readLines => true
  | .setTipLink e r => fits8 e && fits8 r
  | .linkRestart => true
  | .readTipLink => true
  | .reportTipErrors => true
  | .setGeometry t => t.wellFormed
  | .setZones t => t.wellFormed
  | .readGeometry => true
  | .setWeigh f => f.wellFormed
  | .setCalibration f => f.wellFormed
  | .readWeigh => true
  | .calZero => true
  | .calSpan m => fits16 m
  | .calCylEmpty => true
  | .calCylLoad m => fits16 m
  | .calAbort => true
  | .setLift t => t.wellFormed
  | .readLift => true
  | .selectAssortment i => fits8 i
  | .defineAssortment i label => fits8 i && label.length ≤ 8
  | .holdTally => true
  | .releaseTally => true
  | .setTarget f => f.wellFormed
  | .closeLoad => true
  | .readLoad => true
  | .readAssortment i => fits8 i
  | .readLoadHistory p o => fits8 p && fits8 o
  | .setClock _ => true
  | .readClock => true
  | .mark => true
  | .setLog f => f.wellFormed
  | .readLog n => fits8 n
  | .readLogStatus => true
  | .setLimiter t => t.wellFormed
  | .setHorn t => t.wellFormed
  | .readLimiter => true
  | .lever d => d.length == 6 && d.all fitsI16
  | .setSection v t => fits8 v && t.wellFormed
  | .readSection v => fits8 v
  | .saveSettings => true
  | .profileSet m f => fits16 m && f.wellFormed
  | .profileRestore => true
  | .profileFreeze => true
  | .profileIdentify => true
  | .identify => true
  | .readStore => true
  | .clearConditions _ => true
  | .readConditions => true
  | .setCabLine p ms => fits8 p && ms.length == 30 && ms.all fits8
  | .cabLineByteReceived _ => true
  | .frameTransmitted => true
  | .lossOfSupply => true
  | .clockMillisecond => true
  | .hornHalfPeriod => true

end Sys2Proof
end

