-- ==== Sys2Proof/Safety.lean ====
section
/-! DEFINITION. What a safe state is, in the terms the statements use: what each block promises of its own
state, how CLP's condition table follows its owners, and when a request is served. -/

namespace Sys2Proof.Machine

/-! ## Requests served -/

/-- CLP dispatches, and a reply of n parts fits in its queue (R191, R195, R200). -/
def State.serves (s : State) (n : Nat) : Prop :=
  s.dispatching = true ∧ s.clp.queue.length + n ≤ 64

/-- The state with the parts of a reply at the end of the queue. -/
def State.replied (s : State) (kind : Byte) (x : Status) (data : List Byte) : State :=
  { s with clp := s.clp.enqueue (replyFrames kind x data) }

/-- A request that is refused with a status: one reply part without data, and nothing else (R194). -/
def refusedWith (i : Instr) (kind : Byte) (x : Status) (s : State) : Prop :=
  exec i s = .next (s.replied kind x [])

/-- The bytes of the cab line received one after another. -/
def receiveAll : List Byte → State → Host.Outcome State Fault Refusal
  | [], s => .next s
  | b :: bs, s =>
    match exec (.cabLineByteReceived b) s with
    | .next t => receiveAll bs t
    | .fault r => .fault r
    | .refused r => .refused r

/-- q is n / d rounded: to the nearest integer, halves away from zero (R1). -/
def isRounded (n d q : Int) : Prop :=
  2 * (n - q * d).natAbs ≤ d.natAbs
    ∧ (2 * (n - q * d).natAbs = d.natAbs → n.natAbs < (q * d).natAbs)

/-- x brought to lo..hi (R1). -/
def isClamped (lo hi x y : Int) : Prop :=
  (x < lo → y = lo) ∧ (hi < x → y = hi) ∧ (lo ≤ x → x ≤ hi → y = x)

/-! ## What each block promises of its own state -/

/-- A set live state has its latch set (R196): bit i of each mask is condition i. -/
def Clp.covered (c : Clp) : Prop := ∀ i : Nat, c.live.getLsbD i = true → c.latched.getLsbD i = true

/-- The queue holds up to 64 frames, and the lost-notice count runs 0..255 (R195). -/
def Clp.bounded (c : Clp) : Prop := c.queue.length ≤ 64 ∧ c.lost ≤ 255

/-- The ring holds at most 128 entries, and their sequence numbers run up to the next one (R139). -/
def Log.numbered (l : Log) : Prop :=
  l.ring.length ≤ 128
    ∧ ∀ (i : Nat) (h : i < l.ring.length),
      l.ring[i].sequence + BitVec.ofNat 32 (l.ring.length - i) = l.nextSequence

/-- No assortment passes 60,000 kg and no count 65,535; the history holds at most 8 summaries, and the next
load number is 1..65,535 (R111, R112, R116, R125). -/
def Tal.bounded (t : Tal) : Prop :=
  (∀ l, t.load = some l →
    (∀ i : Fin 16, l.figures[i].mass ≤ 60000 ∧ l.figures[i].lifts ≤ 65535
      ∧ l.figures[i].unweighed ≤ 65535)
    ∧ l.loadedLifts ≤ 65535 ∧ l.unloadedLifts ≤ 65535)
  ∧ t.history.length ≤ 8 ∧ 1 ≤ t.nextNumber ∧ t.nextNumber ≤ 65535

/-- Entry 0 is "UNSORTED", every label is 0..8 printable characters, and the selected assortment names a
defined entry (R108, R109). -/
def Tal.labelled (t : Tal) : Prop :=
  t.labels[0] = Label.unsorted ∧ (∀ i : Fin 16, Label.accepted t.labels[i] = true)
    ∧ t.defined t.selected = true

/-- The lift context holds each field exactly in the states R85 names, and a start stamp only where its
qualification runs (R89). -/
def Ltr.consistent (l : Ltr) : Prop :=
  (l.gripTime.isSome ↔ l.state ≠ .idle)
    ∧ (l.liftOffTime.isSome ↔ l.state.inLift = true) ∧ (l.fromZone.isSome ↔ l.state.inLift = true)
    ∧ (l.source.isSome ↔ l.state.inLift = true) ∧ (l.result.isSome ↔ l.state = .weighed)
    ∧ l.assortment = none ∧ l.toZone = none ∧ l.outcome = none ∧ l.effect = none
    ∧ (l.gripStart.isSome → l.state = .idle) ∧ (l.releaseStart.isSome → l.state ≠ .idle)
    ∧ (l.liftOffStart.isSome → l.state = .gripped) ∧ (l.dropStart.isSome → l.state.inLift = true)

/-- WEN keeps a lift source and a lift window exactly while a lift is in progress (R66, R70). -/
def State.liftWindowed (s : State) : Prop :=
  (s.wen.liftSource.isSome ↔ s.ltr.state.inLift = true)
    ∧ (s.wen.liftWindow.isSome ↔ s.ltr.state.inLift = true)

/-- The current source is the one R65 judges on its inputs, and without a source there is no live estimate
(R65, R67). -/
def State.sourced (s : State) : Prop :=
  s.wen.source = judgedSource s
    ∧ (s.wen.source = .none → s.wen.history = [] ∧ s.wen.liveEstimate = none)

/-- A capture in flight has fewer than 32 values, and the conditions that end it do not hold: a zero or an
empty capture needs IDLE, a span or a load capture needs a closed grapple, and a tip capture needs a readable
tip link (R74 to R79). -/
def State.capturing (s : State) : Prop :=
  ∀ c, s.wen.capture = some c →
    c.count < 32
      ∧ (c.kind = .zero ∨ c.kind = .cylEmpty → s.ltr.state = .idle)
      ∧ (c.kind = .span ∨ c.kind = .cylLoad → s.ltr.state ≠ .idle)
      ∧ (c.kind = .zero ∨ c.kind = .span → tipReadable s = true)
      ∧ (c.kind = .cylEmpty ∨ c.kind = .cylLoad → c.band.isSome)

/-- The zero-tracking offset stays within the tracking limit (R73). -/
def Wen.tracked (w : Wen) : Prop := w.zeroOffset.natAbs ≤ w.settings.tracking

/-- A valve section keeps what VDR promises of it: a latched section has target 0 (R168), target and output
lie in ±1,000 (R164), the two coils are never driven together (R172, R173), and a DISABLED section drives
nothing (R176). -/
def SectionState.safe (x : SectionState) : Prop :=
  (x.latch = true → x.target = 0)
    ∧ x.target.natAbs ≤ 1000 ∧ x.output.natAbs ≤ 1000
    ∧ (x.setpoint.a = 0 ∨ x.setpoint.b = 0) ∧ (x.duty.a = 0 ∨ x.duty.b = 0)
    ∧ (x.driven.a = 0 ∨ x.driven.b = 0)
    ∧ x.openCount.a ≤ 10 ∧ x.openCount.b ≤ 10
    ∧ (x.isDisabled = true →
      x.composed = 0 ∧ x.output = 0 ∧ x.setpoint = ⟨0, 0⟩ ∧ x.duty = ⟨0, 0⟩ ∧ x.driven = ⟨0, 0⟩
        ∧ x.openCount = ⟨0, 0⟩)

/-- Every section is safe, and every factor held lies in 0..1,000 (R156, R164). -/
def Vdr.safe (d : Vdr) : Prop :=
  ∀ v : Section, (d.sections.get v).safe
    ∧ (d.factors.get v).positive ≤ 1000 ∧ (d.factors.get v).negative ≤ 1000

/-- In HOLD, the factors of the three moment-increasing directions that VDR holds are 0: BOOM lowering, JIB
opening, TELE extending (R153, R156). -/
def State.withholds (s : State) : Prop :=
  s.mlm.stage = .hold →
    s.vdr.factors.boom.negative = 0 ∧ s.vdr.factors.jib.positive = 0
      ∧ s.vdr.factors.tele.positive = 0

/-- Each link timer runs exactly in its own state, the rate index lies in 0..3, and a sequence reference is
held in UP alone (R20, R21, R28). -/
def Tlc.orderly (t : Tlc) : Prop :=
  (t.hailTimer.isSome ↔ t.link = .hailing) ∧ (t.probeWindow.isSome ↔ t.link = .probing)
    ∧ (t.startWindow.isSome ↔ t.link = .starting) ∧ (t.lossTimer.isSome ↔ t.link = .up)
    ∧ (t.backOff.isSome ↔ t.link = .failed)
    ∧ t.rate ≤ 3 ∧ (t.sequenceRef.isSome → t.link = .up)

/-! ## The condition table follows its owners -/

/-- TIP_DOWN and TIP_FAILED follow the link state (R20). -/
def State.tipConditions (s : State) : Prop :=
  (s.clp.isLive .tipDown = true ↔ s.tlc.link ≠ .up)
    ∧ (s.clp.isLive .tipFailed = true ↔ s.tlc.link = .failed)

/-- LIMIT_HOLD is live exactly in HOLD (R151). -/
def State.holdCondition (s : State) : Prop :=
  s.clp.isLive .limitHold = true ↔ s.mlm.stage = .hold

/-- PAYLOAD is live exactly while the total is at least the rated payload (R122). -/
def State.payloadCondition (s : State) : Prop :=
  s.clp.isLive .payload = true ↔ s.sto.working.payload ≤ s.tal.total

/-- NO_CAL is live exactly while the tip calibration is not valid (R58). -/
def State.noCalCondition (s : State) : Prop :=
  s.clp.isLive .noCal = true ↔ s.wen.calibration.tipValid = false

/-- COIL_FAULT of a section is live exactly while it is DISABLED (R176). -/
def State.coilConditions (s : State) : Prop :=
  ∀ v : Section, s.clp.isLive (.coilFault v) = true ↔ (s.vdr.sections.get v).isDisabled = true

/-- LEVER_STALE is live exactly while the lever timer does not run (R167). -/
def State.leverCondition (s : State) : Prop :=
  s.clp.isLive .leverStale = true ↔ s.vdr.leverTimer = none

/-! ## Frames and lifts -/

/-- A frame of force count c leaves TIP_STUCK not live: c differs from the stuck reference, or TIP_STUCK is not
live and c does not bring the stuck count to the threshold (R32). -/
def State.unstuckBy (s : State) (c : BitVec 16) : Prop :=
  (∃ n, s.tlc.stuckRef = some n ∧ n ≠ c.toNat)
    ∨ (s.clp.isLive .tipStuck = false ∧ (s.tlc.stuckRef = some c.toNat →
      s.tlc.stuckCount + 1 < if s.tlc.settings.stuckRule = .strict then 24 else 120))

/-- The outcome of a released lift: EMPTY for an empty result, and otherwise R101's table. -/
def placed (empty : Bool) (lifted released : Zone) (o : LiftOutcome) : Prop :=
  (empty = true → o = .empty)
    ∧ (empty = false →
      (lifted = .ground → released = .ground → o = .moved)
      ∧ (lifted = .ground → released = .bunk → o = .loaded)
      ∧ (lifted = .bunk → released = .ground → o = .unloaded)
      ∧ (lifted = .bunk → released = .bunk → o = .restacked)
      ∧ (lifted = .cab ∨ lifted = .unknown ∨ released = .cab ∨ released = .unknown → o = .unplaced))

/-- A weigh window after one more value x (R70). -/
def Window.grown (w : Window) (x : Int) : Window where
  source := w.source
  size := w.size
  count := w.count + 1
  sum := w.sum + x
  low := some ((w.low.map fun n => min x n).getD x)
  high := some ((w.high.map fun n => max x n).getD x)

/-- The net value and mass of a window mean: less T and z for the tip, and the rounded tenth clamped to
−2,000..30,000 (R71). -/
def State.weighs (s : State) (source : Source) (mean net mass : Int) : Prop :=
  (net = if source = .tip then mean - s.wen.calibration.tare - s.wen.zeroOffset else mean)
    ∧ ∃ m, isRounded net 10 m ∧ isClamped (-2000) 30000 m mass

/-- The mass of a lift without a sufficient window: the rounded tenth of the live estimate v brought to
0..30,000, or 0 without one (R100). -/
def unweighedMass (v : Option Int) (mass : Int) : Prop :=
  (v = none → mass = 0) ∧ ∀ x, v = some x → ∃ m, isRounded x 10 m ∧ isClamped 0 30000 m mass

/-- The mass, quality and empty mark that a release or drop in LIFTED fixes from a window w that is not complete
and the live estimate v (R99, R100): PARTIAL from 8 accepted values on, ESTIMATE on the cylinder, and
UNWEIGHED below 8. -/
def State.fixesPartial (s : State) (w : Window) (v : Option Int) (mass : Int) (q : Quality)
    (empty : Bool) : Prop :=
  (8 ≤ w.count → ∃ mean net, isRounded w.sum w.count mean ∧ s.weighs w.source mean net mass
      ∧ (q = if w.source = .cylinder then .estimate else .partialWindow)
      ∧ empty = decide (mass < s.wen.settings.minLift))
    ∧ (w.count < 8 → unweighedMass v mass ∧ q = .unweighed ∧ empty = false)

/-! ## What POWER-ON brings into force -/

/-- Every block holds the settings of a record, the section currents brought within the working caps (R165,
R183). -/
def State.settledOn (t : State) (r : SettingsRecord) : Prop :=
  (∀ c, (t.iau.channels.get c).settings = r.channels.get c)
    ∧ (∀ l, (t.iau.lines.get l).settings = r.lines.get l)
    ∧ t.tlc.settings = r.tip ∧ t.geo.geometry = r.geometry ∧ t.geo.zones = r.zones
    ∧ t.wen.settings = r.weigh ∧ t.ltr.settings = r.lift ∧ t.tal.labels = r.labels
    ∧ t.tal.target = r.target ∧ t.log.enables = r.enables ∧ t.mlm.limiter = r.limiter
    ∧ t.mlm.horn = r.horn ∧ t.clp.settings = r.cab
    ∧ ∀ v, (t.vdr.sections.get v).settings = { r.sections.get v with
      iMax := min (r.sections.get v).iMax (t.sto.working.caps.get v)
      iMin := min (r.sections.get v).iMin
        (min (r.sections.get v).iMax (t.sto.working.caps.get v)) }

/-! ## What an evaluation leaves -/

/-- The two SLEW factors and the row of R155's table, from the zone settings z of the latest frame. A slew angle
in both approaches is reported under the row before φ_c1 (log 14). -/
def Mlm.sectored (m : Mlm) (z : ZoneSettings) (position : Option Position) : Prop :=
  (position = none → m.factors.slew = ⟨0, 0⟩ ∧ m.slewCase = .absent)
    ∧ ∀ p, position = some p →
      let slew : Int := p.slew
      let d1 := (slew - z.cabFrom) % 3600
      let d2 := (z.cabTo - slew) % 3600
      let sector := (z.cabFrom ≤ z.cabTo ∧ z.cabFrom ≤ p.slew ∧ p.slew ≤ z.cabTo)
        ∨ (z.cabTo < z.cabFrom ∧ (z.cabFrom ≤ p.slew ∨ p.slew ≤ z.cabTo))
      let before := ∃ k : Int, 1 ≤ k ∧ k ≤ 30 ∧ (slew + k - z.cabFrom) % 3600 = 0
      let after := ∃ k : Int, 1 ≤ k ∧ k ≤ 30 ∧ (slew - k - z.cabTo) % 3600 = 0
      (z.cabRadius ≤ p.reach → m.factors.slew = ⟨1000, 1000⟩ ∧ m.slewCase = .outside)
      ∧ (p.reach < z.cabRadius → sector →
        m.slewCase = .inSector
        ∧ (d1 ≤ d2 → m.factors.slew = ⟨0, 1000⟩) ∧ (d2 < d1 → m.factors.slew = ⟨1000, 0⟩))
      ∧ (p.reach < z.cabRadius → ¬sector →
        (before → m.factors.slew.positive = 0 ∧ m.slewCase = .before)
        ∧ (¬before → m.factors.slew.positive = 1000)
        ∧ (after → m.factors.slew.negative = 0) ∧ (¬after → m.factors.slew.negative = 1000)
        ∧ (¬before → after → m.slewCase = .after) ∧ (¬before → ¬after → m.slewCase = .clear))

/-- The figures MLM holds are those of R147 to R150 on the state's own inputs: the net value by the lift state,
the moment rounded from the exact product, the permit floored, and the utilisation floored up to 65,535. -/
def State.figured (t : State) : Prop :=
  let f := t.mlm.figures
  (t.ltr.state = .weighed → ∀ q, t.ltr.result = some q → f.net = q.net ∧ f.basis = .result)
    ∧ (∀ x, t.ltr.state ≠ .weighed → t.wen.liveEstimate = some x → f.net = x ∧ f.basis = .live)
    ∧ (t.wen.liveEstimate = none → t.ltr.state = .idle ∨ t.ltr.state = .gripped →
      f.net = 0 ∧ f.basis = .none)
    ∧ (t.wen.liveEstimate = none → t.ltr.state = .lifted →
      f.net = t.ltr.settings.liftOffThreshold ∧ f.basis = .threshold)
    ∧ f.tare = t.wen.calibration.tare
    ∧ (∀ p, t.geo.position = some p → f.reach = p.reach ∧ f.longest = false)
    ∧ (t.geo.position = none → f.reach = t.geo.geometry.l1 + t.geo.geometry.l2 + t.geo.geometry.eMax
      ∧ f.longest = true)
    ∧ isRounded ((max f.net 0 + f.tare) * f.reach) 10000 f.moment
    ∧ f.tau = t.geo.tau ∧ f.tilt = t.geo.tilt
    ∧ (t.geo.tau = none → f.derate = t.mlm.limiter.dMin)
    ∧ (∀ x, t.geo.tau = some x →
      (f.derate : Int) = max (t.mlm.limiter.dMin : Int) ((10000 - t.mlm.limiter.kd * max x 0) / 10))
    ∧ f.mBase = t.sto.working.mBase ∧ f.permitted = f.mBase * f.derate / 1000
    ∧ (f.permitted = 0 → f.utilisation = if 0 < f.moment then 1000 else 0)
    ∧ (f.permitted ≠ 0 → f.utilisation = min 65535 (1000 * f.moment / f.permitted))
    ∧ (f.tiltPass = true ↔ ∃ x, t.geo.tilt = some x ∧ x < t.sto.working.tilt)

/-- The stage, the degraded mark, the factors and the horn pattern MLM holds are those of R151 to R157 on its own
figures and the state's inputs, from the stage b before; VDR holds the twelve factors. -/
def State.limited (b : Stage) (t : State) : Prop :=
  let u := t.mlm.figures.utilisation
  let w := t.mlm.limiter.warn
  let holds := 1000 ≤ u ∨ t.mlm.figures.tiltPass = false
  let capped := if t.mlm.degraded then min t.mlm.momentFactor 300 else t.mlm.momentFactor
  (b ≠ .hold → holds → t.mlm.stage = .hold)
    ∧ (b = .free → ¬holds → t.mlm.stage = if w ≤ u then .derate else .free)
    ∧ (b = .derate → ¬holds → t.mlm.stage = if u + 30 ≤ w then .free else .derate)
    ∧ (b = .hold → t.mlm.stage = if u ≤ 970 ∧ t.mlm.figures.tiltPass = true then .derate else .hold)
    ∧ (t.mlm.stage = .free → t.mlm.momentFactor = 1000)
    ∧ (t.mlm.stage = .hold → t.mlm.momentFactor = 0)
    ∧ (t.mlm.stage = .derate →
      isClamped 0 1000 ((1000 - (u : Int)) * 1000 / (1000 - w)) t.mlm.momentFactor)
    ∧ (t.mlm.degraded = true ↔ t.wen.source = .none ∨ t.geo.valid = false)
    ∧ t.mlm.sectored t.geo.zonesUsed t.geo.position
    ∧ t.mlm.factors = ⟨t.mlm.factors.slew, ⟨1000, capped⟩, ⟨capped, 1000⟩, ⟨capped, 1000⟩, ⟨1000, 1000⟩,
      ⟨1000, 1000⟩⟩
    ∧ t.vdr.factors = t.mlm.factors
    ∧ (t.clp.isLive .limitHold = true ↔ t.mlm.stage = .hold)
    ∧ (t.mlm.stage = .hold → t.mlm.pattern = .continuous)
    ∧ (t.mlm.stage = .derate → t.mlm.pattern = .derate)
    ∧ (t.mlm.stage = .free → t.mlm.pattern = if t.tlc.link = .failed then .link else .silent)
    ∧ (t.mlm.stage = .free → t.mlm.lampHigh = false ∧ t.mlm.flashTimer = none)
    ∧ (t.mlm.stage = .derate → t.mlm.lampHigh = true ∧ t.mlm.flashTimer = none)

end Sys2Proof.Machine
end

