-- ==== Sys2Proof/Certificates/Slice0/Obligations.lean ====
section
/-! DEFINITION. The statements for the provers, block by block. A reply to a served request is
`s.replied kind status data`: the state with that reply at the end of the queue. -/

open Sys2Proof Sys2Proof.Machine

/-! ## The machine and its queues -/

/-- For every command c and state s, a step of s with c at the front of its queue is exec of c on s with the
rest of the queue; on an empty queue the module idles, which is the model's choice (log 4). -/
def Obligations.StepPerformsTheFrontCommand : Prop :=
  (∀ (c : Instr) (s : State), step { s with pending := c :: s.pending } = exec c s)
    ∧ ∀ s : State, s.pending = [] → step s = .next s

/-- Every command is performed in every state, and none touches the commands that wait: no command faults or
is refused (log 1). Without supply the module does nothing but wait for POWER_ON (the model's choice, log
6). -/
def Obligations.EveryCommandCompletes : Prop :=
  (∀ (c : Instr) (s : State), ∃ t, exec c s = .next t ∧ t.pending = s.pending)
  ∧ (∀ (c : Instr) (s : State), s.powered = false → (∀ m, c ≠ .powerOn m) → exec c s = .next s)

/-- A request that CLP does not dispatch (before STARTED, or between a RESTART and its performance) does
nothing. Each other request has one reply of its KIND, of a status and data that do not depend on the frames
waiting: when its parts would take the queue past 64 frames (every frame in the queue waits, the one being
sent among them: the model's reading, log 18), the request is discarded unperformed and unanswered, and
adds 1 to the lost-notice count up to 255; when they fit, they join the queue together, and whatever the
request causes comes behind them (the model's choice, log 11). A LEVER record of six demands has no reply and needs no room. -/
def Obligations.RequestsWithoutRoomAreLost : Prop :=
  ∀ (i : Instr) (s : State) (k : Byte) (p : List Byte), encodeRequest i = some (k, p) →
    (s.dispatching = false → exec i s = .next s)
      ∧ (s.dispatching = true → (∀ d, i = .lever d → d.length ≠ 6) →
        ∃ (x : Status) (data : List Byte), ∀ q : List TxFrame,
          let u : State := { s with clp := { s.clp with queue := q } }
          let parts := replyFrames k x data
          (64 < q.length + parts.length →
            exec i u = .next { u with clp := { u.clp with lost := min 255 (u.clp.lost + 1) } })
          ∧ (q.length + parts.length ≤ 64 →
            ∃ t rest, exec i u = .next t ∧ t.clp.queue = q ++ parts ++ rest))

/-- A reply's parts carry its data in order: every part has the request's KIND and the status, the parts are
numbered from 0, only the last is marked last, each carries at most 60 bytes and all but the last exactly
60, and together they carry the data. -/
def Obligations.ReplyPartsCarryTheData : Prop :=
  ∀ (k : Byte) (x : Status) (data : List Byte),
    ∃ parts : List (List Byte), parts ≠ [] ∧ parts.flatten = data
      ∧ (∀ b ∈ parts.dropLast, b.length = 60) ∧ (∀ b ∈ parts, b.length ≤ 60)
      ∧ (2 ≤ parts.length → parts.getLast? ≠ some [])
      ∧ replyFrames k x data
        = parts.mapIdx fun n b => TxFrame.reply k x n (n + 1 == parts.length) b

/-- For every well-formed request, the KIND and payload that carry it are read back as that request. The order
and width of the fields of some records are the model's reading of R203 (log 26). -/
def Obligations.EncodedRequestsDecode : Prop :=
  ∀ (i : Instr) (k : Byte) (p : List Byte), i.wellFormed = true → encodeRequest i = some (k, p) →
    decodeRequest k p = .request i

/-- The bytes of a request's frame, received one after another with the receiver at rest, perform exactly that
request and leave the receiver at rest; a frame of a KIND that names no request performs UNKNOWN_KIND, and
one of a KIND whose lengths its payload does not suit is answered BAD_LENGTH. UNKNOWN_KIND is answered
BAD_KIND under its own KIND byte, and nothing else happens. That the byte which completes a frame performs its
request in the same command is the model's choice (log 23). -/
def Obligations.ReceivedFramesPerformTheirRequests : Prop :=
  (∀ s : State, s.powered = true → s.clp.started = true → s.clp.receiver = .idle →
     (∀ (i : Instr) (k : Byte) (p : List Byte), i.wellFormed = true → encodeRequest i = some (k, p) →
       receiveAll (cabFrame k p) s = exec i s)
     ∧ (∀ (k : Byte) (p : List Byte), p.length ≤ 63 → requestForm k.toNat = none →
       receiveAll (cabFrame k p) s = exec (.unknownKind k) s)
     ∧ ∀ (k : Byte) (p : List Byte) (f : RequestForm), p.length ≤ 63 → requestForm k.toNat = some f →
       f.suits p.length = false → s.serves 1 →
       receiveAll (cabFrame k p) s = .next (s.replied k .badLength []))
  ∧ (∀ (k : Byte) (s : State), s.serves 1 → refusedWith (.unknownKind k) k .badKind s)

/-- A byte that comes more than 5 ms after the one before it is taken in HUNT; the gap itself and a stop-bit
error in HUNT leave the receiver in HUNT with nothing kept, and so does a stop-bit error more than 5 ms after
the last byte; a byte other than SYNC is discarded in HUNT. A frame is discarded by a stop-bit error within
5 ms, by a LENGTH of 0 or 65..255, and by a CRC that does not match: the bytes kept after its SYNC are then
taken again from HUNT as though they came afresh, the byte with the stop-bit error not among them, and the
LENGTH byte or the second CRC byte last among them (log 24). A stop-bit error leaves the time of the last
byte as it was (log 25). Until STARTED every byte is discarded. -/
def Obligations.ReceiverHuntsAndRescans : Prop :=
  (∀ s : State, s.powered = true →
     exec .byteGapExpiry s = .next { s with clp := { s.clp with receiver := .idle } }
     ∧ (s.clp.started = true →
       s.clp.receiver.kept = [] ∨ (∃ n, s.clp.receiver.sinceByte = some n ∧ 5 < n) →
       exec .cabFrameDiscarded s = .next { s with clp := { s.clp with receiver := .idle } })
     ∧ ∀ b : Byte, s.clp.started = true →
       ((∃ n, s.clp.receiver.sinceByte = some n ∧ 5 < n) ∨ s.clp.receiver.state = .hunt) →
       exec (.cabLineByteReceived b) s
         = .next { s with clp := { s.clp with
             receiver := if b = 0xA5 then ⟨.length, [0xA5], some 0⟩ else .idle } })
  ∧ (∀ s : State, s.powered = true →
       (s.clp.started = true → (∀ n, s.clp.receiver.sinceByte = some n → n ≤ 5) →
         ∀ sync kept, s.clp.receiver.kept = sync :: kept →
         let hunting : State := { s with clp := { s.clp with receiver := .idle } }
         (∃ t, receiveAll kept hunting = .next t
           ∧ exec .cabFrameDiscarded s = .next { t with clp := { t.clp with receiver := { t.clp.receiver with
               sinceByte := if t.clp.receiver.kept = [] then none else s.clp.receiver.sinceByte } } })
         ∧ (∀ b : Byte, s.clp.receiver.state = .length → b = 0 ∨ 64 < b.toNat →
           exec (.cabLineByteReceived b) s = receiveAll (kept ++ [b]) hunting)
         ∧ ∀ (n h b : Byte) (body : List Byte), s.clp.receiver.state = .check → body.length = n.toNat →
           kept = n :: body ++ [h] → (crc16 (n :: body)).toNat ≠ h.toNat * 256 + b.toNat →
           exec (.cabLineByteReceived b) s = receiveAll (kept ++ [b]) hunting)
       ∧ (s.clp.started = false → ∀ b, exec (.cabLineByteReceived b) s = .next s))

/-- FRAME_TRANSMITTED takes the oldest frame off the queue; on an empty queue it does nothing, and
LIVE_REPORT_TIMER_EXPIRY does nothing when no live report timer runs (both the model's reading, log 31). An
expiry acts whatever time its timer has left (the model's choice, log 7). A LIVE notice takes the place of a
LIVE notice that still waits; with no LIVE waiting and fewer than 32 frames it joins the end, and with 32 or
more it is discarded and counted. Any other notice joins the end behind fewer than 32 frames, and behind 32
or more is discarded and adds 1 to the lost-notice count, up to 255. Every frame in the queue waits, the one
being sent among them, so that a LIVE at its head is replaced as well (the model's reading, log 18). The
LIVE notice carries what its owners hold at the instant of the expiry: the live estimate and the current
source, the lift state, the debounced zone, the reach where geometry is valid, τ, the utilisation and the
stage of the latest evaluation, the selected assortment, and the load total as the sum of the sixteen masses
or 0. Its 19 bytes behind the KIND byte are those of R203's layout, an absent figure sent as zero bytes (the
model's choice, log 12). -/
def Obligations.QueueIsFirstInFirstOut : Prop :=
  (∀ s : State, s.powered = true →
    (∀ f rest, s.clp.queue = f :: rest →
      exec .frameTransmitted s = .next { s with clp := { s.clp with queue := rest } })
    ∧ (s.clp.queue = [] → exec .frameTransmitted s = .next s)
    ∧ (s.clp.liveTimer.isSome = true →
      let report : LiveReport :=
        { liveEstimate := s.wen.liveEstimate
          source := s.wen.source
          liftState := s.ltr.state
          zone := s.geo.zone
          reach := if s.geo.valid = true then s.geo.position.map Position.reach else none
          tau := s.geo.tau
          utilisation := s.mlm.figures.utilisation
          stage := s.mlm.stage
          selected := s.tal.selected
          total := match s.tal.load with
            | none => 0
            | some l => (l.figures.toList.map Figures.mass).sum }
      ∃ t, exec .liveReportTimerExpiry s = .next t
        ∧ t = { s with clp := { s.clp with
            liveTimer := s.clp.settings.period.timer, queue := t.clp.queue, lost := t.clp.lost } }
        ∧ (∀ a r b, s.clp.queue = a ++ .notice (.live r) :: b → a.all (fun f => !f.isLive) = true →
          b.all (fun f => !f.isLive) = true →
          t.clp.queue = a ++ .notice (.live report) :: b ∧ t.clp.lost = s.clp.lost)
        ∧ (s.clp.queue.all (fun f => !f.isLive) = true → s.clp.queue.length < 32 →
          t.clp.queue = s.clp.queue ++ [.notice (.live report)] ∧ t.clp.lost = s.clp.lost)
        ∧ (s.clp.queue.all (fun f => !f.isLive) = true → 32 ≤ s.clp.queue.length →
          t.clp.queue = s.clp.queue ∧ t.clp.lost = min 255 (s.clp.lost + 1)))
    ∧ (s.clp.liveTimer = none → exec .liveReportTimerExpiry s = .next s))
  ∧ (∀ (c : Clp) (n : Notice), (∀ r, n ≠ .live r) →
      (c.queue.length < 32 → c.send n = { c with queue := c.queue ++ [.notice n] })
      ∧ (32 ≤ c.queue.length → c.send n = { c with lost := min 255 (c.lost + 1) }))
  ∧ ∀ r : LiveReport,
      (TxFrame.notice (.live r)).kind = 0xC9 ∧ (TxFrame.notice (.live r)).payload.length = 19
      ∧ (TxFrame.notice (.live r)).payload
        = u8 ((if r.liveEstimate.isSome then 1 else 0) + (if r.reach.isSome then 2 else 0)
            + if r.tau.isSome then 4 else 0)
          ++ i32 (r.liveEstimate.getD 0)
          ++ u8 (match r.source with | .none => 0 | .tip => 1 | .cylinder => 2)
          ++ u8 (match r.liftState with | .idle => 0 | .gripped => 1 | .lifted => 2 | .weighed => 3)
          ++ u8 (match r.zone with | .cab => 0 | .bunk => 1 | .ground => 2 | .unknown => 3)
          ++ u16 (r.reach.getD 0) ++ i16 (r.tau.getD 0) ++ u16 r.utilisation
          ++ u8 (match r.stage with | .free => 0 | .derate => 1 | .hold => 2)
          ++ u8 r.selected.val ++ u24 r.total

/-- Each frame of the tip unit that the manual lets through stands for its command, a PROBE or GO from the
line, which R27 discards, stands for none (the model's choice, log 33), and bytes that are not intact stand
for DAMAGED_TIP_FRAME. Every frame as sent is intact, and one changed byte makes it not intact. -/
def Obligations.TipFramesStandForTheirCommands : Prop :=
  tipCommand tipIntact TipFrame.hail.bytes = some .hail
    ∧ tipCommand tipIntact TipFrame.hailReply.bytes = some .hailReply
    ∧ (∀ r n, tipCommand tipIntact (TipFrame.probeEcho r n).bytes = some (.probeEcho r n))
    ∧ (∀ q c a t x, tipCommand tipIntact (TipFrame.data q c a t x).bytes = some (.dataFrame q c a t x))
    ∧ (∀ r n, tipCommand tipIntact (TipFrame.probe r n).bytes = none)
    ∧ (∀ r, tipCommand tipIntact (TipFrame.go r).bytes = none)
    ∧ (∀ bs, tipIntact bs = false → tipCommand tipIntact bs = some .damagedTipFrame)
    ∧ ∀ (f : TipFrame) (a b : List Byte) (x y : Byte), f.bytes = a ++ x :: b → x ≠ y →
      tipIntact (a ++ y :: b) = false

/-! ## Inputs and geometry -/

/-- At an acquisition frame each channel is judged on its own code: in the band it is GOOD with that code as
its last good code and delivers the code's scaled value; out of the band it is HELD on the scaled value of
its last good code, or NONE when it was NONE; its SENSOR_FAULT is live exactly when the code is out of the
band. The frame leaves the settings, the tip link, the store, the clock and the valve sections alone. -/
def Obligations.FrameJudgesChannels : Prop :=
  ∀ (codes : PerChannel RawCode) (levels : PerLine Level) (order : FrameOrder) (s : State),
    s.powered = true →
    ∃ t, exec (.acquisitionFrame codes levels order) s = .next t
      ∧ t.tlc = s.tlc ∧ t.sto = s.sto ∧ t.log.clock = s.log.clock ∧ t.vdr.sections = s.vdr.sections
      ∧ ∀ c : Channel,
        let o := s.iau.channels.get c
        let n := t.iau.channels.get c
        let r := codes.get c
        n.settings = o.settings ∧ n.raw = some r
          ∧ (o.settings.bandLo ≤ r.val → r.val ≤ o.settings.bandHi →
            n.status = .good ∧ n.lastGood = some r ∧ n.value = some (scaledValue c o.settings r)
              ∧ t.clp.isLive (.sensorFault c) = false)
          ∧ (r.val < o.settings.bandLo ∨ o.settings.bandHi < r.val →
            t.clp.isLive (.sensorFault c) = true
              ∧ (o.status = .none → n.status = .none ∧ n.lastGood = none ∧ n.value = none)
              ∧ ∀ g, o.status ≠ .none → o.lastGood = some g →
                n.status = .held ∧ n.lastGood = some g
                  ∧ n.value = some (scaledValue c o.settings g))

/-- The value that a frame delivers is the scaled value of the last good code, which is the frame's own code
when that lies in the band: value_lo plus the quotient of the exact product, rounded with halves away from
zero, then reduced modulo 3,600 for SLEW and clamped to the channel's range for any other channel. -/
def Obligations.ScaledValueFollowsTheScale : Prop :=
  ∀ (codes : PerChannel RawCode) (levels : PerLine Level) (order : FrameOrder) (s : State)
    (c : Channel),
    let o := (s.iau.channels.get c).settings
    s.powered = true → o.rawHi ≠ o.rawLo →
    ∃ t : State, exec (.acquisitionFrame codes levels order) s = .next t
      ∧ (o.bandLo ≤ (codes.get c).val → (codes.get c).val ≤ o.bandHi →
        (t.iau.channels.get c).lastGood = some (codes.get c) ∧ (t.iau.channels.get c).value.isSome)
      ∧ ∀ x : Int, (t.iau.channels.get c).value = some x →
        ∃ (r : RawCode) (q : Int), (t.iau.channels.get c).lastGood = some r
          ∧ isRounded (((r.val : Int) - o.rawLo) * (o.valueHi - o.valueLo)) ((o.rawHi : Int) - o.rawLo) q
          ∧ (c = .slew → 0 ≤ x ∧ x ≤ 3599 ∧ ∃ k : Int, o.valueLo + q = x + 3600 * k)
          ∧ (c ≠ .slew → isClamped c.range.1 c.range.2 (o.valueLo + q) x)

/-- At an acquisition frame each line in an input-class mode is debounced by the four cases of R13, each
line of the output class has no debounced level and no candidate, and TAL holds DL2's switch state: closed
exactly when DL2 is in FUNCTION mode with a debounced level of low. A debounced change that the edge setting
selects sends a LINE_EDGE notice from a plain input, while the queue has room; on DL3 in FUNCTION mode it is
a mark, and the entry LOG appends for it is a snapshot of the frame's geometry and of the lift state as they
then stand (here for a mark taken after the other tasks: the order of a frame's tasks is an operand, log 8).
A stamp is the clock as the command finds it (the model's reading, log 36). -/
def Obligations.FrameDebouncesLines : Prop :=
  (∀ (codes : PerChannel RawCode) (levels : PerLine Level) (order : FrameOrder) (s : State),
     s.powered = true →
     ∃ t, exec (.acquisitionFrame codes levels order) s = .next t
       ∧ (t.tal.switchClosed = true ↔
         t.iau.lines.dl2.settings.mode = .function ∧ t.iau.lines.dl2.debounced = some .low)
       ∧ ∀ l : Line,
         let o := s.iau.lines.get l
         let n := t.iau.lines.get l
         let x := levels.get l
         n.settings = o.settings ∧ n.written = o.written ∧ n.sampled = some x
           ∧ (outputClass l o.settings.mode = true → n.debounced = none ∧ n.candidate = none)
           ∧ (outputClass l o.settings.mode = false →
             (o.debounced = none → n.debounced = some x ∧ n.candidate = none)
             ∧ (o.debounced = some x → n.debounced = some x ∧ n.candidate = none)
             ∧ ∀ d, o.debounced = some d → d ≠ x →
               ((∀ c, o.candidate = some c → c.level ≠ x) →
                 n.debounced = some d ∧ n.candidate = some ⟨x, s.log.clock⟩)
               ∧ ∀ c, o.candidate = some c → c.level = x →
                 (20 ≤ s.log.clock.since c.since → n.debounced = some x ∧ n.candidate = none)
                 ∧ (s.log.clock.since c.since < 20 → n.debounced = some d ∧ n.candidate = some c)))
  ∧ (∀ (codes : PerChannel RawCode) (levels : PerLine Level) (order : FrameOrder) (s : State) (l : Line)
       (d : Level) (c : LineCandidate),
       let o := s.iau.lines.get l
       s.powered = true → outputClass l o.settings.mode = false → o.debounced = some d →
       d ≠ levels.get l → o.candidate = some c → c.level = levels.get l →
       20 ≤ s.log.clock.since c.since → o.settings.edge.selects (levels.get l) = true →
       ∃ t, exec (.acquisitionFrame codes levels order) s = .next t
         ∧ (o.settings.mode = .input ∨ o.settings.mode = .inputPullup → s.clp.queue.length ≤ 16 →
           .notice (.lineEdge l (levels.get l) s.log.clock) ∈ t.clp.queue)
         ∧ (l = .dl3 → o.settings.mode = .function → s.log.enables.mark = true → order.markAt = 2 →
           ∃ e p, t.log.ring.getLast? = some e ∧ e.time = s.log.clock ∧ e.part = .mark p
             ∧ e.sequence + 1 = t.log.nextSequence ∧ p.zone = t.geo.zone ∧ p.liftState = t.ltr.state
             ∧ p.liveEstimate = t.wen.liveEstimate
             ∧ p.reachSlew = if t.geo.valid then t.geo.position.map (fun x => (x.reach, x.slew)) else none))

/-- SET CHANNEL is taken whole or not at all: with an index of R9 and six settings in their ranges the six are
replaced and nothing else changes, so that the delivered result stands; with an index past 8, equal raw
codes, a band that is not a band or a setting out of its range it is refused BAD_VALUE. SET LINE sets the
mode and edge at once (an edge of FALLING, RISING or BOTH carried as 0, 1 or 2: the model's choice, log 12): the
debounced level and candidate are kept between input-class modes and are absent otherwise, and TAL is handed
DL2's new switch state. What each line drives follows from its mode at every instant: its written level in
OUTPUT, the horn's signal on DL0 and the lamp's on DL1 in FUNCTION, and nothing in the input-class modes, DL2
and DL3 in FUNCTION among them, nor without supply. The pull-up is on in INPUT_PULLUP and for DL2 and DL3 in
FUNCTION alone; that it is off in the output-class modes is the model's choice, and drive and pull-up are
functions of State (log 35). WRITE LINES sets the written levels of the lines its
mask names (bit i for DLi, a set level bit for high: the model's choice, log 26). Values past their sets are refused BAD_VALUE. SET GEOMETRY, SET ZONES and SET LIFT replace
their settings whole when every one lies in its range and the constraints hold, and nothing else: results
of the latest frame, the zone debounce and running start stamps stand. Otherwise they are refused
BAD_VALUE. -/
def Obligations.SettingsAreTakenWhole : Prop :=
  (∀ (c : Channel) (x : ChannelSettings) (s : State), s.serves 1 →
     (x.rawLo ≤ 4095 → x.rawHi ≤ 4095 → x.rawHi ≠ x.rawLo →
       c.settingRange.1 ≤ x.valueLo → x.valueLo ≤ c.settingRange.2 →
       c.settingRange.1 ≤ x.valueHi → x.valueHi ≤ c.settingRange.2 →
       x.bandLo ≤ 4094 → x.bandLo < x.bandHi → x.bandHi ≤ 4095 →
       exec (.setChannel c.code x) s
         = .next { s.replied 0x01 .ok [] with
             iau := { s.iau with
               channels := s.iau.channels.set c { s.iau.channels.get c with settings := x } } })
     ∧ (x.rawHi = x.rawLo ∨ x.bandHi ≤ x.bandLo ∨ 4095 < x.rawLo ∨ 4095 < x.rawHi ∨ 4095 < x.bandHi
         ∨ x.valueLo < c.settingRange.1 ∨ c.settingRange.2 < x.valueLo
         ∨ x.valueHi < c.settingRange.1 ∨ c.settingRange.2 < x.valueHi →
       refusedWith (.setChannel c.code x) 0x01 .badValue s)
     ∧ ∀ n, 9 ≤ n → refusedWith (.setChannel n x) 0x01 .badValue s)
  ∧ (∀ s : State, s.serves 1 →
       (∀ (l : Line) (m : LineMode) (e : Edge),
         let o := s.iau.lines.get l
         let keep := !outputClass l o.settings.mode && !outputClass l m
         let lines := s.iau.lines.set l
           { o with
             settings := ⟨m, e⟩
             debounced := if keep then o.debounced else none
             candidate := if keep then o.candidate else none }
         exec (.setLine l.code m.code e.code) s
           = .next { s.replied 0x03 .ok [] with
               iau := { s.iau with lines := lines }
               tal := { s.tal with
                 switchClosed := lines.dl2.settings.mode == .function && lines.dl2.debounced == some .low } })
       ∧ (∀ n m e, 4 ≤ n ∨ 4 ≤ m ∨ 3 ≤ e → refusedWith (.setLine n m e) 0x03 .badValue s)
       ∧ (∀ mask levels, mask < 16 → levels < 16 →
         ∃ t, exec (.writeLines mask levels) s = .next t
           ∧ t = { s.replied 0x04 .ok [] with iau := { s.iau with lines := t.iau.lines } }
           ∧ ∀ l : Line, t.iau.lines.get l
             = { s.iau.lines.get l with
                 written := if mask.testBit l.code then (if levels.testBit l.code then .high else .low)
                   else (s.iau.lines.get l).written })
       ∧ ∀ mask levels, 16 ≤ mask ∨ 16 ≤ levels → refusedWith (.writeLines mask levels) 0x04 .badValue s)
  ∧ (∀ s : State, s.serves 1 →
       (∀ x : GeometrySettings,
         let good := 1000 ≤ x.l1 ∧ x.l1 ≤ 8000 ∧ 1000 ≤ x.l2 ∧ x.l2 ≤ 8000 ∧ x.h0 ≤ 4000 ∧ x.eMax ≤ 4000
         (good → exec (.setGeometry x) s
           = .next { s.replied 0x10 .ok [] with geo := { s.geo with geometry := x } })
         ∧ (¬good → refusedWith (.setGeometry x) 0x10 .badValue s))
       ∧ (∀ x : ZoneSettings,
         let good := x.bunkFrom ≤ 3599 ∧ x.bunkTo ≤ 3599 ∧ x.bunkMin ≤ 20000 ∧ x.bunkMax ≤ 20000
           ∧ x.bunkMin ≤ x.bunkMax ∧ x.cabFrom ≤ 3599 ∧ x.cabTo ≤ 3599 ∧ x.cabRadius ≤ 20000
         (good → exec (.setZones x) s
           = .next { s.replied 0x11 .ok [] with geo := { s.geo with zones := x } })
         ∧ (¬good → refusedWith (.setZones x) 0x11 .badValue s))
       ∧ ∀ x : LiftSettings,
         let good := 1000 ≤ x.gripThreshold ∧ x.gripThreshold ≤ 40000 ∧ x.releaseThreshold ≤ 39999
           ∧ x.releaseThreshold < x.gripThreshold ∧ 50 ≤ x.gripTime ∧ x.gripTime ≤ 1000
           ∧ 50 ≤ x.releaseTime ∧ x.releaseTime ≤ 1000 ∧ 10 ≤ x.liftOffThreshold
           ∧ x.liftOffThreshold ≤ 10000 ∧ x.dropThreshold ≤ 9999 ∧ x.dropThreshold < x.liftOffThreshold
           ∧ 100 ≤ x.liftOffTime ∧ x.liftOffTime ≤ 2000 ∧ 100 ≤ x.dropTime ∧ x.dropTime ≤ 2000
         (good → exec (.setLift x) s
           = .next { s.replied 0x20 .ok [] with ltr := { s.ltr with settings := x } })
         ∧ (¬good → refusedWith (.setLift x) 0x20 .badValue s))
  ∧ ∀ (s : State) (l : Line),
      let o := s.iau.lines.get l
      let input := o.settings.mode = .input ∨ o.settings.mode = .inputPullup
        ∨ (o.settings.mode = .function ∧ (l = .dl2 ∨ l = .dl3))
      (s.powered = true →
        (o.settings.mode = .output → lineDrive s l = some o.written)
        ∧ (l = .dl0 → o.settings.mode = .function →
          lineDrive s l = some (if s.mlm.hornHigh = true then .high else .low))
        ∧ (l = .dl1 → o.settings.mode = .function →
          lineDrive s l = some (if s.mlm.lampHigh = true then .high else .low))
        ∧ (input → lineDrive s l = none))
      ∧ (s.powered = false → lineDrive s l = none)
      ∧ (pullUp l o.settings.mode = true ↔ o.settings.mode = .inputPullup
        ∨ (o.settings.mode = .function ∧ (l = .dl2 ∨ l = .dl3)))

/-- At a frame at which the four channels deliver values, reach is the rounded quotient of the exact sum of
products with the cosines of R43, a result below 0 clamped to 0; extension, jib direction, height and slew
follow R44 and R46; reach lies in 0..20,000 over the settings' ranges. When one of the four delivers no
value, all are absent. The downhill component and the total tilt of a frame: the rounded quotient of the
exact sum of products, and the larger magnitude of pitch and roll, 0..450; the first is unknown when
PITCH, ROLL or SLEW is faulted, the second when PITCH or ROLL is. -/
def Obligations.PositionAndTiltFollowTheCrane : Prop :=
  (∀ (codes : PerChannel RawCode) (levels : PerLine Level) (order : FrameOrder) (s : State),
     s.powered = true →
     ∃ t, exec (.acquisitionFrame codes levels order) s = .next t
       ∧ (∀ f b j e, t.iau.channels.slew.value = some f → t.iau.channels.boom.value = some b →
         t.iau.channels.jib.value = some j → t.iau.channels.tele.value = some e →
         ∃ p q h, t.geo.position = some p ∧ p.direction = b + j - 1800
           ∧ -2100 ≤ p.direction ∧ p.direction ≤ 850
           ∧ isClamped 0 s.geo.geometry.eMax e p.extension
           ∧ isRounded (s.geo.geometry.l1 * cosine b
               + ((s.geo.geometry.l2 : Int) + p.extension) * cosine p.direction) 16384 q
           ∧ (p.reach : Int) = max q 0
           ∧ isRounded (s.geo.geometry.l1 * sine b
               + ((s.geo.geometry.l2 : Int) + p.extension) * sine p.direction) 16384 h
           ∧ p.height = s.geo.geometry.h0 + h ∧ p.slew = f.toNat
           ∧ (s.geo.geometry.accepted = true → p.reach ≤ 20000))
       ∧ ((t.iau.channels.slew.value = none ∨ t.iau.channels.boom.value = none
           ∨ t.iau.channels.jib.value = none ∨ t.iau.channels.tele.value = none) →
         t.geo.position = none))
  ∧ (∀ (codes : PerChannel RawCode) (levels : PerLine Level) (order : FrameOrder) (s : State),
       s.powered = true →
       ∃ t, exec (.acquisitionFrame codes levels order) s = .next t
         ∧ (∀ p r f, t.iau.channels.pitch.status = .good → t.iau.channels.pitch.value = some p →
           t.iau.channels.roll.status = .good → t.iau.channels.roll.value = some r →
           t.geo.tilt = some (max p.natAbs r.natAbs) ∧ max p.natAbs r.natAbs ≤ 450
             ∧ (t.iau.channels.slew.status = .good → t.iau.channels.slew.value = some f →
               ∃ x, t.geo.tau = some x ∧ isRounded (p * cosine f + r * sine f) 16384 x
                 ∧ (f = 0 → x = p) ∧ (f = 900 → x = r) ∧ (f = 1800 → x = -p)))
         ∧ (t.iau.channels.pitch.status ≠ .good ∨ t.iau.channels.roll.status ≠ .good →
           t.geo.tilt = none ∧ t.geo.tau = none)
         ∧ (t.iau.channels.slew.status ≠ .good → t.geo.tau = none))

/-- Geometry is valid at a frame exactly when SLEW, BOOM, JIB and TELE are GOOD, and GEOMETRY_INVALID is live
exactly when it is not. The raw zone is the first line of R51's table that applies, and the debounced zone
and its candidate follow it by the five cases of R52. -/
def Obligations.FrameDebouncesTheZone : Prop :=
  ∀ (codes : PerChannel RawCode) (levels : PerLine Level) (order : FrameOrder) (s : State),
    s.powered = true →
    ∃ t, exec (.acquisitionFrame codes levels order) s = .next t
      ∧ (t.geo.valid = true ↔ t.iau.channels.slew.status = .good ∧ t.iau.channels.boom.status = .good
        ∧ t.iau.channels.jib.status = .good ∧ t.iau.channels.tele.status = .good)
      ∧ t.clp.isLive .geometryInvalid = !t.geo.valid
      ∧ (t.geo.valid = false → t.geo.rawZone = .unknown)
      ∧ (∀ p, t.geo.valid = true → t.geo.position = some p →
        let z := s.geo.zones
        let cab := inSector z.cabFrom z.cabTo p.slew = true ∧ p.reach < z.cabRadius
        let bunk := inSector z.bunkFrom z.bunkTo p.slew = true ∧ z.bunkMin ≤ p.reach
          ∧ p.reach ≤ z.bunkMax
        (cab → t.geo.rawZone = .cab) ∧ (¬cab → bunk → t.geo.rawZone = .bunk)
          ∧ (¬cab → ¬bunk → t.geo.rawZone = .ground))
      ∧ (let z := t.geo.rawZone
        (z = .unknown → t.geo.zone = .unknown ∧ t.geo.candidate = none)
        ∧ (z ≠ .unknown → z = s.geo.zone → t.geo.zone = z ∧ t.geo.candidate = none)
        ∧ (z ≠ .unknown → z ≠ s.geo.zone → (∀ n, s.geo.candidate ≠ some ⟨z, n⟩) →
          t.geo.zone = s.geo.zone ∧ t.geo.candidate = some ⟨z, 1⟩)
        ∧ (z ≠ .unknown → z ≠ s.geo.zone → s.geo.candidate = some ⟨z, 1⟩ →
          t.geo.zone = s.geo.zone ∧ t.geo.candidate = some ⟨z, 2⟩)
        ∧ (z ≠ .unknown → z ≠ s.geo.zone → s.geo.candidate = some ⟨z, 2⟩ →
          t.geo.zone = z ∧ t.geo.candidate = none))

/-! ## Tip link -/

/-- Each cause of a fresh bring-up leaves TLC in HAILING with HAIL 1 sent, whatever the link state before:
every link timer but the hail timer cancelled, rate index 0, hail count 1, noise and stuck counts 0, both
references absent, TIP_STUCK not live; the error counter, the report value, the last sample and the settings
stand, and so do inputs, geometry, tally, log and store. A back-off expiry in a state other than FAILED does
nothing (the model's reading, log 31). An expiry acts whatever time its timer has left (the model's choice,
log 7). -/
def Obligations.FreshBringUpsBeginAgain : Prop :=
  ∀ (s : State) (i : Instr), s.powered = true →
    (i = .hail ∨ (i = .linkRestart ∧ s.serves 1) ∨ (i = .backOffExpiry ∧ s.tlc.link = .failed) →
      ∃ t, exec i s = .next t
        ∧ t.tlc = { s.tlc with
            link := .hailing, rate := 0, hailCount := 1, noiseCount := 0, sequenceRef := none
            stuckCount := 0, stuckRef := none, hailTimer := some 10, probeWindow := none
            startWindow := none, resend := none, lossTimer := none, backOff := none
            sent := some .hail }
        ∧ t.tipConditions ∧ t.clp.isLive .tipStuck = false
        ∧ t.iau = s.iau ∧ t.geo = s.geo ∧ t.tal = s.tal ∧ t.log = s.log ∧ t.sto = s.sto
        ∧ (i = .linkRestart → .reply 0x09 .ok 0 true [] ∈ t.clp.queue))
    ∧ (s.tlc.link ≠ .failed → exec .backOffExpiry s = .next s)

/-- The bring-up's exchanges: a HAIL REPLY in HAILING begins PROBING at index 0; a PROBE ECHO in PROBING
with the index under trial and a probe number 1..5 begins STARTING; an expired probe or start window begins
PROBING at the next index, or FAILED at index 3; the hail timer sends the next HAIL, and after the tenth the
link goes to FAILED; a loss begins PROBING at the same index with the noise count 0 and no sequence
reference. In any other link state each of these does nothing; that an expiry of a timer whose state does
not hold has no effect is the model's reading (log 31). An expiry acts whatever time its timer has left (the
model's choice, log 7). TIP_DOWN and TIP_FAILED follow the new state. PROBE numbers 2 to 5 follow at 10 ms
intervals in PROBING, and GO is sent again twice in STARTING; a resend past those or in another state does
nothing (the model's reading, log 31). -/
def Obligations.LinkStatesFollowTheExchanges : Prop :=
  (∀ (s : State), s.powered = true →
     let quiet : Tlc := { s.tlc with
       hailTimer := none, probeWindow := none, startWindow := none, resend := none, lossTimer := none
       backOff := none }
     let probing (i : Nat) : Tlc := { quiet with
       link := .probing, rate := i, probeWindow := some 50, probesSent := 1, resend := some 10
       sent := some (.probe (BitVec.ofNat 8 i) 1) }
     let failed : Tlc := { quiet with link := .failed, backOff := some 5000 }
     let next : Tlc := if s.tlc.rate < 3 then probing (s.tlc.rate + 1) else failed
     let moves (i : Instr) (x : Tlc) : Prop := ∃ t, exec i s = .next t ∧ t.tlc = x ∧ t.tipConditions
       ∧ t.iau = s.iau ∧ t.geo = s.geo ∧ t.tal = s.tal ∧ t.log = s.log ∧ t.sto = s.sto
       ∧ (s.tlc.link ≠ .up → t.wen = s.wen ∧ t.ltr = s.ltr ∧ t.vdr = s.vdr)
     (s.tlc.link = .hailing → moves .hailReply (probing 0)
         ∧ (10 ≤ s.tlc.hailCount → moves .hailTimerExpiry failed)
         ∧ (s.tlc.hailCount < 10 → exec .hailTimerExpiry s = .next { s with tlc := { s.tlc with
             hailCount := s.tlc.hailCount + 1, hailTimer := some 10, sent := some .hail } }))
     ∧ (s.tlc.link ≠ .hailing → exec .hailReply s = .next s ∧ exec .hailTimerExpiry s = .next s)
     ∧ (s.tlc.link = .probing → moves .probeWindowExpiry next)
     ∧ (s.tlc.link ≠ .probing → exec .probeWindowExpiry s = .next s)
     ∧ (∀ r n : Byte,
         (s.tlc.link = .probing ∧ r.toNat = s.tlc.rate ∧ 1 ≤ n.toNat ∧ n.toNat ≤ 5 →
           moves (.probeEcho r n) { quiet with
             link := .starting, startWindow := some 30, gosSent := 1, resend := some 10
             sent := some (.go (BitVec.ofNat 8 s.tlc.rate)) })
         ∧ (s.tlc.link ≠ .probing ∨ r.toNat ≠ s.tlc.rate ∨ n.toNat < 1 ∨ 5 < n.toNat →
           exec (.probeEcho r n) s = .next s))
     ∧ (s.tlc.link = .starting → moves .startWindowExpiry next)
     ∧ (s.tlc.link ≠ .starting → exec .startWindowExpiry s = .next s)
     ∧ (s.tlc.link = .up → moves .lossTimerExpiry
         { probing s.tlc.rate with noiseCount := 0, sequenceRef := none })
     ∧ (s.tlc.link ≠ .up → exec .lossTimerExpiry s = .next s))
  ∧ (∀ s : State, s.powered = true →
       (s.tlc.link = .probing → s.tlc.probesSent < 5 →
         exec .probeResend s = .next { s with tlc := { s.tlc with
           probesSent := s.tlc.probesSent + 1
           resend := if s.tlc.probesSent + 1 = 5 then none else some 10
           sent := some (.probe (BitVec.ofNat 8 s.tlc.rate) (BitVec.ofNat 8 (s.tlc.probesSent + 1))) } })
       ∧ (s.tlc.link ≠ .probing ∨ 5 ≤ s.tlc.probesSent → exec .probeResend s = .next s)
       ∧ (s.tlc.link = .starting → s.tlc.gosSent < 3 →
         exec .goResend s = .next { s with tlc := { s.tlc with
           gosSent := s.tlc.gosSent + 1
           resend := if s.tlc.gosSent + 1 = 3 then none else some 10
           sent := some (.go (BitVec.ofNat 8 s.tlc.rate)) } })
       ∧ (s.tlc.link ≠ .starting ∨ 3 ≤ s.tlc.gosSent → exec .goResend s = .next s))

/-- An intact DATA frame is accepted in STARTING, which takes the link to UP, and in UP when it is the first
or its step d from the sequence reference is 1..128, with d − 1 frames missing; its sample becomes the
last sample. Missing frames are added to the error counter and the noise count. While the noise count
stays below 25 the link is UP with the frame as the new reference and a loss timer of 40 ms; at 25 or more
the link has stepped down behind the sample. In any other state the frame does nothing. A damaged frame,
and a DATA frame that repeats or is out of order, is dropped in UP: 1 is added to the error counter and to
the noise count, and at a noise count of 25 the link steps down; TIP_ERR_OVERFLOW goes live at 65,535. A
dropped frame touches neither the reference, nor the loss timer, nor the last sample, nor WEN while the
link stays UP. A damaged frame in another state does nothing. -/
def Obligations.DataFramesAreAcceptedOrDropped : Prop :=
  (∀ (s : State) (q : Byte) (c a : BitVec 16) (g x : Byte), s.powered = true →
     let sample : TipSample :=
       ⟨c.toNat, min a.toNat 900, if -40 ≤ g.toInt ∧ g.toInt ≤ 85 then g.toInt else 127, x.getLsbD 0⟩
     let accepted (missing : Nat) : Prop := ∃ t, exec (.dataFrame q c a g x) s = .next t
       ∧ t.iau = s.iau ∧ t.geo = s.geo ∧ t.tal = s.tal ∧ t.sto = s.sto ∧ t.vdr.sections = s.vdr.sections
       ∧ t.tlc.lastSample = some (sample, q)
       ∧ t.tlc.errorCounter = (if missing = 0 then s.tlc.errorCounter
           else min 65535 (s.tlc.errorCounter + missing))
       ∧ (s.tlc.noiseCount + missing < 25 ∨ missing = 0 →
         t.tlc.link = .up ∧ t.tlc.rate = s.tlc.rate ∧ t.tlc.sequenceRef = some q
           ∧ t.tlc.lossTimer = some 40 ∧ t.tlc.stuckRef = some c.toNat
           ∧ t.tlc.noiseCount = s.tlc.noiseCount + missing ∧ t.clp.isLive .tipDown = false)
       ∧ (25 ≤ s.tlc.noiseCount + missing → missing ≠ 0 →
         t.tlc.sequenceRef = none ∧ t.tlc.noiseCount = 0 ∧ t.clp.isLive .tipDown = true
           ∧ (s.tlc.rate < 3 → t.tlc.link = .probing ∧ t.tlc.rate = s.tlc.rate + 1)
           ∧ (3 ≤ s.tlc.rate → t.tlc.link = .failed ∧ t.tlc.rate = s.tlc.rate))
       ∧ t.wen.previousCount = (if 25 ≤ s.tlc.noiseCount + missing ∧ missing ≠ 0 then none
           else some c.toNat)
       ∧ t.wen.latestTemperature = some sample.temperature
     (s.tlc.link = .starting → accepted 0)
     ∧ (s.tlc.link = .up → s.tlc.sequenceRef = none → accepted 0)
     ∧ (∀ r, s.tlc.link = .up → s.tlc.sequenceRef = some r →
       1 ≤ (q - r).toNat → (q - r).toNat ≤ 128 → accepted ((q - r).toNat - 1))
     ∧ (s.tlc.link ≠ .up → s.tlc.link ≠ .starting → exec (.dataFrame q c a g x) s = .next s))
  ∧ (∀ (s : State) (i : Instr), s.powered = true →
       ((i = .damagedTipFrame ∨ ∃ q c a g x r, i = .dataFrame q c a g x ∧ s.tlc.sequenceRef = some r
           ∧ ((q - r).toNat = 0 ∨ 129 ≤ (q - r).toNat)) → s.tlc.link = .up →
         ∃ t, exec i s = .next t
           ∧ (s.tlc.noiseCount < 24 →
             t = { s with
               tlc := { s.tlc with
                 errorCounter := min 65535 (s.tlc.errorCounter + 1)
                 noiseCount := s.tlc.noiseCount + 1 }
               clp := t.clp })
           ∧ (24 ≤ s.tlc.noiseCount →
             t.tlc.errorCounter = min 65535 (s.tlc.errorCounter + 1) ∧ t.tlc.noiseCount = 0
               ∧ t.tlc.sequenceRef = none ∧ t.tlc.lastSample = s.tlc.lastSample
               ∧ t.iau = s.iau ∧ t.geo = s.geo ∧ t.tal = s.tal ∧ t.sto = s.sto
               ∧ t.vdr.sections = s.vdr.sections
               ∧ (s.tlc.rate < 3 → t.tlc.link = .probing ∧ t.tlc.rate = s.tlc.rate + 1)
               ∧ (3 ≤ s.tlc.rate → t.tlc.link = .failed ∧ t.tlc.rate = s.tlc.rate))
           ∧ (65534 ≤ s.tlc.errorCounter → t.clp.isLive .tipErrOverflow = true))
       ∧ (s.tlc.link ≠ .up → exec .damagedTipFrame s = .next s))

/-- At an in-order frame the stuck count rises by 1, up to 65,535, when the force count equals the stuck
reference, and becomes 0 when it differs; TIP_STUCK goes live when the count reaches the threshold (24
under STRICT, 120 under LENIENT), goes non-live at a count that differs, and otherwise stands. With no
stuck reference the count and TIP_STUCK stand. SET TIP LINK replaces both settings; a changed stuck rule
judges the present stuck count against its threshold at once, and an unchanged one leaves TIP_STUCK as it
was. Counts, references, counter and report value are not touched. A value outside its set is refused
BAD_VALUE. -/
def Obligations.StuckRuleCountsEqualForces : Prop :=
  (∀ (s : State) (r : Byte) (c a : BitVec 16) (g x : Byte),
     s.powered = true → s.tlc.link = .up → s.tlc.sequenceRef = some r →
     ∃ t, exec (.dataFrame (r + 1) c a g x) s = .next t ∧ t.tlc.stuckRef = some c.toNat
       ∧ (s.tlc.stuckRef = none → t.tlc.stuckCount = s.tlc.stuckCount
         ∧ t.clp.isLive .tipStuck = s.clp.isLive .tipStuck)
       ∧ (∀ n, s.tlc.stuckRef = some n → n ≠ c.toNat →
         t.tlc.stuckCount = 0 ∧ t.clp.isLive .tipStuck = false)
       ∧ (s.tlc.stuckRef = some c.toNat →
         t.tlc.stuckCount = min 65535 (s.tlc.stuckCount + 1)
           ∧ (t.clp.isLive .tipStuck = true ↔ s.clp.isLive .tipStuck = true
             ∨ (if s.tlc.settings.stuckRule = .strict then 24 else 120) ≤ t.tlc.stuckCount)))
  ∧ (∀ (e : ErrorMode) (r : StuckRule) (s : State), s.serves 1 →
       (∃ t, exec (.setTipLink e.code r.code) s = .next t
         ∧ t.tlc = { s.tlc with settings := ⟨e, r⟩ } ∧ t.iau = s.iau ∧ t.geo = s.geo ∧ t.tal = s.tal
         ∧ t.log = s.log ∧ t.sto = s.sto ∧ .reply 0x08 .ok 0 true [] ∈ t.clp.queue
         ∧ (r = s.tlc.settings.stuckRule → t = { s.replied 0x08 .ok [] with tlc := t.tlc })
         ∧ (r ≠ s.tlc.settings.stuckRule →
           (t.clp.isLive .tipStuck = true ↔
             (if r = .strict then 24 else 120) ≤ s.tlc.stuckCount)))
       ∧ ∀ n m, 2 ≤ n ∨ 2 ≤ m → refusedWith (.setTipLink n m) 0x08 .badValue s)

/-- A transfer moves the error counter to the report value, sets the counter to 0 and takes TIP_ERR_OVERFLOW
non-live. At an expiry of the report timer it is done in AUTO alone, and a TIP_ERRORS notice follows unless
the value is 0. REPORT TIP ERRORS does it in MANUAL, with the value in its OK reply, and is refused STATE in
AUTO. An expiry of the noise interval sets the noise count to 0. Both timers restart at each expiry. An
expiry acts whatever time its timer has left (the model's choice, log 7). -/
def Obligations.ErrorsAreTransferred : Prop :=
  ∀ s : State,
    let moved (u t : State) : Prop := t.tlc = { u.tlc with reportValue := s.tlc.errorCounter, errorCounter := 0 }
      ∧ t = { u with tlc := t.tlc, clp := t.clp } ∧ t.clp.isLive .tipErrOverflow = false
    let restarted : State := { s with tlc := { s.tlc with reportTimer := some 1000 } }
    (s.powered = true →
      exec .noiseIntervalExpiry s
        = .next { s with tlc := { s.tlc with noiseCount := 0, noiseInterval := some 1000 } }
      ∧ (s.tlc.settings.errorMode = .manual → exec .reportTimerExpiry s = .next restarted)
      ∧ (s.tlc.settings.errorMode = .auto → ∃ t, exec .reportTimerExpiry s = .next t
        ∧ moved restarted t
        ∧ (s.tlc.errorCounter ≠ 0 → s.clp.queue.length ≤ 30 →
          .notice (.tipErrors s.tlc.errorCounter) ∈ t.clp.queue)
        ∧ (s.tlc.errorCounter = 0 → s.clp.isLive .tipErrOverflow = false → t = { restarted with tlc := t.tlc })))
    ∧ (s.serves 1 →
      (s.tlc.settings.errorMode = .manual → ∃ t, exec .reportTipErrors s = .next t
        ∧ moved s t ∧ .reply 0x0B .ok 0 true (u16 s.tlc.errorCounter) ∈ t.clp.queue)
      ∧ (s.tlc.settings.errorMode = .auto → refusedWith .reportTipErrors 0x0B .state s))

/-! ## Weighing -/

/-- At an in-order tip sample the corrected value is formed in R60's and R62's exact steps (300,000 when the
overrange flag is set) and becomes the previous corrected value, beside the sample's count and
temperature, and TIP_OVERRANGE is live exactly when the flag is set. While the source is TIP and the frame
leaves TIP_STUCK not live, the value joins the live history, the oldest of four leaving first, and the live
estimate is the rounded mean less T and z. -/
def Obligations.TipSamplesAreCorrected : Prop :=
  ∀ (s : State) (r : Byte) (c a : BitVec 16) (g x : Byte),
    s.powered = true → s.tlc.link = .up → s.tlc.sequenceRef = some r →
    ∃ (t : State) (y : Int), exec (.dataFrame (r + 1) c a g x) s = .next t
      ∧ t.wen.previousCorrected = some y ∧ t.wen.previousCount = some c.toNat
      ∧ (t.clp.isLive .tipOverrange = true ↔ x.getLsbD 0 = true)
      ∧ t.wen.k = s.wen.k ∧ t.wen.settings = s.wen.settings ∧ t.tal.labels = s.tal.labels
      ∧ t.iau = s.iau ∧ t.geo = s.geo ∧ t.sto = s.sto
      ∧ (x.getLsbD 0 = true → y = 300000)
      ∧ (x.getLsbD 0 = false → ∃ q gross p : Int,
        isRounded (((c.toNat : Int) - s.wen.calibration.zero) * s.wen.calibration.span) 1024 q
          ∧ isClamped (-20000) 300000 q gross ∧ isRounded (gross * s.wen.k) 1000000 p
          ∧ isClamped (-20000) 300000 p y)
      ∧ (s.sourced → s.wen.source = .tip → s.unstuckBy c →
        t.wen.history = (if 4 ≤ s.wen.history.length then s.wen.history.drop 1 else s.wen.history) ++ [y]
          ∧ ∃ m, isRounded t.wen.history.sum t.wen.history.length m
            ∧ t.wen.liveEstimate = some (m - s.wen.calibration.tare - s.wen.zeroOffset))

/-- In LIFTED on the tip, with no capture in flight and no DROP under way, an in-order tip sample that leaves
TIP_STUCK not live joins the lift window exactly when it passes the three tip gates. At the window's last
sample the lift is WEIGHED, with the rounded mean, ROUGH past the spread limit and GOOD otherwise, net less
T and z, mass the rounded tenth clamped to −2,000..30,000, and empty below min_lift; before it the lift
stays LIFTED. -/
def Obligations.LiftWindowsGatherAcceptedSamples : Prop :=
  ∀ (s : State) (r : Byte) (c a : BitVec 16) (g x : Byte) (w : Window),
    let y := correctedValue s.wen (tipSampleOf c a g x)
    let passes := min a.toNat 900 ≤ s.wen.settings.swing ∧ x.getLsbD 0 = false
      ∧ ∃ before, s.wen.previousCorrected = some before
        ∧ (y - before).natAbs ≤ s.wen.settings.jitter
    let grown := w.grown y
    s.powered = true → s.tlc.link = .up → s.tlc.sequenceRef = some r → s.sourced → s.wen.source = .tip →
    s.unstuckBy c → s.ltr.state = .lifted → s.ltr.dropStart = none →
    s.wen.capture = none → s.wen.liftSource = some .tip → s.wen.liftWindow = some w → w.source = .tip →
    w.count < w.size →
    ∃ t, exec (.dataFrame (r + 1) c a g x) s = .next t
      ∧ (¬passes → t.ltr.state = .lifted ∧ t.wen.liftWindow = some w)
      ∧ (passes → w.count + 1 < w.size → t.ltr.state = .lifted ∧ t.wen.liftWindow = some grown)
      ∧ (passes → w.count + 1 = w.size →
        t.ltr.state = .weighed ∧ t.wen.liftWindow = some grown
        ∧ ∃ (mean net mass : Int), isRounded grown.sum grown.size mean ∧ s.weighs .tip mean net mass
          ∧ t.ltr.result = some
            { net := net
              mass := mass
              quality := if (s.wen.settings.spread : Int) < grown.high.getD 0 - grown.low.getD 0
                then .rough else .good
              empty := decide (mass < s.wen.settings.minLift) })

/-- While auto-zero runs (IDLE, source TIP, enabled), with no capture in flight, a sample that is accepted and
leaves TIP_STUCK not live opens the empty window of 16 or joins it, and a sample that is not accepted leaves
it. At its sixteenth sample the window ends: a spread past the limit gives no candidate; a candidate mean − T
of at most the tracking limit becomes z and takes ZERO_DRIFT non-live; a larger one leaves z and makes
ZERO_DRIFT live. -/
def Obligations.AutoZeroFollowsTheDrift : Prop :=
  ∀ (s : State) (r : Byte) (c a : BitVec 16) (g x : Byte),
    let y := correctedValue s.wen (tipSampleOf c a g x)
    let passes := min a.toNat 900 ≤ s.wen.settings.swing ∧ x.getLsbD 0 = false
      ∧ ∃ before, s.wen.previousCorrected = some before
        ∧ (y - before).natAbs ≤ s.wen.settings.jitter
    s.powered = true → s.tlc.link = .up → s.tlc.sequenceRef = some r → s.sourced → s.wen.source = .tip →
    s.unstuckBy c → s.ltr.state = .idle → s.wen.settings.autoZero = true → s.wen.capture = none →
    ∃ t, exec (.dataFrame (r + 1) c a g x) s = .next t
      ∧ (¬passes → t.wen.emptyWindow = s.wen.emptyWindow ∧ t.wen.zeroOffset = s.wen.zeroOffset)
      ∧ (passes → s.wen.emptyWindow = none →
        t.wen.emptyWindow = some ⟨.tip, 16, 1, y, some y, some y⟩ ∧ t.wen.zeroOffset = s.wen.zeroOffset)
      ∧ ∀ w low high, passes → s.wen.emptyWindow = some w → w.size = 16 → w.low = some low →
        w.high = some high →
        (w.count < 15 →
          t.wen.emptyWindow = some ⟨w.source, 16, w.count + 1, w.sum + y, some (min y low),
            some (max y high)⟩ ∧ t.wen.zeroOffset = s.wen.zeroOffset)
        ∧ (w.count = 15 → t.wen.emptyWindow = none ∧ ∃ mean, isRounded (w.sum + y) 16 mean
          ∧ ((s.wen.settings.spread : Int) < max y high - min y low →
            t.wen.zeroOffset = s.wen.zeroOffset
              ∧ t.clp.isLive .zeroDrift = s.clp.isLive .zeroDrift)
          ∧ (max y high - min y low ≤ (s.wen.settings.spread : Int) →
            (mean - s.wen.calibration.tare).natAbs ≤ s.wen.settings.tracking →
            t.wen.zeroOffset = mean - s.wen.calibration.tare ∧ t.clp.isLive .zeroDrift = false)
          ∧ (max y high - min y low ≤ (s.wen.settings.spread : Int) →
            s.wen.settings.tracking < (mean - s.wen.calibration.tare).natAbs →
            t.wen.zeroOffset = s.wen.zeroOffset ∧ t.clp.isLive .zeroDrift = true))

/-- At each compensation update the timer restarts with the period; a valid latest temperature, clamped to
−40..85, gives K = 1,000,000 − k_t × (t − t_ref); an absent one, or the invalid value 127, leaves K. An
update is made whatever time the timer has left (the model's choice, log 7). -/
def Obligations.CompensationFollowsTheTemperature : Prop :=
  ∀ s : State, s.powered = true →
    ∃ t, exec .compensationUpdate s = .next t
      ∧ t = { s with wen := { s.wen with
          k := t.wen.k, compensationTimer := some s.wen.settings.period } }
      ∧ (s.wen.latestTemperature = none ∨ s.wen.latestTemperature = some 127 → t.wen.k = s.wen.k)
      ∧ ∀ n, s.wen.latestTemperature = some n → n ≠ 127 → ∃ m, isClamped (-40) 85 n m
        ∧ t.wen.k = 1000000 - s.wen.calibration.kt * (m - s.wen.calibration.tref)

/-- At each acquisition frame at which P_HEAD and P_ROD are GOOD and geometry is valid, the cylinder force
is the rounded quotient of the exact difference of products, and the band the reach in whole metres, capped
at 7; a frame at which either pressure is faulted or geometry is invalid forms none. A calibrated band's
sample becomes the previous cylinder sample, and a frame without one makes it absent. On the cylinder source
the sample joins the live history, which a change to that source has emptied, the oldest of four leaving
first, and the live estimate is the rounded mean with nothing subtracted; a frame whose band is not
calibrated empties the history. In LIFTED on the cylinder, with no DROP and no RELEASE under way, the sample
joins the lift window exactly when the BOOM output is 0 and it lies within the jitter limit of the previous
cylinder sample; at the window's last sample the lift is WEIGHED with the rounded mean as its net value,
ESTIMATE whatever the spread. That a frame has its sources judged before its sample is handed on, so that
the history emptied by a change to the cylinder source at this frame then holds the frame's own sample, and
that a capture in flight takes the force last, are the model's choices (log 9). -/
def Obligations.FramesFormTheCylinderForce : Prop :=
  ∀ (codes : PerChannel RawCode) (levels : PerLine Level) (order : FrameOrder) (s : State),
    s.powered = true →
    ∃ t, exec (.acquisitionFrame codes levels order) s = .next t
      ∧ (t.iau.channels.pHead.status ≠ .good ∨ t.iau.channels.pRod.status ≠ .good ∨ t.geo.valid = false →
        t.wen.frameForce = none ∧ t.wen.previousCylinder = none)
      ∧ ∀ h r p, t.iau.channels.pHead.status = .good → t.iau.channels.pHead.value = some h →
        t.iau.channels.pRod.status = .good → t.iau.channels.pRod.value = some r →
        t.geo.valid = true → t.geo.position = some p →
        ∃ f, t.wen.frameForce = some f
          ∧ isRounded (h * s.wen.calibration.areaHead - r * s.wen.calibration.areaRod) 1000 f.force
          ∧ f.band.val = min (p.reach / 1000) 7
          ∧ (let b := s.wen.calibration.bands[f.band]
            (b.emptyCaptured = true → b.gainCaptured = true → ∃ q y,
              isRounded ((f.force - b.emptyForce) * b.gain) 65536 q ∧ isClamped (-20000) 300000 q y
              ∧ t.wen.previousCylinder = some y
              ∧ (t.wen.source = .cylinder →
                (let old := if s.wen.source = .cylinder then s.wen.history else []
                t.wen.history = (if 4 ≤ old.length then old.drop 1 else old) ++ [y])
                ∧ ∃ m, isRounded t.wen.history.sum t.wen.history.length m ∧ t.wen.liveEstimate = some m)
              ∧ (∀ w : Window, s.ltr.state = .lifted → s.ltr.releaseStart = none → s.ltr.dropStart = none →
                s.sto.working.fallback = true → s.wen.liftSource = some .cylinder →
                s.wen.liftWindow = some w → w.source = .cylinder → w.count < w.size →
                let passes := s.vdr.sections.boom.output = 0
                  ∧ ∃ z, s.wen.previousCylinder = some z ∧ (y - z).natAbs ≤ s.wen.settings.jitter
                (¬passes → t.ltr.state = .lifted ∧ t.wen.liftWindow = some w)
                ∧ (passes → w.count + 1 < w.size →
                  t.ltr.state = .lifted ∧ t.wen.liftWindow = some (w.grown y))
                ∧ (passes → w.count + 1 = w.size →
                  t.ltr.state = .weighed ∧ t.wen.liftWindow = some (w.grown y)
                  ∧ ∃ mean net mass, isRounded (w.sum + y) w.size mean ∧ s.weighs .cylinder mean net mass
                    ∧ t.ltr.result
                      = some ⟨net, mass, .estimate, decide (mass < s.wen.settings.minLift)⟩)))
            ∧ (b.emptyCaptured = false ∨ b.gainCaptured = false →
              t.wen.previousCylinder = none
              ∧ (t.wen.source = .cylinder → t.wen.history = [] ∧ t.wen.liveEstimate = none)))

/-- A capture request is judged in the order of R74: a mass outside 500..30,000 BAD_VALUE, a capture in flight
BUSY, its state conditions STATE. Otherwise it is answered ACCEPTED and the capture is in flight with an
empty window; a CAL CYL LOAD whose band has no empty force then fails NO_EMPTY at once. CAL ABORT ends the
capture in flight with CAL_FAILED ABORTED, the calibration unchanged, and is refused STATE without one. -/
def Obligations.CaptureRequestsAreJudgedInOrder : Prop :=
  ∀ s : State, s.serves 1 →
    let begun (k : Byte) (c : Capture) : State :=
      { s.replied k .accepted [] with wen := { s.wen with capture := some c } }
    let readable := s.tlc.link = .up ∧ s.clp.isLive .tipStuck = false
    let grappled := s.ltr.state = .lifted ∨ s.ltr.state = .weighed
      ∨ (s.ltr.state = .gripped ∧ s.wen.liveEstimate = none)
    let pressures := s.iau.channels.pHead.status = .good ∧ s.iau.channels.pRod.status = .good
      ∧ s.geo.valid = true
    (∀ m, m < 500 ∨ 30000 < m →
      refusedWith (.calSpan m) 0x1C .badValue s ∧ refusedWith (.calCylLoad m) 0x1E .badValue s)
    ∧ (s.wen.capture.isSome = true → refusedWith .calZero 0x1B .busy s ∧ refusedWith .calCylEmpty 0x1D .busy s
      ∧ ∀ m, 500 ≤ m → m ≤ 30000 →
        refusedWith (.calSpan m) 0x1C .busy s ∧ refusedWith (.calCylLoad m) 0x1E .busy s)
    ∧ (s.wen.capture = none →
      (s.ltr.state = .idle → readable → exec .calZero s = .next (begun 0x1B ⟨.zero, none, 0, 0, 0⟩))
      ∧ (s.ltr.state ≠ .idle ∨ ¬readable → refusedWith .calZero 0x1B .state s)
      ∧ (∀ m, 500 ≤ m → m ≤ 30000 →
        (grappled → readable → s.wen.calibration.zeroValid = true →
          exec (.calSpan m) s = .next (begun 0x1C ⟨.span, none, m, 0, 0⟩))
        ∧ (¬grappled ∨ ¬readable ∨ s.wen.calibration.zeroValid = false →
          refusedWith (.calSpan m) 0x1C .state s))
      ∧ (s.ltr.state ≠ .idle ∨ s.vdr.sections.boom.output ≠ 0 ∨ ¬pressures →
        refusedWith .calCylEmpty 0x1D .state s)
      ∧ (∀ m, 500 ≤ m → m ≤ 30000 → ¬grappled ∨ ¬pressures → refusedWith (.calCylLoad m) 0x1E .state s)
      ∧ (∀ f, s.wen.frameForce = some f → pressures →
        (s.ltr.state = .idle → s.vdr.sections.boom.output = 0 →
          exec .calCylEmpty s = .next (begun 0x1D ⟨.cylEmpty, some f.band, 0, 0, 0⟩))
        ∧ ∀ m, 500 ≤ m → m ≤ 30000 → grappled →
          (s.wen.calibration.bands[f.band].emptyCaptured = true →
            exec (.calCylLoad m) s = .next (begun 0x1E ⟨.cylLoad, some f.band, m, 0, 0⟩))
          ∧ (s.wen.calibration.bands[f.band].emptyCaptured = false → s.clp.queue.length ≤ 30 →
            exec (.calCylLoad m) s = .next { s.replied 0x1E .accepted [] with
              clp := { s.clp with queue := s.clp.queue
                ++ [.reply 0x1E .accepted 0 true [], .notice (.calFailed .cylLoad .noEmpty)] } }))
      ∧ refusedWith .calAbort 0x1F .state s)
    ∧ ∀ c, s.wen.capture = some c → s.clp.queue.length ≤ 30 →
      exec .calAbort s = .next { s with
        wen := { s.wen with capture := none }
        clp := { s.clp with queue := s.clp.queue
          ++ [.reply 0x1F .ok 0 true [], .notice (.calFailed c.kind .aborted)] } }

/-- At the 32nd accepted raw count of a tip capture, with no LIFT-OFF or DROP under way and no empty window
open: CAL ZERO, in IDLE, makes Z the rounded mean, sets zero valid and makes z 0; CAL SPAN, in GRIPPED,
LIFTED or WEIGHED, fails SMALL_SPAN when the mean less Z is below 1,000, and otherwise makes S the rounded
(m + T) × 1,024 / d and sets span valid. A completion passes LOG the CAL entry with the old and the new
value and sends CAL_DONE; a failure leaves the calibration and sends CAL_FAILED. A count that fails the
capture gates leaves the capture. At a frame, in any order of its tasks (an operand, log 8), whose forces
make the 32nd value of a cylinder capture in the capture's band: CAL CYL EMPTY makes Fe[b] the rounded mean
force and sets empty captured, the gain and its mark kept; CAL CYL LOAD fails SMALL_SPAN below 500 N and
RANGE for a gain outside 1..65,535, and otherwise makes G[b] the rounded m × 65,536 / d and sets gain
captured. A completion passes LOG its CAL entry. A frame that forms another band fails the capture
BAND_MOVED. (Here for a frame with no qualification under way.) A time taken is the clock as the command
finds it (the model's reading, log 36). -/
def Obligations.CapturesComplete : Prop :=
  (∀ (s : State) (r : Byte) (c a : BitVec 16) (g x : Byte) (k : Capture) (n : Nat),
     let cal := s.wen.calibration
     let passes := min a.toNat 900 ≤ s.wen.settings.swing ∧ x.getLsbD 0 = false
       ∧ ((c.toNat : Int) - n).natAbs ≤ s.wen.settings.jitter
     s.powered = true → s.tlc.link = .up → s.tlc.sequenceRef = some r → s.clp.isLive .tipStuck = false →
     s.unstuckBy c → s.wen.capture = some k → k.count = 31 →
     s.wen.previousCount = some n → s.wen.emptyWindow = none → s.ltr.liftOffStart = none →
     s.ltr.dropStart = none →
     s.log.enables.system = true → s.log.ring ≠ [] → s.clp.queue.length ≤ 16 →
     ∃ t, exec (.dataFrame (r + 1) c a g x) s = .next t
       ∧ (k.kind = .zero → s.ltr.state = .idle → passes → ∃ mean : Int, isRounded (k.sum + c.toNat) 32 mean
         ∧ t.wen.calibration = { cal with zero := mean.toNat, zeroValid := true } ∧ t.wen.zeroOffset = 0
         ∧ t.wen.capture = none ∧ t.clp.isLive .zeroDrift = false
         ∧ (∃ e, t.log.ring.getLast? = some e ∧ e.part = .cal ⟨.z, k.band, cal.zero, mean⟩)
         ∧ .notice (.calDone .zero k.band mean) ∈ t.clp.queue)
       ∧ (k.kind = .span → s.ltr.state ≠ .idle → passes → ∃ mean : Int, isRounded (k.sum + c.toNat) 32 mean
         ∧ t.wen.capture = none
         ∧ (mean - cal.zero < 1000 → t.wen.calibration = cal ∧ t.log.ring = s.log.ring
           ∧ .notice (.calFailed .span .smallSpan) ∈ t.clp.queue)
         ∧ (1000 ≤ mean - cal.zero → ∃ span : Int,
           isRounded ((k.mass + cal.tare) * 1024) (mean - cal.zero) span
             ∧ t.wen.calibration = { cal with span := span.toNat, spanValid := true }
             ∧ (∃ e, t.log.ring.getLast? = some e ∧ e.part = .cal ⟨.s, k.band, cal.span, span⟩)
             ∧ .notice (.calDone .span k.band span) ∈ t.clp.queue))
       ∧ ((k.kind = .zero ∧ s.ltr.state = .idle) ∨ (k.kind = .span ∧ s.ltr.state ≠ .idle) → ¬passes →
         t.wen.capture = some k ∧ t.wen.calibration = cal))
  ∧ (∀ (codes : PerChannel RawCode) (levels : PerLine Level) (order : FrameOrder) (s : State) (k : Capture)
       (b : Fin 8) (f before : CylinderForce),
       let cal := s.wen.calibration
       s.powered = true → s.ltr.gripStart = none → s.ltr.releaseStart = none → s.ltr.liftOffStart = none →
       s.ltr.dropStart = none → (k.kind = .cylEmpty → s.ltr.state ≠ .lifted) →
       s.wen.capture = some k → k.band = some b → k.count = 31 →
       s.wen.frameForce = some before → s.vdr.sections.boom.output = 0 → s.clp.queue.length ≤ 8 →
       ∃ t, exec (.acquisitionFrame codes levels order) s = .next t
         ∧ (k.kind = .cylEmpty ∨ k.kind = .cylLoad → t.wen.frameForce = some f → f.band ≠ b →
           t.wen.capture = none ∧ t.wen.calibration = cal
             ∧ .notice (.calFailed k.kind .bandMoved) ∈ t.clp.queue)
         ∧ (t.wen.frameForce = some f → f.band = b →
           (f.force - before.force).natAbs ≤ s.wen.settings.jitter →
           let entered (name : CalName) (old new : Int) : Prop := s.log.enables.system = true →
             s.iau.lines.dl3.settings.mode ≠ .function →
             ∃ e, t.log.ring.getLast? = some e ∧ e.time = s.log.clock ∧ e.part = .cal ⟨name, some b, old, new⟩
           ∃ mean : Int, isRounded (k.sum + f.force) 32 mean
           ∧ (k.kind = .cylEmpty → t.wen.capture = none
             ∧ t.wen.calibration
               = { cal with bands := cal.bands.set b { cal.bands[b] with emptyForce := mean, emptyCaptured := true } }
             ∧ entered .fe cal.bands[b].emptyForce mean
             ∧ .notice (.calDone .cylEmpty (some b) mean) ∈ t.clp.queue)
           ∧ (k.kind = .cylLoad → t.wen.capture = none
             ∧ (mean - cal.bands[b].emptyForce < 500 → t.wen.calibration = cal
               ∧ .notice (.calFailed .cylLoad .smallSpan) ∈ t.clp.queue)
             ∧ (500 ≤ mean - cal.bands[b].emptyForce → ∃ gain : Int,
               isRounded (k.mass * 65536) (mean - cal.bands[b].emptyForce) gain
               ∧ (gain < 1 ∨ 65535 < gain → t.wen.calibration = cal
                 ∧ .notice (.calFailed .cylLoad .range) ∈ t.clp.queue)
               ∧ (1 ≤ gain → gain ≤ 65535 → t.wen.calibration
                   = { cal with bands := (cal.bands.set b
                       { cal.bands[b] with gain := gain.toNat, gainCaptured := true }) }
                 ∧ entered .g cal.bands[b].gain gain
                 ∧ .notice (.calDone .cylLoad (some b) gain) ∈ t.clp.queue)))))

/-- SET WEIGH replaces the eight settings when every one lies in its range, and is refused BAD_VALUE
otherwise: a changed period restarts the compensation timer, auto-zero off discards the empty window, and
z is clamped to the tracking limit. SET CALIBRATION replaces its five values when every one lies in its
range and no capture is in flight; a changed area clears the marks of all eight bands and keeps their
values; each changed value is passed to LOG, in the order of R137. It is refused BAD_VALUE out of range,
and BUSY during a capture, BAD_VALUE before BUSY (the model's reading, log 15). Auto-zero on is carried as 0 and
off as 1, and the period as a number of ms: the model's choices (log 12). -/
def Obligations.WeighAndCalibrationAreSet : Prop :=
  (∀ (f : WeighFields) (s : State), s.serves 1 →
     let good := 10 ≤ f.swing ∧ f.swing ≤ 300 ∧ 50 ≤ f.jitter ∧ f.jitter ≤ 2000 ∧ 8 ≤ f.windowSize
       ∧ f.windowSize ≤ 64 ∧ 20 ≤ f.spread ∧ f.spread ≤ 1000 ∧ 5 ≤ f.minLift ∧ f.minLift ≤ 200
       ∧ (f.period = 500 ∨ f.period = 2000 ∨ f.period = 10000 ∨ f.period = 30000) ∧ f.autoZero ≤ 1
       ∧ f.tracking ≤ 1000
     (good → ∃ (on : Bool) (z : Int), (on = true ↔ f.autoZero = 0)
       ∧ isClamped (-f.tracking) f.tracking s.wen.zeroOffset z
       ∧ exec (.setWeigh f) s = .next { s.replied 0x18 .ok [] with
           wen := { s.wen with
             settings := ⟨f.swing, f.jitter, f.windowSize, f.spread, f.minLift, f.period, on, f.tracking⟩
             compensationTimer :=
               if f.period = s.wen.settings.period then s.wen.compensationTimer else some f.period
             emptyWindow := if on then s.wen.emptyWindow else none
             zeroOffset := z } })
     ∧ (¬good → refusedWith (.setWeigh f) 0x18 .badValue s))
  ∧ (∀ (f : CalibrationFields) (s : State), s.serves 1 →
       let c := s.wen.calibration
       let good := f.tare ≤ 10000 ∧ -200 ≤ f.kt ∧ f.kt ≤ 200 ∧ -40 ≤ f.tref ∧ f.tref ≤ 85
         ∧ f.areaHead ≤ 50000 ∧ f.areaRod ≤ 50000
       (¬good → refusedWith (.setCalibration f) 0x19 .badValue s)
       ∧ (good → s.wen.capture.isSome = true → refusedWith (.setCalibration f) 0x19 .busy s)
       ∧ (good → s.wen.capture = none → ∃ t, exec (.setCalibration f) s = .next t
         ∧ t = { s with wen := { s.wen with calibration := t.wen.calibration }, log := t.log, clp := t.clp }
         ∧ t.wen.calibration = { c with
             tare := f.tare, kt := f.kt, tref := f.tref, areaHead := f.areaHead, areaRod := f.areaRod
             bands := t.wen.calibration.bands }
         ∧ (f.areaHead = c.areaHead → f.areaRod = c.areaRod → t.wen.calibration.bands = c.bands)
         ∧ (f.areaHead ≠ c.areaHead ∨ f.areaRod ≠ c.areaRod → ∀ b : Fin 8,
           t.wen.calibration.bands[b] = { c.bands[b] with emptyCaptured := false, gainCaptured := false })
         ∧ (s.log.enables.system = true → s.log.ring.length ≤ 123 →
           (t.log.ring.drop s.log.ring.length).map Entry.part
             = ([(CalName.t, (c.tare : Int), (f.tare : Int)), (.kt, c.kt, f.kt), (.tref, c.tref, f.tref),
                 (.ah, c.areaHead, f.areaHead), (.ar, c.areaRod, f.areaRod)].filter
                 fun v => v.2.1 != v.2.2).map fun v => .cal ⟨v.1, none, v.2.1, v.2.2⟩)))

/-! ## Lift tracking and tally -/

/-- In IDLE each frame's grip sample is judged for GRIP, and in GRIPPED (with no LIFT-OFF under way) for
RELEASE: a condition that fails, or a faulted GRIP channel, makes the start stamp absent; one that holds
starts the stamp, keeps it, or takes the event once it has held for the qualification time. GRIP moves the
context to GRIPPED with the frame's time as grip time; RELEASE in GRIPPED moves it to IDLE; neither takes a
lift number. A time taken is the clock as the command finds it (the model's reading, log 36). -/
def Obligations.GripAndReleaseAreQualified : Prop :=
  ∀ (codes : PerChannel RawCode) (levels : PerLine Level) (order : FrameOrder) (s : State),
    s.powered = true →
    ∃ t, exec (.acquisitionFrame codes levels order) s = .next t
      ∧ (let c := t.iau.channels.grip
        let now := s.log.clock
        (s.ltr.state = .idle →
          (c.status ≠ .good ∨ (∃ p, c.value = some p ∧ p < s.ltr.settings.gripThreshold) →
            t.ltr = { s.ltr with gripStart := none })
          ∧ ∀ p, c.status = .good → c.value = some p → (s.ltr.settings.gripThreshold : Int) ≤ p →
            (s.ltr.gripStart = none → t.ltr = { s.ltr with gripStart := some now })
            ∧ ∀ b, s.ltr.gripStart = some b →
              (now.since b < s.ltr.settings.gripTime → t.ltr = s.ltr)
              ∧ (s.ltr.settings.gripTime ≤ now.since b →
                t.ltr.state = .gripped ∧ t.ltr.gripTime = some now ∧ t.ltr.gripStart = none
                  ∧ t.ltr.releaseStart = none ∧ t.ltr.number = s.ltr.number
                  ∧ t.wen.emptyWindow = none))
        ∧ (s.ltr.state = .gripped → s.ltr.liftOffStart = none →
          (c.status ≠ .good ∨ (∃ p, c.value = some p ∧ s.ltr.settings.releaseThreshold ≤ p) →
            t.ltr.state = .gripped ∧ t.ltr.releaseStart = none)
          ∧ ∀ p, c.status = .good → c.value = some p → p < (s.ltr.settings.releaseThreshold : Int) →
            (s.ltr.releaseStart = none →
              t.ltr.state = .gripped ∧ t.ltr.releaseStart = some now)
            ∧ ∀ b, s.ltr.releaseStart = some b →
              (now.since b < s.ltr.settings.releaseTime →
                t.ltr.state = .gripped ∧ t.ltr.releaseStart = some b)
              ∧ (s.ltr.settings.releaseTime ≤ now.since b →
                t.ltr.state = .idle ∧ t.ltr.gripTime = none ∧ t.ltr.releaseStart = none
                  ∧ t.ltr.number = s.ltr.number)))

/-- In GRIPPED, the live-estimate update of an in-order tip sample on the tip source, whose frame leaves
TIP_STUCK not live, is judged for LIFT-OFF. At the update that has held for the lift-off time: the lift
number rises by 1, the lift-off time and the from-zone are recorded, and an empty lift window of the window
size opens on TIP; the grip time stands and RELEASE runs on. A time taken is the clock as the command finds
it (the model's reading, log 36). -/
def Obligations.LiftOffBeginsALift : Prop :=
  ∀ (s : State) (r : Byte) (c a : BitVec 16) (g x : Byte),
    s.powered = true → s.tlc.link = .up → s.tlc.sequenceRef = some r → s.sourced → s.wen.source = .tip →
    s.unstuckBy c → s.ltr.state = .gripped →
    ∃ (t : State) (v : Int), exec (.dataFrame (r + 1) c a g x) s = .next t ∧ t.wen.liveEstimate = some v
      ∧ (v < s.ltr.settings.liftOffThreshold → t.ltr = { s.ltr with liftOffStart := none })
      ∧ ((s.ltr.settings.liftOffThreshold : Int) ≤ v →
        (s.ltr.liftOffStart = none → t.ltr = { s.ltr with liftOffStart := some s.log.clock })
        ∧ ∀ b, s.ltr.liftOffStart = some b →
          (s.log.clock.since b < s.ltr.settings.liftOffTime → t.ltr = s.ltr)
          ∧ (s.ltr.settings.liftOffTime ≤ s.log.clock.since b →
            t.ltr = { s.ltr with
              state := .lifted, number := s.ltr.number + 1, liftOffTime := some s.log.clock
              fromZone := some s.geo.zone, source := some .tip, gripStart := none, liftOffStart := none
              dropStart := none }
            ∧ t.wen.liftSource = some .tip
            ∧ t.wen.liftWindow = some ⟨.tip, s.wen.settings.windowSize, 0, 0, none, none⟩))

/-- In LIFTED or WEIGHED on the tip source, whose DROP condition has held for the drop time at an in-order
sample that leaves TIP_STUCK not live, the lift ends DROPPED: the tally is unchanged, the lift fields are
absent, the context is GRIPPED with its grip time and its lift number, and the window is ended. The lift
record passed to LOG carries effect 0, 0, not held and the open load's number. Its mass and quality are
those of the fixed result in WEIGHED. In LIFTED they are fixed from the window as this sample leaves it, the
sample in it when it is accepted for the lift source: the whole window's when the sample completes it,
PARTIAL from 8 values on (ESTIMATE on the cylinder), and below 8 UNWEIGHED, the rounded tenth of the live
estimate brought to 0..30,000. A time taken is the clock as the command finds it (the model's reading, log
36). -/
def Obligations.DropEndsTheLiftUntallied : Prop :=
  ∀ (s : State) (r : Byte) (c a : BitVec 16) (g x : Byte) (b : Stamp),
    let y := correctedValue s.wen (tipSampleOf c a g x)
    let joins := s.wen.liftSource = some .tip ∧ min a.toNat 900 ≤ s.wen.settings.swing
      ∧ x.getLsbD 0 = false ∧ ∃ before, s.wen.previousCorrected = some before
        ∧ (y - before).natAbs ≤ s.wen.settings.jitter
    s.powered = true → s.tlc.link = .up → s.tlc.sequenceRef = some r → s.sourced → s.wen.source = .tip →
    s.unstuckBy c → s.ltr.dropStart = some b →
    s.ltr.settings.dropTime ≤ s.log.clock.since b → s.wen.capture = none →
    s.ltr.state = .weighed ∨ s.ltr.state = .lifted →
    ∃ (t : State) (v : Int), exec (.dataFrame (r + 1) c a g x) s = .next t ∧ t.wen.liveEstimate = some v
      ∧ (v < s.ltr.settings.dropThreshold →
        t.tal = s.tal ∧ t.ltr.state = .gripped ∧ t.ltr.gripTime = s.ltr.gripTime
          ∧ t.ltr.number = s.ltr.number ∧ t.ltr.liftOffTime = none ∧ t.ltr.fromZone = none
          ∧ t.ltr.source = none ∧ t.ltr.result = none ∧ t.ltr.assortment = none ∧ t.ltr.toZone = none
          ∧ t.ltr.outcome = none ∧ t.ltr.effect = none ∧ t.wen.liftWindow = none ∧ t.wen.liftSource = none
          ∧ (s.log.enables.dropped = false → t.log = s.log)
          ∧ (s.log.enables.dropped = true → ∃ e p, t.log.ring.getLast? = some e ∧ e.part = .lift p
            ∧ e.time = s.log.clock ∧ p.number = s.ltr.number ∧ p.outcome = .dropped
            ∧ (∀ z, s.ltr.fromZone = some z → p.fromZone = z) ∧ p.toZone = s.geo.zone
            ∧ (∀ z, s.ltr.source = some z → p.source = z) ∧ p.assortment = s.tal.selected
            ∧ p.effect = ⟨0, 0, false, s.tal.load.map Load.number⟩
            ∧ (∀ q, s.ltr.state = .weighed → s.ltr.result = some q →
              p.mass = q.mass ∧ p.quality = q.quality)
            ∧ (∀ w : Window, s.ltr.state = .lifted → s.wen.liftWindow = some w → w.count < w.size →
              (¬joins → ∃ empty, s.fixesPartial w (some v) p.mass p.quality empty)
              ∧ (joins → w.count + 1 < w.size →
                ∃ empty, s.fixesPartial (w.grown y) (some v) p.mass p.quality empty)
              ∧ (joins → w.count + 1 = w.size → ∃ mean net, isRounded (w.sum + y) w.size mean
                ∧ s.weighs w.source mean net p.mass
                ∧ p.quality = (if w.source = .cylinder then .estimate
                  else if (s.wen.settings.spread : Int)
                    < (w.grown y).high.getD 0 - (w.grown y).low.getD 0 then .rough else .good)))))

/-- At the frame that takes RELEASE in WEIGHED or LIFTED, the context is IDLE with every lift field absent
and its lift number kept, and the lift record passed to LOG carries the selected assortment, the frame's
zone as to-zone, and the outcome: EMPTY for an empty result, and otherwise LOADED from GROUND to BUNK,
UNLOADED from BUNK to GROUND, MOVED within GROUND, RESTACKED within BUNK, and UNPLACED where either end is
CAB or UNKNOWN. Its mass, quality and empty mark are those of the fixed result in WEIGHED. In LIFTED they
are fixed from the window: PARTIAL from 8 values on (ESTIMATE on the cylinder), and below 8 UNWEIGHED, the
rounded tenth of the live estimate brought to 0..30,000. (Here with no mark and no capture in flight. Where
the frame's order puts the cylinder sample before the grip sample (log 8): in WEIGHED with no DROP under
way, and in LIFTED on the tip.) A time taken is the clock as the command finds it (the model's reading, log
36). -/
def Obligations.ReleaseDecidesTheOutcome : Prop :=
  ∀ (codes : PerChannel RawCode) (levels : PerLine Level) (order : FrameOrder) (s : State) (b : Stamp)
    (z : Zone) (src : Source),
    let onTip := s.sourced ∧ s.wen.source = .tip ∧ s.wen.liftSource = some .tip
      ∧ ∀ w : Window, s.wen.liftWindow = some w → w.count < w.size
    s.powered = true →
    (s.ltr.state = .weighed ∧ (order.gripFirst = true ∨ s.ltr.dropStart = none))
      ∨ (s.ltr.state = .lifted ∧ (order.gripFirst = true ∨ onTip)) →
    s.ltr.fromZone = some z → s.ltr.source = some src → s.ltr.releaseStart = some b →
    s.ltr.settings.releaseTime ≤ s.log.clock.since b →
    s.iau.lines.dl3.settings.mode ≠ .function → s.wen.capture = none →
    s.log.enables.tallied = true → s.log.enables.untallied = true →
    ∃ t, exec (.acquisitionFrame codes levels order) s = .next t
      ∧ ∀ p, t.iau.channels.grip.status = .good → t.iau.channels.grip.value = some p →
        p < (s.ltr.settings.releaseThreshold : Int) →
        t.ltr.state = .idle ∧ t.ltr.number = s.ltr.number ∧ t.ltr.gripTime = none
        ∧ t.ltr.liftOffTime = none ∧ t.ltr.fromZone = none ∧ t.ltr.source = none ∧ t.ltr.result = none
        ∧ t.ltr.assortment = none ∧ t.ltr.toZone = none ∧ t.ltr.outcome = none ∧ t.ltr.effect = none
        ∧ t.wen.liftWindow = none ∧ t.wen.liftSource = none
        ∧ ∃ e l empty, t.log.ring.getLast? = some e ∧ e.part = .lift l ∧ e.time = s.log.clock
          ∧ l.number = s.ltr.number ∧ l.fromZone = z ∧ l.toZone = t.geo.zone ∧ l.source = src
          ∧ l.assortment = s.tal.selected ∧ placed empty z t.geo.zone l.outcome
          ∧ (∀ q, s.ltr.state = .weighed → s.ltr.result = some q →
            l.mass = q.mass ∧ l.quality = q.quality ∧ empty = q.empty)
          ∧ ∀ w, s.ltr.state = .lifted → s.wen.liftWindow = some w →
            s.fixesPartial w s.wen.liveEstimate l.mass l.quality empty

/-- A frame changes the tally by one commit at most, and only where it takes the context to IDLE; but for
the switch state it otherwise leaves the tally as it was. A frame in IDLE, or one in GRIPPED that takes no
LIFT-OFF, commits nothing. One in LIFTED or WEIGHED commits nothing where it takes no RELEASE. Where it
takes RELEASE, with no DROP under way or the grip sample first, the tally is what the commit of the lift
record leaves, on the frame's DL2 switch state, and the record carries the effect the commit returns; in
WEIGHED that is the commit of the fixed result. (The order of a frame's tasks is an operand of the command:
the model's choice, log 8.) -/
def Obligations.ReleasesCommitOnce : Prop :=
  ∀ (codes : PerChannel RawCode) (levels : PerLine Level) (order : FrameOrder) (s : State),
    s.powered = true → s.iau.lines.dl3.settings.mode ≠ .function →
    ∃ t, exec (.acquisitionFrame codes levels order) s = .next t
      ∧ (let kept := t.tal = { s.tal with switchClosed := t.tal.switchClosed }
        let before (u : State) : Prop := u.tal = { s.tal with switchClosed := t.tal.switchClosed }
          ∧ u.sto = s.sto ∧ u.log.clock = s.log.clock
        (kept ∨ (s.ltr.state ≠ .idle ∧ t.ltr.state = .idle ∧ ∃ u o mass q, before u
          ∧ t.tal = (commit o s.tal.selected mass q u).tal))
        ∧ (s.ltr.state = .idle → kept)
        ∧ (s.ltr.state = .gripped → t.ltr.number = s.ltr.number → kept)
        ∧ (s.ltr.state = .lifted ∨ s.ltr.state = .weighed → t.ltr.state ≠ .idle → kept)
        ∧ (s.ltr.state = .lifted ∨ s.ltr.state = .weighed → t.ltr.state = .idle →
          order.gripFirst = true ∨ s.ltr.dropStart = none → s.wen.capture = none →
          s.log.enables.tallied = true → s.log.enables.untallied = true →
          ∃ u e l, before u ∧ t.log.ring.getLast? = some e ∧ e.part = .lift l
            ∧ t.tal = (commit l.outcome s.tal.selected l.mass.toNat l.quality u).tal
            ∧ l.effect = commitEffect l.outcome s.tal.selected l.mass.toNat u.tal
            ∧ ∀ q z, s.ltr.state = .weighed → s.ltr.result = some q → s.ltr.fromZone = some z →
              l.mass = q.mass ∧ l.quality = q.quality ∧ placed q.empty z t.geo.zone l.outcome))

/-- A commit of a lift, as the release procedure hands it to TAL: one that is held, or of an untallied
outcome, changes nothing. A LOADED commit adds the mass up to 60,000 to its assortment and counts the lift,
in the open load or in a new one of the next number; past 60,000 the saturation flag is set and
TALLY_SATURATED latched. An UNLOADED commit takes the mass down to 0, counts the lift, and latches OVERDRAW
by what is missing; a total of 0 then closes the load EMPTIED; with no load open it changes no figure. A
commit that leaves the load open evaluates the target: when one of its fields is enabled and every enabled
one holds, the target-reached flag is set, and a TARGET notice of the load's number, total and loaded lifts
is sent if the flag was clear (while the queue has room); a flag once set stands, and no other TARGET notice
is sent. The effect returned is what was applied. A time taken is the clock as the command finds it (the
model's reading, log 36). -/
def Obligations.CommitsChangeTheTally : Prop :=
  ∀ (a : Fin 16) (mass : Nat) (q : Quality) (s : State),
    let un (n : Nat) : Nat := if q = .unweighed then min 65535 (n + 1) else n
    let g := s.tal.target
    let meets (x : Load) : Prop := (g.totalOn = true ∨ g.liftsOn = true ∨ g.assortmentOn = true)
      ∧ (g.totalOn = true → g.total ≤ x.total) ∧ (g.liftsOn = true → g.lifts ≤ x.loadedLifts)
      ∧ (g.assortmentOn = true → g.mass ≤ x.figures[g.index].mass)
    let quiet (t : State) : Prop := ∀ n m k,
      .notice (.target n m k) ∈ t.clp.queue → .notice (.target n m k) ∈ s.clp.queue
    let evaluated (x : Load) (reached : Bool) (t : State) : Prop :=
      (reached = true ↔ x.targetReached = true ∨ meets x)
      ∧ (meets x → x.targetReached = false → s.clp.queue.length ≤ 30 →
        .notice (.target x.number x.total x.loadedLifts) ∈ t.clp.queue)
      ∧ (¬meets x ∨ x.targetReached = true → quiet t)
    (∀ o, s.tal.holdActive = true ∨ (o ≠ .loaded ∧ o ≠ .unloaded) → commit o a mass q s = s)
    ∧ (s.tal.holdActive = true → ∀ o, o = .loaded ∨ o = .unloaded →
      commitEffect o a mass s.tal = ⟨0, 0, true, none⟩)
    ∧ (s.tal.holdActive = false → ∀ l, s.tal.load = some l ∨ (s.tal.load = none
        ∧ l = ⟨s.tal.nextNumber, s.log.clock, Vector.replicate 16 ⟨0, 0, 0⟩, 0, 0, false, false⟩) →
      let f := l.figures[a]
      let t := commit .loaded a mass q s
      let rise := min mass (60000 - f.mass)
      let after : Load := { l with
        figures := l.figures.set a ⟨f.mass + rise, min 65535 (f.lifts + 1), un f.unweighed⟩
        loadedLifts := min 65535 (l.loadedLifts + 1)
        saturated := l.saturated || decide (60000 < f.mass + mass) }
      (f.mass ≤ 60000 →
        commitEffect .loaded a mass s.tal = ⟨rise, 0, false, some l.number⟩
        ∧ (∃ reached, t.tal = { s.tal with
            nextNumber := if s.tal.load.isSome then s.tal.nextNumber
              else if s.tal.nextNumber = 65535 then 1 else s.tal.nextNumber + 1
            load := some { after with targetReached := reached } }
          ∧ evaluated after reached t)
        ∧ (60000 < f.mass + mass → t.clp.isLatched .tallySaturated = true)
        ∧ t.payloadCondition)
      ∧ t = { s with tal := t.tal, clp := t.clp })
    ∧ (s.tal.holdActive = false → ∀ l, s.tal.load = some l →
      let f := l.figures[a]
      let t := commit .unloaded a mass q s
      let after : Load := { l with
        figures := l.figures.set a ⟨f.mass - mass, f.lifts, un f.unweighed⟩
        unloadedLifts := min 65535 (l.unloadedLifts + 1) }
      commitEffect .unloaded a mass s.tal
          = ⟨min f.mass mass, mass - min f.mass mass, false, some l.number⟩
        ∧ (f.mass < mass → t.clp.isLatched .overdraw = true) ∧ t.payloadCondition
        ∧ (after.total ≠ 0 → (∃ reached, t.tal = { s.tal with
            load := some { after with targetReached := reached } } ∧ evaluated after reached t)
          ∧ t.log = s.log)
        ∧ (after.total = 0 → t.tal.load = none ∧ quiet t
          ∧ t.tal.history = (if 8 ≤ s.tal.history.length then s.tal.history.drop 1 else s.tal.history)
            ++ [⟨l.number, l.openTime, s.log.clock, .emptied, 0, l.loadedLifts, after.unloadedLifts,
              l.saturated, summaryPairs after.figures⟩]
          ∧ (s.log.enables.system = true → ∃ e, t.log.ring.getLast? = some e
            ∧ e.part = .loadClosed ⟨l.number, .emptied, 0, l.loadedLifts, after.unloadedLifts⟩)))
    ∧ (s.tal.holdActive = false → s.tal.load = none →
      commitEffect .unloaded a mass s.tal = ⟨0, mass, false, none⟩
        ∧ (mass = 0 → commit .unloaded a mass q s = s)
        ∧ (mass ≠ 0 → commit .unloaded a mass q s = { s with clp := s.clp.latch .overdraw }))

/-- HOLD TALLY and RELEASE TALLY set the commanded hold and nothing else. SELECT ASSORTMENT selects a
defined entry, is refused STATE for an undefined one and BAD_VALUE past 15. DEFINE ASSORTMENT is judged in
the order of R110: a label of more than 8 characters BAD_LENGTH; an index outside 1..15 or a byte outside
0x20..0x7E BAD_VALUE; an empty label for an entry with figures in the open load STATE. Otherwise the entry
takes the label, and a selected entry made undefined returns the selection to 0. SET TARGET replaces the
whole record when every value lies in its range and an enabled assortment is defined, and clears an open
load's target-reached flag; CLOSE LOAD closes the open load with reason COMMAND: its summary joins the
history, the oldest of 8 discarded first, LOAD_CLOSED is passed to LOG, and the record is NONE. SET TARGET
carries an enable as 0 for on and 1 for off: the model's choice (log 12). A time taken is the clock as the
command finds it (the model's reading, log 36). -/
def Obligations.TallyRequestsAct : Prop :=
  (∀ s : State, s.serves 1 →
     exec .holdTally s = .next { s.replied 0x2A .ok [] with tal := { s.tal with commandedHold := true } }
     ∧ exec .releaseTally s
       = .next { s.replied 0x2B .ok [] with tal := { s.tal with commandedHold := false } }
     ∧ (∀ i : Fin 16,
       (s.tal.labels[i] ≠ [] → exec (.selectAssortment i.val) s
         = .next { s.replied 0x28 .ok [] with tal := { s.tal with selected := i } })
       ∧ (s.tal.labels[i] = [] → refusedWith (.selectAssortment i.val) 0x28 .state s))
     ∧ ∀ n, 16 ≤ n → refusedWith (.selectAssortment n) 0x28 .badValue s)
  ∧ (∀ (n : Nat) (label : List Byte) (s : State), s.serves 1 →
       let printable := ∀ b ∈ label, 0x20 ≤ b.toNat ∧ b.toNat ≤ 0x7E
       (8 < label.length → refusedWith (.defineAssortment n label) 0x29 .badLength s)
       ∧ (label.length ≤ 8 → n = 0 ∨ 15 < n ∨ ¬printable →
         refusedWith (.defineAssortment n label) 0x29 .badValue s)
       ∧ ∀ i : Fin 16, n = i.val → n ≠ 0 → label.length ≤ 8 → printable →
         let figured := ∃ l, s.tal.load = some l
           ∧ (l.figures[i].mass ≠ 0 ∨ l.figures[i].lifts ≠ 0 ∨ l.figures[i].unweighed ≠ 0)
         (label = [] → figured → refusedWith (.defineAssortment n label) 0x29 .state s)
         ∧ (label ≠ [] ∨ ¬figured → exec (.defineAssortment n label) s
           = .next { s.replied 0x29 .ok [] with tal := { s.tal with
               labels := s.tal.labels.set i label
               selected := if label = [] ∧ s.tal.selected = i then 0 else s.tal.selected } }))
  ∧ (∀ s : State, s.serves 1 →
       (∀ f : TargetFields,
         let ranged := f.totalEnable ≤ 1 ∧ f.liftsEnable ≤ 1 ∧ f.assortmentEnable ≤ 1 ∧ 1 ≤ f.total
           ∧ f.total ≤ 960000 ∧ 1 ≤ f.lifts ∧ f.lifts ≤ 65535 ∧ f.index ≤ 15 ∧ 1 ≤ f.mass ∧ f.mass ≤ 60000
         (¬ranged → refusedWith (.setTarget f) 0x2C .badValue s)
         ∧ (ranged → ∀ i : Fin 16, f.index = i.val →
           (f.assortmentEnable = 0 → s.tal.labels[i] = [] → refusedWith (.setTarget f) 0x2C .state s)
           ∧ (f.assortmentEnable = 1 ∨ s.tal.labels[i] ≠ [] → exec (.setTarget f) s
             = .next { s.replied 0x2C .ok [] with tal := { s.tal with
                 target := ⟨f.totalEnable == 0, f.liftsEnable == 0, f.assortmentEnable == 0, f.total, f.lifts,
                   i, f.mass⟩
                 load := s.tal.load.map fun l => { l with targetReached := false } } })))
       ∧ (s.tal.load = none → refusedWith .closeLoad 0x2D .state s)
       ∧ ∀ l, s.tal.load = some l → ∃ t, exec .closeLoad s = .next t
         ∧ t = { s with tal := t.tal, log := t.log, clp := t.clp }
         ∧ t.tal = { s.tal with
             load := none
             history := (if 8 ≤ s.tal.history.length then s.tal.history.drop 1 else s.tal.history)
               ++ [⟨l.number, l.openTime, s.log.clock, .command, l.total, l.loadedLifts, l.unloadedLifts,
                 l.saturated, summaryPairs l.figures⟩] }
         ∧ .reply 0x2D .ok 0 true (u16 l.number ++ u32 l.total) ∈ t.clp.queue
         ∧ (s.log.enables.system = false → t.log = s.log)
         ∧ (s.log.enables.system = true → ∃ e, t.log.ring.getLast? = some e ∧ e.time = s.log.clock
           ∧ e.part = .loadClosed ⟨l.number, .command, l.total, l.loadedLifts, l.unloadedLifts⟩))

/-! ## Lift log, time base and moment limiting -/

/-- Each elapsed millisecond raises the clock's milliseconds by 1; from 999 they go to 0 and the seconds rise
by 1, from 4,294,967,295 to 0. By the model's choice (log 7) the same command runs down each block's own timer
by one millisecond, the horn's wave timer by 4,096 units of 1/4,096,000 s, to 0 and no further, and counts up the
time since the receiver's last byte; nothing else changes, but that the coil driver's group may end (log 30). SET
CLOCK sets the seconds and zeroes the milliseconds. Every running stamp moves by the exact step: each line's
debounce candidate and each qualification's start stamp, so that the time a condition has held is the same
after the request as before it; an absent stamp stays absent, and recorded stamps and timers stand. READ CLOCK is answered OK with the clock's seconds and milliseconds, and changes nothing. -/
def Obligations.ClockRunsAndIsSet : Prop :=
  (∀ s : State, s.powered = true →
     let less (x : Timer) : Timer := x.map (· - 1)
     ∃ t, exec .clockMillisecond s = .next t
       ∧ t.log = { s.log with clock := t.log.clock }
       ∧ (s.log.clock.ms.val < 999 →
         t.log.clock.sec = s.log.clock.sec ∧ t.log.clock.ms.val = s.log.clock.ms.val + 1)
       ∧ (s.log.clock.ms.val = 999 →
         t.log.clock.sec = s.log.clock.sec + 1 ∧ t.log.clock.ms.val = 0)
       ∧ t = { s with
         log := t.log
         iau := { s.iau with frameTimer := less s.iau.frameTimer }
         tlc := { s.tlc with
           hailTimer := less s.tlc.hailTimer, probeWindow := less s.tlc.probeWindow
           startWindow := less s.tlc.startWindow, resend := less s.tlc.resend
           lossTimer := less s.tlc.lossTimer, backOff := less s.tlc.backOff
           noiseInterval := less s.tlc.noiseInterval, reportTimer := less s.tlc.reportTimer }
         wen := { s.wen with compensationTimer := less s.wen.compensationTimer }
         mlm := { s.mlm with
           segmentTimer := less s.mlm.segmentTimer
           waveTimer := s.mlm.waveTimer.map (· - 4096), flashTimer := less s.mlm.flashTimer }
         vdr := { s.vdr with
           leverTimer := less s.vdr.leverTimer, driveTimer := less s.vdr.driveTimer
           groupTimer := t.vdr.groupTimer, sections := t.vdr.sections }
         clp := { s.clp with
           liveTimer := less s.clp.liveTimer
           receiver := { s.clp.receiver with
             sinceByte := s.clp.receiver.sinceByte.map (· + 1) } } }
       ∧ ∀ v : Section, t.vdr.sections.get v
         = { s.vdr.sections.get v with driven := (t.vdr.sections.get v).driven })
  ∧ (∀ (n : BitVec 32) (s : State), s.serves 1 →
       ∃ (t : State) (move : Stamp → Stamp), exec (.setClock n) s = .next t
         ∧ t = { s.replied 0x38 .ok [] with
             log := { s.log with clock := ⟨n, 0⟩ }
             ltr := { s.ltr with
               gripStart := s.ltr.gripStart.map move, releaseStart := s.ltr.releaseStart.map move
               liftOffStart := s.ltr.liftOffStart.map move, dropStart := s.ltr.dropStart.map move }
             iau := { s.iau with lines := t.iau.lines } }
         ∧ (∀ l : Line, t.iau.lines.get l = { s.iau.lines.get l with
             candidate := (s.iau.lines.get l).candidate.map fun c => ⟨c.level, move c.since⟩ })
         ∧ ∀ b : Stamp,
           ((move b).toMs - b.toMs - ((n.toNat : Int) * 1000 - s.log.clock.toMs)) % 4294967296000 = 0
             ∧ (0 ≤ s.log.clock.since b → s.log.clock.since b < 4294967294000 →
               (⟨n, 0⟩ : Stamp).since (move b) = s.log.clock.since b))
  ∧ (∀ s : State, s.serves 1 →
       exec .readClock s
         = .next (s.replied 0x39 .ok (u32 s.log.clock.sec.toNat ++ u16 s.log.clock.ms.val)))

/-- With the MARK enable on, MARK appends an entry of the next sequence number, stamped with the clock, that
snapshots the live estimate, the zone, the lift state and (with valid geometry) reach and slew; a full ring
discards its oldest entry and the new one says so; an empty ring sends LOG_PENDING. With the enable off no
entry is made. SET LOG replaces the five enables. READ LOG takes the oldest entries out of the ring, 1..4 at
a time. The reply joins the queue before LOG_PENDING (the model's choice, log 11), and an enable is carried
as 0 for on and 1 for off, a presence byte as 1 or 0 (log 12). A time taken is the clock as the command
finds it (the model's reading, log 36). -/
def Obligations.LogRequestsActOnTheRing : Prop :=
  ∀ s : State, s.serves 1 →
    (s.log.enables.mark = true → ∃ t p, exec .mark s = .next t
      ∧ p.liveEstimate = s.wen.liveEstimate ∧ p.zone = s.geo.zone ∧ p.liftState = s.ltr.state
      ∧ p.reachSlew = (if s.geo.valid then s.geo.position.map (fun x => (x.reach, x.slew)) else none)
      ∧ (let grown : Log := { s.log with
            ring := (if 128 ≤ s.log.ring.length then s.log.ring.drop 1 else s.log.ring)
              ++ [⟨s.log.nextSequence, s.log.clock, decide (128 ≤ s.log.ring.length), .mark p⟩]
            nextSequence := s.log.nextSequence + 1 }
        let answered := s.replied 0x3A .ok (1 :: u32 s.log.nextSequence.toNat)
        (s.log.ring ≠ [] → t = { answered with log := grown })
        ∧ (s.log.ring = [] → t = { answered with
            log := grown, clp := answered.clp.send (.logPending s.log.nextSequence) })))
    ∧ (s.log.enables.mark = false → exec .mark s = .next (s.replied 0x3A .ok [0]))
    ∧ (∀ f : EnableFields,
      (f.tallied ≤ 1 ∧ f.untallied ≤ 1 ∧ f.dropped ≤ 1 ∧ f.mark ≤ 1 ∧ f.system ≤ 1 →
        exec (.setLog f) s = .next { s.replied 0x3B .ok [] with log := { s.log with
          enables := ⟨f.tallied == 0, f.untallied == 0, f.dropped == 0, f.mark == 0, f.system == 0⟩ } })
      ∧ (2 ≤ f.tallied ∨ 2 ≤ f.untallied ∨ 2 ≤ f.dropped ∨ 2 ≤ f.mark ∨ 2 ≤ f.system →
        refusedWith (.setLog f) 0x3B .badValue s))
    ∧ (∀ n, n = 0 ∨ 5 ≤ n → refusedWith (.readLog n) 0x3C .badValue s)
    ∧ ∀ n, 1 ≤ n → n ≤ 4 → s.serves 3 →
      exec (.readLog n) s = .next { s.replied 0x3C .ok
          (u8 (min n s.log.ring.length) ++ u8 (s.log.ring.length - n)
            ++ (s.log.ring.take n).flatMap Entry.bytes) with
        log := { s.log with ring := s.log.ring.drop n } }

/-- SET LIMITER replaces the three settings when they lie in their ranges and makes an evaluation under them,
from the stage as it stood: figures, stage, factors (the SLEW factors by the table of R155) and pattern are
those of R147 to R157, and VDR and LIMIT_HOLD follow. A pattern already in force runs on; another begins its
cycle with its first tone, the square wave high and its half-period of P × (n + 1) / 32,768 s whole (that the
wave timer counts 1/4,096,000 s is the model's choice, log 7, and so is the row of R155 for a slew angle in both
approaches, log 14). Out of range it is refused BAD_VALUE. -/
def Obligations.LimiterSettingsAreEvaluated : Prop :=
  ∀ (x : LimiterSettings) (s : State), s.serves 1 →
    let good := x.kd ≤ 100 ∧ 100 ≤ x.dMin ∧ x.dMin ≤ 1000 ∧ 700 ≤ x.warn ∧ x.warn ≤ 950
    (good → ∃ t, exec (.setLimiter x) s = .next t ∧ t.figured ∧ t.limited s.mlm.stage
      ∧ t.mlm.limiter = x ∧ t.mlm.horn = s.mlm.horn ∧ t.vdr.sections = s.vdr.sections
      ∧ t = { s with mlm := t.mlm, vdr := t.vdr, clp := t.clp }
      ∧ (s.mlm.stage ≠ .hold → t.mlm.stage = .hold → t.mlm.lampHigh = true ∧ t.mlm.flashTimer = some 250)
      ∧ (t.mlm.pattern = s.mlm.pattern → t.mlm.segment = s.mlm.segment ∧ t.mlm.hornHigh = s.mlm.hornHigh
        ∧ t.mlm.segmentTimer = s.mlm.segmentTimer ∧ t.mlm.waveTimer = s.mlm.waveTimer)
      ∧ (t.mlm.pattern ≠ s.mlm.pattern → t.mlm.segment = 0
        ∧ (t.mlm.pattern = .derate → t.mlm.segmentTimer = some 200)
        ∧ (t.mlm.pattern = .link → t.mlm.segmentTimer = some 100)
        ∧ (t.mlm.pattern = .silent → t.mlm.hornHigh = false ∧ t.mlm.waveTimer = none)
        ∧ (t.mlm.pattern ≠ .silent → t.mlm.hornHigh = true
          ∧ t.mlm.waveTimer = some (s.mlm.horn.p * (s.mlm.horn.n + 1) * 125))))
    ∧ (¬good → refusedWith (.setLimiter x) 0x40 .badValue s)

/-- After an acquisition frame whose own evaluation comes last (the order of a frame's tasks is an operand
of the command: the model's choice, log 8), after an in-order tip sample on the tip source that leaves
TIP_STUCK not live, and after every change of the working profile by PROFILE RESTORE, MLM's figures, stage,
factors (the SLEW factors by the table of R155) and pattern are those of an evaluation of the inputs as they
then stand, from some stage before. That stage is the one before the command where the command makes one
evaluation: a frame on the tip source with no GRIP or RELEASE under way, no lift on the cylinder and no
complete window; a sample with no LIFT-OFF or DROP under way outside LIFTED; a PROFILE RESTORE that leaves
the source as it was. Which row of R155 is reported for a slew angle in both approaches is the model's
choice (log 14). -/
def Obligations.EvaluationsFollowTheirInputs : Prop :=
  (∀ (codes : PerChannel RawCode) (levels : PerLine Level) (order : FrameOrder) (s : State),
    s.powered = true → order.evaluationAt = 3 →
    ∃ t b, exec (.acquisitionFrame codes levels order) s = .next t ∧ t.figured ∧ t.limited b
      ∧ (s.sourced → s.wen.source = .tip → s.wen.liftSource ≠ some .cylinder →
        (∀ w : Window, s.wen.liftWindow = some w → w.count < w.size) → s.ltr.gripStart = none →
        s.ltr.releaseStart = none → b = s.mlm.stage))
  ∧ (∀ (s : State) (r : Byte) (c a : BitVec 16) (g x : Byte),
    s.powered = true → s.tlc.link = .up → s.tlc.sequenceRef = some r → s.sourced → s.wen.source = .tip →
    s.unstuckBy c →
    ∃ t b, exec (.dataFrame (r + 1) c a g x) s = .next t ∧ t.figured ∧ t.limited b
      ∧ (s.ltr.liftOffStart = none → s.ltr.dropStart = none → s.ltr.state ≠ .lifted → b = s.mlm.stage))
  ∧ ∀ s : State, s.serves 1 → s.sto.freeze = .opened → s.sto.write = none →
    ∃ t b, exec .profileRestore s = .next t ∧ t.figured ∧ t.limited b
      ∧ (t.wen.source = s.wen.source → b = s.mlm.stage)

/-- The horn: its square wave alternates at each half-period during a tone alone, and the next half-period
of P × (n + 1) / 32,768 s begins (that the wave timer counts 1/4,096,000 s is the model's choice, log 7); a
pattern with a cycle goes on to its next tone or silence with that one's time, the wave high with a whole
half-period at the start of each tone, and low and not running in each silence; the other two have no step.
SET HORN takes P of 1, 2, 4, 8 and n of 0..63, and during a tone restarts the wave high at the new
half-period. The lamp toggles every 250 ms in HOLD alone. A half-period outside a tone, a step of a pattern
without a cycle and a flash outside HOLD do nothing (the model's reading, log 31), and each acts whatever
time its timer has left (the model's choice, log 7). -/
def Obligations.HornAndLampFollowTheirCycles : Prop :=
  ∀ s : State, s.powered = true →
    let tone := s.mlm.pattern = .continuous ∨ (s.mlm.pattern = .derate ∧ s.mlm.segment = 0)
      ∨ (s.mlm.pattern = .link ∧ (s.mlm.segment = 0 ∨ s.mlm.segment = 2))
    let half (x : HornSettings) : Timer := some (x.p * (x.n + 1) * 125)
    let enters (n ms : Nat) (high : Bool) : Prop := exec .hornPatternStep s = .next { s with mlm := { s.mlm with
      segment := n, segmentTimer := some ms, hornHigh := high
      waveTimer := if high then half s.mlm.horn else none } }
    (s.mlm.segment < s.mlm.pattern.segments.length →
      (tone → exec .hornHalfPeriod s
        = .next { s with mlm := { s.mlm with
            hornHigh := !s.mlm.hornHigh, waveTimer := half s.mlm.horn } })
      ∧ (¬tone → exec .hornHalfPeriod s = .next s)
      ∧ (s.mlm.pattern = .continuous ∨ s.mlm.pattern = .silent → exec .hornPatternStep s = .next s)
      ∧ (s.mlm.pattern = .derate → (s.mlm.segment = 0 → enters 1 600 false)
        ∧ (s.mlm.segment = 1 → enters 0 200 true))
      ∧ (s.mlm.pattern = .link → (s.mlm.segment = 0 → enters 1 100 false)
        ∧ (s.mlm.segment = 1 → enters 2 100 true) ∧ (s.mlm.segment = 2 → enters 3 1700 false)
        ∧ (s.mlm.segment = 3 → enters 0 100 true))
      ∧ (s.serves 1 → ∀ x : HornSettings,
        ((x.p = 1 ∨ x.p = 2 ∨ x.p = 4 ∨ x.p = 8) ∧ x.n ≤ 63 →
          (tone → exec (.setHorn x) s = .next { s.replied 0x41 .ok [] with
            mlm := { s.mlm with horn := x, hornHigh := true, waveTimer := half x } })
          ∧ (¬tone → exec (.setHorn x) s = .next { s.replied 0x41 .ok [] with
            mlm := { s.mlm with horn := x } }))
        ∧ (¬((x.p = 1 ∨ x.p = 2 ∨ x.p = 4 ∨ x.p = 8) ∧ x.n ≤ 63) →
          refusedWith (.setHorn x) 0x41 .badValue s)))
    ∧ (s.mlm.stage = .hold → exec .lampFlashStep s = .next { s with
        mlm := { s.mlm with lampHigh := !s.mlm.lampHigh, flashTimer := some 250 } })
    ∧ (s.mlm.stage ≠ .hold → exec .lampFlashStep s = .next s)

/-! ## Valve drive -/

/-- At a drive update an ENABLED section whose coils do not end an open count composes its target from its
lever target and the factor of that direction (taken toward zero; ROTATE and GRAPPLE unlimited), ramps its
output toward it without passing 0, maps the output to the setpoint of its one active coil (0 within the
deadband, floored between I_min and I_max), and each setpoint to a duty code, which the coil driver takes at
the end of its group in progress: an update leaves the codes being driven. How the groups lie to the updates
is the model's choice (log 30). The update touches no other block but the condition table. -/
def Obligations.DriveUpdatesRampTheOutputs : Prop :=
  ∀ (m : CoilSamples) (s : State) (v : Section), s.powered = true →
    ∃ t, exec (.driveUpdate m) s = .next t ∧ t = { s with vdr := t.vdr, clp := t.clp }
      ∧ t.vdr = { s.vdr with sections := t.vdr.sections, driveTimer := some 10 }
      ∧ (let o := s.vdr.sections.get v
        let n := t.vdr.sections.get v
        let failsA := o.setpoint.a ≠ 0 ∧ 4 * (m.get v).a < o.setpoint.a
        let failsB := o.setpoint.b ≠ 0 ∧ 4 * (m.get v).b < o.setpoint.b
        let up : Int := o.settings.up
        let down : Int := o.settings.down
        o.coil = .enabled → (failsA → o.openCount.a < 10) → (failsB → o.openCount.b < 10) →
        n.target = o.target ∧ n.latch = o.latch ∧ n.settings = o.settings ∧ n.coil = .enabled
        ∧ n.measured = m.get v ∧ n.driven = o.driven
        ∧ (failsA → n.openCount.a = o.openCount.a + 1) ∧ (¬failsA → n.openCount.a = 0)
        ∧ (failsB → n.openCount.b = o.openCount.b + 1) ∧ (¬failsB → n.openCount.b = 0)
        ∧ (o.target = 0 ∨ v = .rotate ∨ v = .grapple → n.factor = 1000 ∧ n.composed = o.target)
        ∧ (v ≠ .rotate → v ≠ .grapple → 0 < o.target → n.factor = (s.vdr.factors.get v).positive
          ∧ n.composed = o.target * n.factor / 1000)
        ∧ (v ≠ .rotate → v ≠ .grapple → o.target < 0 → n.factor = (s.vdr.factors.get v).negative
          ∧ n.composed = -(-o.target * n.factor / 1000))
        ∧ (n.composed = o.output → n.output = o.output)
        ∧ (0 ≤ o.output → o.output < n.composed → n.output = min n.composed (o.output + up))
        ∧ (o.output ≤ 0 → n.composed < o.output → n.output = max n.composed (o.output - up))
        ∧ (0 ≤ n.composed → n.composed < o.output → n.output = max n.composed (o.output - down))
        ∧ (n.composed ≤ 0 → o.output < n.composed → n.output = min n.composed (o.output + down))
        ∧ (n.composed < 0 → 0 < o.output → n.output = max 0 (o.output - down))
        ∧ (0 < n.composed → o.output < 0 → n.output = min 0 (o.output + down))
        ∧ (let i := if n.output = 0 ∨ n.output.natAbs < o.settings.deadband then 0
            else o.settings.iMin + (n.output.natAbs - o.settings.deadband)
              * (o.settings.iMax - o.settings.iMin) / (1000 - o.settings.deadband)
          (0 < n.output → n.setpoint = ⟨i, 0⟩) ∧ (n.output ≤ 0 → n.setpoint = ⟨0, i⟩))
        ∧ isRounded ((n.setpoint.a : Int) * 255) 2000 n.duty.a
        ∧ isRounded ((n.setpoint.b : Int) * 255) 2000 n.duty.b)

/-- A section whose coil fails the open test at an update with its open count at 10 is disabled, coil A's
fault before coil B's; a current past 2,200 mA disables the section of that coil at once. A section
disabled drives nothing, its coil driver's group in progress included, counts nothing, keeps lever target and
latch, and its COIL_FAULT is live; a short leaves the other sections alone. A DISABLED section records measured
currents and nothing else, its factor in use kept (the model's reading, log 28), and takes no further fault.
Each section is driven on its own state: what a drive update leaves in a section depends on that section, its
own two factors and its own two samples, and on nothing else of the module. The coil driver drives each coil in
groups of four pulse periods, 2 ms in all, whose duties split the group's code by 4: a code handed at a drive
update waits for the start of the next group, and then takes effect. That all groups begin together, at the
start of VDR, is the model's choice (log 30). -/
def Obligations.CoilsAreDrivenAndDisabled : Prop :=
  (∀ (s : State) (v : Section), s.powered = true →
     let o := s.vdr.sections.get v
     let off (x : SectionState) (f : CoilFault) : SectionState := { x with
       coil := .disabled f, composed := 0, output := 0, setpoint := ⟨0, 0⟩, duty := ⟨0, 0⟩
       driven := ⟨0, 0⟩, openCount := ⟨0, 0⟩ }
     (∀ m : CoilSamples, ∃ t, exec (.driveUpdate m) s = .next t ∧
       (let n := t.vdr.sections.get v
       let endsA := o.setpoint.a ≠ 0 ∧ 4 * (m.get v).a < o.setpoint.a ∧ o.openCount.a = 10
       let endsB := o.setpoint.b ≠ 0 ∧ 4 * (m.get v).b < o.setpoint.b ∧ o.openCount.b = 10
       (o.coil = .enabled → endsA → n = off { o with measured := m.get v } .openA
         ∧ t.clp.isLive (.coilFault v) = true)
       ∧ (o.coil = .enabled → ¬endsA → o.openCount.a ≤ 10 → endsB →
         n = off { o with measured := m.get v } .openB ∧ t.clp.isLive (.coilFault v) = true)
       ∧ ∀ f, o.coil = .disabled f → n = { o with measured := m.get v }))
     ∧ ∀ c : Coil,
       (o.coil = .enabled → ∃ t, exec (.coilShort v c) s = .next t
         ∧ t = { s with vdr := { s.vdr with sections := t.vdr.sections }, clp := t.clp }
         ∧ t.vdr.sections.get v = off o (match c with | .a => .shortA | .b => .shortB)
         ∧ (∀ w, w ≠ v → t.vdr.sections.get w = s.vdr.sections.get w)
         ∧ t.clp.isLive (.coilFault v) = true)
       ∧ (∀ f, o.coil = .disabled f → exec (.coilShort v c) s = .next s))
  ∧ (∀ (m n : CoilSamples) (s u : State) (v : Section), s.powered = true → u.powered = true →
       s.vdr.sections.get v = u.vdr.sections.get v → s.vdr.factors.get v = u.vdr.factors.get v →
       m.get v = n.get v →
       ∃ t w, exec (.driveUpdate m) s = .next t ∧ exec (.driveUpdate n) u = .next w
         ∧ t.vdr.sections.get v = w.vdr.sections.get v)
  ∧ (∀ s : State, s.powered = true → ∃ t, exec .clockMillisecond s = .next t
       ∧ (s.vdr.groupTimer = none → t.vdr.groupTimer = none ∧ t.vdr.sections = s.vdr.sections)
       ∧ ∀ n, s.vdr.groupTimer = some n →
         (n ≤ 1 → t.vdr.groupTimer = some 2 ∧ ∀ v, t.vdr.sections.get v
           = { s.vdr.sections.get v with driven := (s.vdr.sections.get v).duty })
         ∧ (2 ≤ n → t.vdr.groupTimer = some (n - 1) ∧ t.vdr.sections = s.vdr.sections))
  ∧ ∀ (x : SectionState) (b e : Nat), e < 4 → x.driven.a = 4 * b + e →
      (e = 0 → x.pulses.1 = [b, b, b, b]) ∧ (e = 1 → x.pulses.1 = [b, b, b + 1, b])
      ∧ (e = 2 → x.pulses.1 = [b, b + 1, b, b + 1]) ∧ (e = 3 → x.pulses.1 = [b, b + 1, b + 1, b + 1])
      ∧ (x.driven.b = x.driven.a → x.pulses.2 = x.pulses.1)

/-- While the stage is HOLD, a drive update does not let the output demand of a moment-increasing direction
grow: BOOM lowering, JIB opening, TELE extending. -/
def Obligations.HoldNeverGrowsTheMoment : Prop :=
  ∀ (m : CoilSamples) (s : State), s.powered = true → s.withholds → s.mlm.stage = .hold →
    ∃ t, exec (.driveUpdate m) s = .next t
      ∧ min s.vdr.sections.boom.output 0 ≤ min t.vdr.sections.boom.output 0
      ∧ max t.vdr.sections.jib.output 0 ≤ max s.vdr.sections.jib.output 0
      ∧ max t.vdr.sections.tele.output 0 ≤ max s.vdr.sections.tele.output 0

/-- A LEVER record of six demands is taken without a reply: each demand is clamped to −1,000..1,000 and
judged against its section's neutral latch, the lever timer restarts at 150 ms and LEVER_STALE is not live;
another length is refused BAD_LENGTH. The lever timer's expiry sets every latch and zeroes every lever
target, leaves the outputs, and makes LEVER_STALE live; it does not run again until the next record. With no
lever timer running LEVER_TIMER_EXPIRY does nothing (the model's reading, log 31). An expiry acts whatever
time its timer has left (the model's choice, log 7). -/
def Obligations.LeversObeyTheNeutralLatch : Prop :=
  ∀ s : State,
    (s.dispatching = true → ∀ d : PerSection Int,
      ∃ t, exec (.lever d.toList) s = .next t
        ∧ t = { s with vdr := t.vdr, clp := t.clp }
        ∧ t.vdr = { s.vdr with sections := t.vdr.sections, leverTimer := some 150 }
        ∧ t.clp.isLive .leverStale = false
        ∧ (s.clp.isLive .leverStale = false → t.clp = s.clp)
        ∧ ∀ v : Section, ∃ x, isClamped (-1000) 1000 (d.get v) x
          ∧ (let o := s.vdr.sections.get v
            (o.latch = false → t.vdr.sections.get v = { o with target := x })
            ∧ (o.latch = true → x.natAbs ≤ 50 →
              t.vdr.sections.get v = { o with target := x, latch := false })
            ∧ (o.latch = true → 50 < x.natAbs → t.vdr.sections.get v = { o with target := 0 })))
    ∧ (s.serves 1 → ∀ l : List Int, l.length ≠ 6 → refusedWith (.lever l) 0x48 .badLength s)
    ∧ (s.powered = true → s.vdr.leverTimer.isSome = true →
      ∃ t, exec .leverTimerExpiry s = .next t ∧ t = { s with vdr := t.vdr, clp := t.clp }
        ∧ t.vdr = { s.vdr with sections := t.vdr.sections, leverTimer := none }
        ∧ t.clp.isLive .leverStale = true
        ∧ ∀ v : Section, t.vdr.sections.get v = { s.vdr.sections.get v with latch := true, target := 0 })
    ∧ (s.powered = true → s.vdr.leverTimer = none → exec .leverTimerExpiry s = .next s)

/-- SET SECTION replaces the five settings of the section named, or of all six for ALL (carried as 6: the model's choice,
log 12), when every one
lies in its range, I_min is at most I_max, and I_max is at most the cap of each section named; otherwise,
or for a section past ALL, it is refused BAD_VALUE with no setting changed. -/
def Obligations.SectionSettingsObeyTheCaps : Prop :=
  ∀ (x : SectionSettings) (s : State), s.serves 1 →
    let good := x.iMin ≤ x.iMax ∧ x.iMax ≤ 2000 ∧ x.deadband ≤ 200 ∧ 1 ≤ x.up ∧ x.up ≤ 1000
      ∧ 1 ≤ x.down ∧ x.down ≤ 1000
    (∀ v : Section,
      (good → x.iMax ≤ s.sto.working.caps.get v → exec (.setSection v.code x) s
        = .next { s.replied 0x49 .ok [] with vdr := { s.vdr with
            sections := s.vdr.sections.set v { s.vdr.sections.get v with settings := x } } })
      ∧ (¬good ∨ s.sto.working.caps.get v < x.iMax →
        refusedWith (.setSection v.code x) 0x49 .badValue s))
    ∧ (good → (∀ v, x.iMax ≤ s.sto.working.caps.get v) →
      ∃ t, exec (.setSection 6 x) s = .next t
        ∧ t = { s.replied 0x49 .ok [] with vdr := { s.vdr with sections := t.vdr.sections } }
        ∧ ∀ v, t.vdr.sections.get v = { s.vdr.sections.get v with settings := x })
    ∧ (¬good ∨ (∃ v, s.sto.working.caps.get v < x.iMax) → refusedWith (.setSection 6 x) 0x49 .badValue s)
    ∧ ∀ n, 7 ≤ n → refusedWith (.setSection n x) 0x49 .badValue s

/-! ## Profile, store and resets -/

/-- PROFILE SET is judged in the order of R188: a mask naming no field, or a named value outside its range,
BAD_VALUE; FROZEN; BUSY. Taken, it gives each named field a value at most its factory value, ignores any
other, hands the profile on (PAYLOAD, the source and the section currents follow it), is answered ACCEPTED
with the ignored fields and begins a write of the profile as changed. Bit i of the mask names the i-th field of
R186's table, and the ignored fields are a mask of two bytes with the same bits, one for each named field above
its factory value: the model's choices (log 13). So is the row of R155 that the
limiter reports for a slew angle in both approaches (log 14). -/
def Obligations.ProfileSetStaysWithinFactory : Prop :=
  ∀ (mask : Nat) (f : ProfileFields) (s : State), s.serves 1 →
    let names (i : Nat) : Prop := mask.testBit i = true
    let good := (∃ i, i < 10 ∧ names i) ∧ (names 0 → f.mBase ≤ 65535) ∧ (names 1 → f.tilt ≤ 450)
      ∧ (names 2 → f.fallback ≤ 1) ∧ (names 3 → f.payload ≤ 960000)
      ∧ ∀ v : Section, names (4 + v.code) → f.caps.get v ≤ 2000
    (¬good → refusedWith (.profileSet mask f) 0x51 .badValue s)
    ∧ (good → s.sto.freeze = .frozen → refusedWith (.profileSet mask f) 0x51 .frozen s)
    ∧ (good → s.sto.freeze = .opened → s.sto.write.isSome = true →
      refusedWith (.profileSet mask f) 0x51 .busy s)
    ∧ (good → s.sto.freeze = .opened → s.sto.write = none →
      ∃ t b, exec (.profileSet mask f) s = .next t
        ∧ t.sto = { s.sto with working := t.sto.working, write := some (.profile .set t.sto.working) }
        ∧ (names 0 → f.mBase ≤ 11000 → t.sto.working.mBase = f.mBase)
        ∧ (¬names 0 ∨ 11000 < f.mBase → t.sto.working.mBase = s.sto.working.mBase)
        ∧ (names 1 → f.tilt ≤ 250 → t.sto.working.tilt = f.tilt)
        ∧ (¬names 1 ∨ 250 < f.tilt → t.sto.working.tilt = s.sto.working.tilt)
        ∧ (names 2 → (t.sto.working.fallback = true ↔ f.fallback = 0))
        ∧ (¬names 2 → t.sto.working.fallback = s.sto.working.fallback)
        ∧ (names 3 → f.payload ≤ 16000 → t.sto.working.payload = f.payload)
        ∧ (¬names 3 ∨ 16000 < f.payload → t.sto.working.payload = s.sto.working.payload)
        ∧ (∀ v : Section,
          (names (4 + v.code) → t.sto.working.caps.get v = f.caps.get v)
          ∧ (¬names (4 + v.code) → t.sto.working.caps.get v = s.sto.working.caps.get v)
          ∧ (let o := (s.vdr.sections.get v).settings
            (t.vdr.sections.get v).settings = { o with
              iMax := min o.iMax (t.sto.working.caps.get v)
              iMin := min o.iMin (min o.iMax (t.sto.working.caps.get v)) }))
        ∧ t.payloadCondition ∧ t.wen.source = judgedSource t ∧ t.figured ∧ t.limited b
        ∧ t.iau = s.iau ∧ t.tlc = s.tlc ∧ t.geo = s.geo ∧ t.tal = s.tal ∧ t.log = s.log
        ∧ ∃ ignored : Nat, .reply 0x51 .accepted 0 true (u16 ignored) ∈ t.clp.queue
          ∧ ∀ i, ignored.testBit i = true ↔ names i
            ∧ ((i = 0 ∧ 11000 < f.mBase) ∨ (i = 1 ∧ 250 < f.tilt) ∨ (i = 3 ∧ 16000 < f.payload)))

/-- PROFILE RESTORE makes the working profile the factory profile, hands it on and writes it; PROFILE FREEZE
freezes the working profile as it stands and writes it. Both are refused FROZEN, then BUSY. From a PROFILE
FREEZE until the next POWER-ON the working profile does not change, whatever command is taken, and the
freeze state stays FROZEN; a loss of supply ends the module's service and not the freeze. -/
def Obligations.ProfileRestoreAndFreeze : Prop :=
  (∀ s : State, s.serves 1 →
     (s.sto.freeze = .frozen → refusedWith .profileRestore 0x52 .frozen s
       ∧ refusedWith .profileFreeze 0x53 .frozen s)
     ∧ (s.sto.freeze = .opened → s.sto.write.isSome = true → refusedWith .profileRestore 0x52 .busy s
       ∧ refusedWith .profileFreeze 0x53 .busy s)
     ∧ (s.sto.freeze = .opened → s.sto.write = none →
       (∃ t, exec .profileRestore s = .next t
         ∧ t.sto = { s.sto with
             working := ⟨11000, 250, true, 16000, .all 2000⟩
             write := some (.profile .restore ⟨11000, 250, true, 16000, .all 2000⟩) }
         ∧ t.payloadCondition ∧ t.wen.source = judgedSource t
         ∧ (∀ v, (t.vdr.sections.get v).settings.iMax = min (s.vdr.sections.get v).settings.iMax 2000)
         ∧ .reply 0x52 .accepted 0 true [] ∈ t.clp.queue)
       ∧ exec .profileFreeze s = .next { s.replied 0x53 .accepted [] with
           sto := { s.sto with
             freeze := .frozen, write := some (.profile .freeze s.sto.working) } }))
  ∧ (∀ (s t : State), s.sto.freeze = .frozen → step s = .next t →
       (∀ m rest, s.pending ≠ .powerOn m :: rest) →
       t.sto.working = s.sto.working ∧ t.sto.freeze = .frozen)

/-- SAVE SETTINGS copies the settings of every block and the calibration as they stand and begins a write of
two parts, settings first; it is refused BUSY during a write. Each part writes its record with its own
signature and a sum of 0 and leaves the other records; STORE_DONE, with the kind of the request, follows the
last, or is lost and counted behind 32 frames or more, the one being sent among them (the model's reading,
log 18). With no write in flight STORE_WRITE_PART does nothing (the model's reading, log 31). A loss of
supply leaves the module without supply and keeps the store: with no write in flight as it is, and during a
write with the record whose part was in progress unreadable and the others as they are. The form of a record
and of an unreadable slot is the model's choice (log 27), as are the other fields of a module without supply
(log 34). -/
def Obligations.StoreWritesRunByParts : Prop :=
  (∀ s : State,
     let told (k : WriteKind) (x : Sto) : Prop :=
       (s.clp.queue.length < 32 → exec .storeWritePart s = .next { s with
         sto := x, clp := { s.clp with queue := s.clp.queue ++ [.notice (.storeDone k)] } })
       ∧ (32 ≤ s.clp.queue.length → exec .storeWritePart s = .next { s with
         sto := x, clp := { s.clp with lost := min 255 (s.clp.lost + 1) } })
     (s.serves 1 →
       (s.sto.write.isSome = true → refusedWith .saveSettings 0x50 .busy s)
       ∧ (s.sto.write = none → ∃ r : SettingsRecord,
         exec .saveSettings s = .next { s.replied 0x50 .accepted [] with
           sto := { s.sto with write := some (.save r s.wen.calibration .settings) } }
         ∧ r.geometry = s.geo.geometry ∧ r.zones = s.geo.zones ∧ r.tip = s.tlc.settings
         ∧ r.weigh = s.wen.settings ∧ r.lift = s.ltr.settings ∧ r.labels = s.tal.labels
         ∧ r.target = s.tal.target ∧ r.enables = s.log.enables ∧ r.limiter = s.mlm.limiter
         ∧ r.horn = s.mlm.horn ∧ r.cab = s.clp.settings
         ∧ (∀ c, r.channels.get c = (s.iau.channels.get c).settings)
         ∧ (∀ l, r.lines.get l = (s.iau.lines.get l).settings)
         ∧ ∀ v, r.sections.get v = (s.vdr.sections.get v).settings))
     ∧ (s.powered = true →
       (s.sto.write = none → exec .storeWritePart s = .next s)
       ∧ (∀ r c, s.sto.write = some (.save r c .settings) →
         exec .storeWritePart s = .next { s with sto := { s.sto with
           settingsSlot := .record r (some .settings) 0, write := some (.save r c .calibration) } })
       ∧ (∀ r c, s.sto.write = some (.save r c .calibration) → told .saveSettings { s.sto with
           calibrationSlot := .record c (some .calibration) 0, write := none })
       ∧ ∀ k p, s.sto.write = some (.profile k p) →
         told (match k with
             | .set => .profileSet | .restore => .profileRestore | .freeze => .profileFreeze)
           { s.sto with profileSlot := .record p (some .profile) 0, write := none }))
  ∧ (∀ s : State, s.powered = true → ∃ t, exec .lossOfSupply s = .next t
       ∧ t.powered = false ∧ t.pending = s.pending ∧ t.sto.write = none ∧ t.tal.load = none
       ∧ t.log.ring = [] ∧ t.clp.queue = []
       ∧ (s.sto.write = none → t.sto = s.sto)
       ∧ (∀ r c, s.sto.write = some (.save r c .settings) →
         t.sto = { s.sto with settingsSlot := .unreadable, write := none })
       ∧ (∀ r c, s.sto.write = some (.save r c .calibration) →
         t.sto = { s.sto with calibrationSlot := .unreadable, write := none })
       ∧ ∀ k p, s.sto.write = some (.profile k p) →
         t.sto = { s.sto with profileSlot := .unreadable, write := none })

/-- Settings saved come back: a SAVE SETTINGS whose two parts have been written, then a loss of supply and a
POWER-ON, leaves every block that is started with the settings and the calibration it had at the save, when
those pass the record check, with the current settings brought within the caps; and the load report says
PASSED for both. The form of a record is the model's choice (log 27). -/
def Obligations.SavedSettingsComeBack : Prop :=
  ∀ (m : CoilSamples) (s : State), s.serves 1 → s.sto.write = none → s.clp.queue.length ≤ 30 →
    (currentSettings s).accepted = true → s.wen.calibration.accepted = true →
    ∃ a b c d t, exec .saveSettings s = .next a ∧ exec .storeWritePart a = .next b
      ∧ exec .storeWritePart b = .next c ∧ exec .lossOfSupply c = .next d ∧ exec (.powerOn m) d = .next t
      ∧ t.sto.report.settings = .passed ∧ t.sto.report.calibration = .passed
      ∧ t.wen.calibration = s.wen.calibration
      ∧ (∀ ch, (t.iau.channels.get ch).settings = (s.iau.channels.get ch).settings)
      ∧ (∀ l, (t.iau.lines.get l).settings = (s.iau.lines.get l).settings)
      ∧ t.tlc.settings = s.tlc.settings ∧ t.geo.geometry = s.geo.geometry ∧ t.geo.zones = s.geo.zones
      ∧ t.wen.settings = s.wen.settings ∧ t.ltr.settings = s.ltr.settings ∧ t.tal.labels = s.tal.labels
      ∧ t.tal.target = s.tal.target ∧ t.log.enables = s.log.enables ∧ t.mlm.limiter = s.mlm.limiter
      ∧ t.mlm.horn = s.mlm.horn ∧ t.clp.settings = s.clp.settings
      ∧ ∀ v, (t.vdr.sections.get v).settings
        = withinCap (t.sto.working.caps.get v) (s.vdr.sections.get v).settings

/-- POWER-ON loads the store: a record that passes its check comes into force, the section currents within
the working caps, and one that fails its check, cannot be read, or was being written gives the factory
profile, the defaults of every block or the default calibration, with STORE_INVALID latched; TALLY_LOST is
latched. Every block is brought into service in its POWER-ON state with its schedules running, every output
is 0 with every latch set, the freeze state is OPEN, and STARTED is the only frame in the queue. A record's
form and the unreadable slot are the model's choice (log 27). STARTED counts as sent when it joins the queue
(log 19), and a POWER-ON with supply is a loss of supply first (log 21): the model's reading and its choice.
The start-up is one step in which no time passes, so that the clock stands at 0 and every timer at its whole
time (log 20); the coil driver's group begins whole at the start of VDR, with 2 ms left (log 30); and the
command carries the currents that the first drive update measures (log 10): the model's choices. -/
def Obligations.PowerOnStartsEveryBlock : Prop :=
  ∀ (m : CoilSamples) (s : State), ∃ t b, exec (.powerOn m) s = .next t
    ∧ (let ended := s.sto.write = none
      let factory := t.sto.working = ⟨11000, 250, true, 16000, .all 2000⟩ ∧ t.sto.report.profile = .failed
      let uncalibrated := t.sto.report.calibration = .failed ∧ t.wen.calibration
        = ⟨0, false, 1, false, 0, 0, 20, 0, 0, Vector.replicate 8 ⟨0, false, 1, false⟩⟩
      let defaults := t.sto.report.settings = .failed
        ∧ (∀ c : Channel, (t.iau.channels.get c).settings = ⟨200, c.range.1, 3895, c.range.2, 200, 3895⟩)
        ∧ (∀ l : Line, (t.iau.lines.get l).settings = ⟨.input, .rising⟩)
        ∧ t.tlc.settings = ⟨.auto, .lenient⟩ ∧ t.geo.geometry = ⟨5000, 4200, 2000, 1800⟩
        ∧ t.geo.zones = ⟨1200, 2400, 1000, 6500, 3300, 300, 2500⟩
        ∧ t.wen.settings = ⟨50, 300, 32, 150, 20, 2000, true, 250⟩
        ∧ t.ltr.settings = ⟨9000, 4000, 200, 150, 300, 150, 300, 200⟩
        ∧ t.tal.labels[0] = [0x55, 0x4E, 0x53, 0x4F, 0x52, 0x54, 0x45, 0x44]
        ∧ (∀ i : Fin 16, i ≠ 0 → t.tal.labels[i] = [])
        ∧ t.tal.target = ⟨false, false, false, 1, 1, 0, 1⟩
        ∧ t.log.enables = ⟨true, false, true, true, true⟩ ∧ t.mlm.limiter = ⟨30, 300, 850⟩
        ∧ t.mlm.horn = ⟨4, 9⟩ ∧ t.clp.settings = ⟨.ms100, Vector.replicate 30 .rise⟩
        ∧ ∀ v : Section, let cap := t.sto.working.caps.get v
          (t.vdr.sections.get v).settings = ⟨min 300 (min 1200 cap), min 1200 cap, 20, 50, 100⟩
      (∀ p sig sum, ended → s.sto.profileSlot = .record p sig sum →
        (sum = 0 → sig = some .profile → p.withinFactory = true →
          t.sto.working = p ∧ t.sto.report.profile = .passed)
        ∧ (sum ≠ 0 ∨ sig ≠ some .profile ∨ p.withinFactory = false → factory))
      ∧ (s.sto.profileSlot = .unreadable ∨ (∃ k p, s.sto.write = some (.profile k p)) → factory)
      ∧ (∀ r sig sum, ended → s.sto.settingsSlot = .record r sig sum →
        (sum = 0 → sig = some .settings → r.accepted = true →
          t.settledOn r ∧ t.sto.report.settings = .passed)
        ∧ (sum ≠ 0 ∨ sig ≠ some .settings ∨ r.accepted = false → defaults))
      ∧ (s.sto.settingsSlot = .unreadable ∨ (∃ r c, s.sto.write = some (.save r c .settings)) → defaults)
      ∧ (∀ c sig sum, ended → s.sto.calibrationSlot = .record c sig sum →
        (sum = 0 → sig = some .calibration → c.accepted = true →
          t.wen.calibration = c ∧ t.sto.report.calibration = .passed)
        ∧ (sum ≠ 0 ∨ sig ≠ some .calibration ∨ c.accepted = false → uncalibrated))
      ∧ (s.sto.calibrationSlot = .unreadable ∨ (∃ r c, s.sto.write = some (.save r c .calibration)) →
        uncalibrated))
    ∧ t.powered = true ∧ t.pending = s.pending
    ∧ t.sto.freeze = .opened ∧ t.sto.write = none
    ∧ t.clp.isLatched .tallyLost = true
    ∧ (t.clp.isLatched .storeInvalid = true ↔ t.sto.report ≠ ⟨.passed, .passed, .passed⟩)
    ∧ t.log.clock = ⟨0, 0⟩ ∧ t.log.ring = [] ∧ t.log.nextSequence = 1
    ∧ t.tal.load = none ∧ t.tal.nextNumber = 1 ∧ t.tal.history = [] ∧ t.tal.selected = 0
    ∧ t.tal.commandedHold = false ∧ t.ltr.state = .idle ∧ t.ltr.number = 0 ∧ t.wen.zeroOffset = 0
    ∧ t.wen.k = 1000000 ∧ t.wen.capture = none ∧ t.iau.frameTimer = some 10
    ∧ t.tlc.link = .hailing ∧ t.tlc.hailCount = 1 ∧ t.tlc.sent = some .hail ∧ t.tlc.errorCounter = 0
    ∧ t.figured ∧ t.limited b ∧ t.payloadCondition ∧ t.sourced ∧ t.noCalCondition
    ∧ (∀ v, (t.vdr.sections.get v).output = 0 ∧ (t.vdr.sections.get v).latch = true
      ∧ (t.vdr.sections.get v).setpoint = ⟨0, 0⟩ ∧ (t.vdr.sections.get v).measured = m.get v
      ∧ (t.vdr.sections.get v).duty = ⟨0, 0⟩ ∧ (t.vdr.sections.get v).driven = ⟨0, 0⟩)
    ∧ t.vdr.leverTimer = some 150 ∧ t.vdr.groupTimer = some 2 ∧ t.clp.started = true ∧ t.clp.lost = 0
    ∧ t.clp.liveTimer = t.clp.settings.period.timer
    ∧ t.clp.queue = [.notice (.started .powerOn (t.clp.isLatched .storeInvalid) t.sto.report .opened)]

/-- RESTART is refused BUSY during a store write; otherwise it is answered OK and nothing is dispatched from
then on. RESTART_PERFORMED then restarts the module: the store, the clock, the log, the tally, the
calibration, z, the lift number and every setting are kept, the lift and the capture end without a record,
every latch that no start-up sets is cleared, and STARTED is the only frame in the queue. Without a RESTART
answered it does nothing, and after one it acts whatever frames still wait ahead of the reply (the model's
reading, log 22). STARTED counts as sent when it joins the queue (the model's reading, log 19). That no time
passes in the start-up (log 20) and that the command carries the currents of its first drive update (log 10)
are the model's choices. -/
def Obligations.RestartKeepsWhatIsKept : Prop :=
  ∀ (m : CoilSamples) (s : State),
    (s.serves 1 →
      (s.sto.write.isSome = true → refusedWith .restart 0x5B .busy s)
      ∧ (s.sto.write = none → ∃ t, exec .restart s = .next t ∧ t.dispatching = false
        ∧ t = { s with clp := { s.clp with
            queue := s.clp.queue ++ [.reply 0x5B .ok 0 true []], restarting := true } }))
    ∧ (s.powered = true → s.clp.restarting = false → exec (.restartPerformed m) s = .next s)
    ∧ (s.powered = true → s.clp.restarting = true → ∃ t b, exec (.restartPerformed m) s = .next t
      ∧ t.powered = true ∧ t.sto = s.sto ∧ t.log = s.log
      ∧ t.tal = { s.tal with switchClosed := false }
      ∧ t.wen.calibration = s.wen.calibration ∧ t.wen.zeroOffset = s.wen.zeroOffset
      ∧ t.wen.settings = s.wen.settings ∧ t.wen.capture = none ∧ t.wen.k = 1000000
      ∧ t.ltr.number = s.ltr.number ∧ t.ltr.settings = s.ltr.settings ∧ t.ltr.state = .idle
      ∧ t.ltr.result = none ∧ t.tlc.settings = s.tlc.settings ∧ t.tlc.errorCounter = 0
      ∧ t.tlc.link = .hailing ∧ t.tlc.hailCount = 1
      ∧ t.geo.geometry = s.geo.geometry ∧ t.geo.zones = s.geo.zones ∧ t.geo.valid = false
      ∧ t.mlm.limiter = s.mlm.limiter ∧ t.mlm.horn = s.mlm.horn ∧ t.figured ∧ t.limited b
      ∧ (∀ c, (t.iau.channels.get c).settings = (s.iau.channels.get c).settings
        ∧ (t.iau.channels.get c).status = .none ∧ (t.iau.channels.get c).raw = none)
      ∧ (∀ l, (t.iau.lines.get l).settings = (s.iau.lines.get l).settings
        ∧ (t.iau.lines.get l).written = .low ∧ (t.iau.lines.get l).debounced = none)
      ∧ (∀ v, (t.vdr.sections.get v).settings
          = withinCap (s.sto.working.caps.get v) (s.vdr.sections.get v).settings
        ∧ (t.vdr.sections.get v).output = 0 ∧ (t.vdr.sections.get v).latch = true
        ∧ (t.vdr.sections.get v).coil = .enabled)
      ∧ t.clp.settings = s.clp.settings ∧ t.clp.receiver = .idle ∧ t.clp.lost = 0
      ∧ t.clp.latched = t.clp.live ∧ t.clp.restarting = false
      ∧ t.clp.queue = [.notice (.started .restart false s.sto.report s.sto.freeze)])

/-! ## Cab line -/

/-- CLEAR CONDITIONS re-enables every DISABLED section whatever its mask (neutral latch set, lever target 0,
COIL_FAULT not live) and leaves the others; then it clears each latch its mask names whose live state is not
set, and no other. A mask with bit 30 or 31 set is refused BAD_VALUE. READ CONDITIONS sets the lost-notice
count to 0. SET CAB LINE replaces the period and the 30 notice modes when every one names a value, and
restarts the live report timer at the new period when the period changes, OFF stopping it; otherwise it is
refused BAD_VALUE. Its other length is refused BAD_LENGTH. The period is carried as a number 0..4 for OFF,
50, 100, 200 and 500 ms: the model's choice (log 12). That the live and latched masks take four bytes each,
in the bit order of the request's mask, is the model's reading (log 26). -/
def Obligations.ConditionRequestsActOnTheLatches : Prop :=
  (∀ s : State, s.serves 1 →
     (∀ mask : BitVec 32, mask.toNat < 2 ^ 30 → ∃ t, exec (.clearConditions mask) s = .next t
       ∧ t = { s with vdr := { s.vdr with sections := t.vdr.sections }, clp := t.clp }
       ∧ .reply 0x58 .ok 0 true (u32 t.clp.live.toNat ++ u32 t.clp.latched.toNat) ∈ t.clp.queue
       ∧ (∀ v f, (s.vdr.sections.get v).coil = .disabled f →
         t.vdr.sections.get v = { s.vdr.sections.get v with
           coil := .enabled, latch := true, target := 0, openCount := ⟨0, 0⟩ }
         ∧ t.clp.isLive (.coilFault v) = false)
       ∧ (∀ v, (s.vdr.sections.get v).coil = .enabled → t.vdr.sections.get v = s.vdr.sections.get v
         ∧ t.clp.isLive (.coilFault v) = s.clp.isLive (.coilFault v))
       ∧ (∀ d : Condition, (∀ v, d ≠ .coilFault v) → t.clp.isLive d = s.clp.isLive d)
       ∧ ∀ d : Condition, t.clp.isLatched d
         = (s.clp.isLatched d && (!mask.getLsbD d.index.val || t.clp.isLive d)))
     ∧ (∀ mask : BitVec 32, 2 ^ 30 ≤ mask.toNat → refusedWith (.clearConditions mask) 0x58 .badValue s)
     ∧ exec .readConditions s = .next { s with clp := { s.clp with
         lost := 0
         queue := s.clp.queue ++ replyFrames 0x59 .ok (u32 s.clp.live.toNat ++ u32 s.clp.latched.toNat
           ++ (s.clp.settings.modes.toList.flatMap fun m => u8 m.code)
           ++ u8 s.clp.settings.period.code ++ u8 s.clp.lost) } })
  ∧ (∀ (p : LivePeriod) (modes : Vector NoticeMode 30) (s : State), s.serves 1 →
       exec (.setCabLine p.code (modes.toList.map NoticeMode.code)) s
         = .next { s.replied 0x5A .ok [] with clp := { (s.replied 0x5A .ok []).clp with
             settings := ⟨p, modes⟩
             liveTimer := if p = s.clp.settings.period then s.clp.liveTimer else p.timer } }
       ∧ (∀ (n : Nat) (ms : List Nat), ms.length = 30 → 5 ≤ n ∨ (∃ x ∈ ms, 3 ≤ x) →
         refusedWith (.setCabLine n ms) 0x5A .badValue s)
       ∧ ∀ (n : Nat) (ms : List Nat), ms.length ≠ 30 → refusedWith (.setCabLine n ms) 0x5A .badLength s)

/-- A live state that becomes set latches its condition and sends a CONDITION notice under RISE and BOTH;
one that becomes not set sends one under BOTH alone and leaves the latch; one that does not change does
nothing; a latch-only condition sends one with the value 2 at each latching unless its mode is OFF. Before
STARTED none is sent. Behind 32 frames or more, the one being sent among them, the notice is lost and
counted; that the frame being sent counts as waiting is the model's reading (log 18). -/
def Obligations.ConditionChangesAreNoticed : Prop :=
  ∀ (c : Clp) (d : Condition),
    let sent (x : Clp) (v : Nat) (l : Bool) : Prop := x.queue = c.queue ++ [.notice (.condition d.index v l)]
    let rises := c.setLive d true
    let falls := c.setLive d false
    let latches := c.latch d
    rises.isLive d = true ∧ falls.isLive d = false
    ∧ (∀ e, e ≠ d → rises.isLive e = c.isLive e ∧ falls.isLive e = c.isLive e
      ∧ rises.isLatched e = c.isLatched e ∧ falls.isLatched e = c.isLatched e
      ∧ latches.isLatched e = c.isLatched e)
    ∧ latches.isLatched d = true ∧ latches.live = c.live ∧ falls.latched = c.latched
    ∧ (c.isLive d = true → rises = c) ∧ (c.isLive d = false → falls = c)
    ∧ (c.isLive d = false → rises.isLatched d = true)
    ∧ (c.queue.length < 32 →
      (c.isLive d = false → c.started = true → c.mode d ≠ .off → sent rises 1 true)
      ∧ (c.isLive d = true → c.started = true → c.mode d = .both → sent falls 0 (c.isLatched d))
      ∧ (c.started = true → c.mode d ≠ .off → sent latches 2 true))
    ∧ (32 ≤ c.queue.length →
      let missed (x : Clp) : Prop := x.queue = c.queue ∧ x.lost = min 255 (c.lost + 1)
      (c.isLive d = false → c.started = true → c.mode d ≠ .off → missed rises)
      ∧ (c.isLive d = true → c.started = true → c.mode d = .both → missed falls)
      ∧ (c.started = true → c.mode d ≠ .off → missed latches))
    ∧ (c.started = false ∨ c.mode d = .off →
      rises.queue = c.queue ∧ falls.queue = c.queue ∧ latches.queue = c.queue)
    ∧ (c.mode d = .rise → falls.queue = c.queue)

/-- The read requests of every block are answered OK with their data and change nothing else; each reply's bytes
are written out field by field. READ CHANNEL and READ SECTION refuse an index past their last BAD_VALUE, as
READ ASSORTMENT and READ LOAD HISTORY do; a position at or past the summaries held is refused STATE. How a
mark, a flag, the tilt test's result, an enable, a zone, a label and the like are coded is the model's choice (log 12), as are the
order of the bands' values and marks in READ WEIGH (log 26), the row of R155 for a slew angle in both approaches (log 14) and the two constants of IDENTIFY (log 3). -/
def Obligations.ReadsChangeNothing : Prop :=
  ∃ revision serial : Nat, 1 ≤ revision ∧ revision ≤ 255 ∧ 1 ≤ serial ∧ serial ≤ 4294967295
  ∧ ∀ s : State, s.serves 16 →
    let reports (i : Instr) (k : Byte) (data : List Byte) : Prop := exec i s = .next (s.replied k .ok data)
    let onOff (b : Bool) : List Byte := u8 (if b then 0 else 1)
    let line (l : Line) : List Byte :=
      let x := s.iau.lines.get l
      u8 x.settings.mode.code ++ u8 x.settings.edge.code ++ u8 x.written.code
        ++ opt (fun y : Level => u8 y.code) x.sampled ++ opt (fun y : Level => u8 y.code) x.debounced
        ++ flag x.candidate.isSome
    (∀ c : Channel, let x := s.iau.channels.get c
      reports (.readChannel c.code) 0x02 (opt (fun r : RawCode => u16 r.val) x.raw ++ u8 x.status.code
        ++ opt i16 x.value ++ opt (fun r : RawCode => u16 r.val) x.lastGood
        ++ flag (s.clp.isLive (.sensorFault c)) ++ u16 x.settings.rawLo ++ i16 x.settings.valueLo
        ++ u16 x.settings.rawHi ++ i16 x.settings.valueHi ++ u16 x.settings.bandLo
        ++ u16 x.settings.bandHi))
    ∧ (∀ n, 9 ≤ n → refusedWith (.readChannel n) 0x02 .badValue s)
    ∧ reports .readLines 0x05 (line .dl0 ++ line .dl1 ++ line .dl2
        ++ flag (s.iau.lines.dl2.settings.mode == .function && s.iau.lines.dl2.debounced == some .low)
        ++ line .dl3)
    ∧ reports .readTipLink 0x0A (u8 s.tlc.link.code ++ u8 s.tlc.rate ++ u8 s.tlc.hailCount
        ++ u16 s.tlc.errorCounter ++ u16 s.tlc.reportValue ++ flag (s.clp.isLive .tipErrOverflow)
        ++ u16 s.tlc.noiseCount ++ u16 s.tlc.stuckCount ++ flag (s.clp.isLive .tipStuck)
        ++ u8 s.tlc.settings.errorMode.code ++ u8 s.tlc.settings.stuckRule.code
        ++ opt (fun x : TipSample × Byte => u16 x.1.force ++ u16 x.1.swing ++ i8 x.1.temperature
          ++ flag x.1.overrange ++ [x.2]) s.tlc.lastSample)
    ∧ (let g := s.geo
      reports .readGeometry 0x12 (flag g.valid ++ flag (s.clp.isLive .geometryInvalid)
        ++ opt u16 (g.position.map Position.slew) ++ opt u16 (g.position.map Position.reach)
        ++ opt i16 (g.position.map Position.height) ++ opt u16 (g.position.map Position.extension)
        ++ opt i16 (g.position.map Position.direction) ++ opt i16 g.tau ++ opt u16 g.tilt
        ++ u8 g.rawZone.code ++ u8 g.zone.code
        ++ opt (fun c : ZoneCandidate => u8 c.zone.code ++ u8 c.count) g.candidate
        ++ u16 g.geometry.l1 ++ u16 g.geometry.l2 ++ u16 g.geometry.h0 ++ u16 g.geometry.eMax
        ++ u16 g.zones.bunkFrom ++ u16 g.zones.bunkTo ++ u16 g.zones.bunkMin ++ u16 g.zones.bunkMax
        ++ u16 g.zones.cabFrom ++ u16 g.zones.cabTo ++ u16 g.zones.cabRadius))
    ∧ (let w := s.wen
      let c := w.calibration
      let x := w.settings
      reports .readWeigh 0x1A (u8 w.source.code ++ opt (fun y : Source => u8 y.code) w.liftSource
        ++ opt i32 w.liveEstimate ++ u8 w.history.length ++ u32 w.k.toNat ++ opt i8 w.latestTemperature
        ++ i16 w.zeroOffset ++ opt (fun y : Window => u8 y.count) w.emptyWindow
        ++ u16 c.zero ++ flag c.zeroValid ++ u16 c.span ++ flag c.spanValid ++ u16 c.tare ++ i16 c.kt
        ++ i8 c.tref ++ u16 c.areaHead ++ u16 c.areaRod
        ++ (c.bands.toList.flatMap fun b =>
          i32 b.emptyForce ++ flag b.emptyCaptured ++ u16 b.gain ++ flag b.gainCaptured)
        ++ opt (fun y : Capture => u8 y.kind.code ++ opt (fun b : Fin 8 => u8 b.val) y.band ++ u8 y.count)
          w.capture
        ++ opt (fun y : Window => u8 y.source.code ++ u8 y.size ++ u8 y.count ++ opt i32 y.low
          ++ opt i32 y.high) w.liftWindow
        ++ u16 x.swing ++ u16 x.jitter ++ u8 x.windowSize ++ u16 x.spread ++ u8 x.minLift
        ++ u16 x.period ++ onOff x.autoZero ++ u16 x.tracking ++ flag (s.clp.isLive .noCal)
        ++ flag (s.clp.isLive .zeroDrift) ++ flag (s.clp.isLive .tipOverrange)))
    ∧ (let l := s.ltr
      let x := l.settings
      reports .readLift 0x21 (u8 l.state.code ++ u32 l.number.toNat ++ opt stampBytes l.gripTime
        ++ opt stampBytes l.liftOffTime ++ opt (fun z : Zone => u8 z.code) l.fromZone
        ++ opt (fun y : Source => u8 y.code) l.source
        ++ opt (fun r : LiftResult => i32 r.net ++ i16 r.mass ++ u8 r.quality.code ++ flag r.empty)
          l.result
        ++ flag (l.state == .idle) ++ opt stampBytes l.gripStart
        ++ flag (l.state != .idle) ++ opt stampBytes l.releaseStart
        ++ flag (l.state == .gripped) ++ opt stampBytes l.liftOffStart
        ++ flag (l.state == .lifted || l.state == .weighed) ++ opt stampBytes l.dropStart
        ++ u16 x.gripThreshold ++ u16 x.releaseThreshold ++ u16 x.gripTime ++ u16 x.releaseTime
        ++ u16 x.liftOffThreshold ++ u16 x.dropThreshold ++ u16 x.liftOffTime ++ u16 x.dropTime))
    ∧ (let a := s.tal
      let g := a.target
      let record : List Byte := match a.load with
        | none => u8 1
        | some l => u8 0 ++ u16 l.number ++ stampBytes l.openTime ++ u32 l.total ++ u16 l.loadedLifts
            ++ u16 l.unloadedLifts ++ flag l.targetReached ++ flag l.saturated
      reports .readLoad 0x2E (record ++ u16 a.nextNumber ++ u8 a.selected.val ++ onOff a.commandedHold
        ++ flag a.switchClosed ++ flag (a.commandedHold || a.switchClosed) ++ onOff g.totalOn
        ++ onOff g.liftsOn ++ onOff g.assortmentOn ++ u32 g.total ++ u16 g.lifts ++ u8 g.index.val
        ++ u16 g.mass ++ flag (s.clp.isLive .payload) ++ u8 a.history.length))
    ∧ (s.tal.labelled → ∀ i : Fin 16, reports (.readAssortment i.val) 0x2F (u8 i.val ++ u8 s.tal.labels[i].length
        ++ s.tal.labels[i] ++ flag (s.tal.selected == i) ++ u16 (s.tal.figuresOf i).mass
        ++ u16 (s.tal.figuresOf i).lifts ++ u16 (s.tal.figuresOf i).unweighed))
    ∧ (∀ n, 16 ≤ n → refusedWith (.readAssortment n) 0x2F .badValue s)
    ∧ (∀ (n m : Nat) (x : Summary), n ≤ 7 → m ≤ 15 → s.tal.history[n]? = some x →
      reports (.readLoadHistory n m) 0x30 (u8 s.tal.history.length ++ u16 x.number ++ stampBytes x.openTime
        ++ stampBytes x.closeTime ++ u8 x.reason.code ++ u32 x.total ++ u16 x.loadedLifts
        ++ u16 x.unloadedLifts ++ flag x.saturated ++ u8 x.pairs.length
        ++ ((x.pairs.drop m).take 6).flatMap fun p => u8 p.index ++ u16 p.mass ++ u16 p.lifts))
    ∧ (∀ n m, n ≤ 7 → m ≤ 15 → s.tal.history.length ≤ n → refusedWith (.readLoadHistory n m) 0x30 .state s)
    ∧ (∀ n m, 7 < n ∨ 15 < m → refusedWith (.readLoadHistory n m) 0x30 .badValue s)
    ∧ (let e := s.log.enables
      reports .readLogStatus 0x3D (u8 s.log.ring.length
        ++ opt (fun e : Entry => u32 e.sequence.toNat) s.log.ring.head?
        ++ u32 s.log.nextSequence.toNat ++ onOff e.tallied ++ onOff e.untallied ++ onOff e.dropped
        ++ onOff e.mark ++ onOff e.system))
    ∧ (let m := s.mlm
      let f := m.figures
      reports .readLimiter 0x42 (i32 f.net ++ u8 f.basis.code ++ u16 f.tare ++ u16 f.reach ++ flag f.longest
        ++ opt i16 f.tau ++ opt u16 f.tilt ++ flag f.tiltPass ++ u16 f.derate ++ u16 f.mBase
        ++ u16 f.permitted ++ u32 f.moment ++ u16 f.utilisation ++ u8 m.stage.code ++ flag m.degraded
        ++ flag (s.clp.isLive .limitHold) ++ u16 m.momentFactor
        ++ (m.factors.toList.flatMap fun p => u16 p.positive ++ u16 p.negative) ++ u8 m.slewCase.code
        ++ u8 m.pattern.code ++ flag m.lampHigh ++ u8 m.limiter.kd ++ u16 m.limiter.dMin
        ++ u16 m.limiter.warn ++ u8 m.horn.p ++ u8 m.horn.n ++ u16 s.sto.working.tilt))
    ∧ (∀ v : Section, let x := s.vdr.sections.get v
      let f := s.vdr.factors.get v
      reports (.readSection v.code) 0x4A (i16 x.target ++ flag x.latch ++ u16 x.factor ++ u16 f.positive
        ++ u16 f.negative ++ i16 x.composed ++ i16 x.output ++ u16 x.setpoint.a ++ u16 x.setpoint.b
        ++ u8 x.duty.a ++ u8 x.duty.b ++ u16 x.measured.a ++ u16 x.measured.b ++ u8 x.openCount.a
        ++ u8 x.openCount.b ++ u8 x.coil.code ++ u16 x.settings.iMin ++ u16 x.settings.iMax
        ++ u8 x.settings.deadband ++ u16 x.settings.up ++ u16 x.settings.down
        ++ u16 (s.sto.working.caps.get v) ++ flag (s.clp.isLive .leverStale)))
    ∧ (∀ n, 6 ≤ n → refusedWith (.readSection n) 0x4A .badValue s)
    ∧ reports .profileIdentify 0x54 (u16 11000 ++ u16 250 ++ u8 0 ++ u32 16000
        ++ (List.replicate 6 (u16 2000)).flatten)
    ∧ (let p := s.sto.working
      reports .identify 0x55 ([0x42, 0x4F, 0x4C, 0x50, 0x45, 0x54, 0x52, 0x41]
        ++ [0x43, 0x47, 0x2D, 0x32, 0x38] ++ u8 revision ++ u32 serial ++ u16 p.mBase ++ u16 p.tilt
        ++ u32 p.payload ++ u8 (if p.fallback then 0 else 1)))
    ∧ (let p := s.sto.working
      reports .readStore 0x56 (u16 p.mBase ++ u16 p.tilt ++ u8 (if p.fallback then 0 else 1)
        ++ u32 p.payload ++ p.caps.toList.flatMap u16 ++ u8 s.sto.freeze.code
        ++ u8 s.sto.report.profile.code ++ u8 s.sto.report.settings.code
        ++ u8 s.sto.report.calibration.code
        ++ opt (fun w : StoreWrite => u8 w.kind.code ++ u8 w.record.code) s.sto.write))

/-! ## What every step keeps -/

/-- Every step keeps CLP's and LOG's promises: a set live state has its latch set, at most 64 frames wait
(the one being sent among them: the model's reading, log 18) and the lost-notice count is at most 255; the
ring holds at most 128 entries of consecutive numbers up to the next one. Every step keeps the bounds of the
tally and its labels, z within the tracking limit, and the working profile within the factory profile. -/
def Obligations.LogTallyAndQueueAreKept : Prop :=
  (∀ s t : State, s.clp.covered → s.clp.bounded → s.log.numbered → step s = .next t →
     t.clp.covered ∧ t.clp.bounded ∧ t.log.numbered)
  ∧ (∀ s t : State, s.tal.bounded → s.tal.labelled → s.wen.tracked → s.sto.working.withinFactory = true →
       step s = .next t →
       t.tal.bounded ∧ t.tal.labelled ∧ t.wen.tracked ∧ t.sto.working.withinFactory = true)

/-- Every step keeps the lift context consistent (each field present exactly in its states), with a lift
source and a lift window exactly in LIFTED and WEIGHED. Every step keeps the current source the one that
R65 judges on its inputs, with no live estimate without a source. Every step keeps a capture in flight
within the conditions that end it. -/
def Obligations.LiftSourceAndCaptureAreKeptConsistent : Prop :=
  (∀ s t : State, s.ltr.consistent → s.liftWindowed → step s = .next t → t.ltr.consistent ∧ t.liftWindowed)
  ∧ (∀ s t : State, s.sourced → step s = .next t → t.sourced)
  ∧ (∀ s t : State, s.capturing → step s = .next t → t.capturing)

/-- Every step keeps the valve sections safe, the factors that VDR holds in 0..1,000, and in HOLD the factors
of the moment-increasing directions at 0. -/
def Obligations.ValveSectionsAreKeptSafe : Prop :=
  ∀ s t : State, s.vdr.safe → s.withholds → step s = .next t → t.vdr.safe ∧ t.withholds

/-- Every step keeps each link timer in its own state, the rate index in 0..3, the sequence reference in UP
alone, and TIP_DOWN and TIP_FAILED following the link, in a module with supply. Every step keeps the
conditions following their owners, in a module with supply: LIMIT_HOLD the stage, PAYLOAD the total and
the rated payload, NO_CAL the tip calibration, each COIL_FAULT its section, LEVER_STALE the lever timer. -/
def Obligations.TipLinkAndConditionsAreKept : Prop :=
  (∀ s t : State, (s.powered = true → s.tlc.orderly ∧ s.tipConditions) → step s = .next t →
     t.powered = true → t.tlc.orderly ∧ t.tipConditions)
  ∧ (∀ s t : State,
       (s.powered = true → s.holdCondition ∧ s.payloadCondition ∧ s.noCalCondition ∧ s.coilConditions
         ∧ s.leverCondition) →
       step s = .next t → t.powered = true →
       t.holdCondition ∧ t.payloadCondition ∧ t.noCalCondition ∧ t.coilConditions ∧ t.leverCondition)

/-- State.reset is what POWER-ON leaves of a module whose store was never written, with measured currents of
0 (the model's choice of the store and the currents: log 2), and every invariant above holds there. The
start-up is the one of POWER-ON with the same choices and readings (log 19, log 20, log 30). -/
def Obligations.ResetMeetsEveryInvariant : Prop :=
  exec (.powerOn (.all ⟨0, 0⟩)) (.unpowered .blank []) = .next State.reset
    ∧ State.reset.clp.covered ∧ State.reset.clp.bounded ∧ State.reset.log.numbered
    ∧ State.reset.tal.bounded ∧ State.reset.tal.labelled ∧ State.reset.wen.tracked
    ∧ State.reset.sto.working.withinFactory = true ∧ State.reset.ltr.consistent
    ∧ State.reset.liftWindowed ∧ State.reset.sourced ∧ State.reset.capturing ∧ State.reset.vdr.safe
    ∧ State.reset.withholds ∧ State.reset.tlc.orderly ∧ State.reset.tipConditions
    ∧ State.reset.holdCondition ∧ State.reset.payloadCondition ∧ State.reset.noCalCondition
    ∧ State.reset.coilConditions ∧ State.reset.leverCondition

/-! ## Sources -/

/-- A lift on the tip whose tip link leaves UP (a loss, a HAIL, a LINK RESTART), or whose TIP_STUCK goes live at
an in-order frame, falls to CYLINDER where the profile allows the fallback, both pressures are GOOD and
geometry is valid, and to NONE otherwise. In LIFTED the window is reopened empty on the new source, at the
window size in force, and the source field follows; in WEIGHED result, source field and window stand. The
lift state, number, times and from-zone stand. The current source falls with it, and where that changes it the
live history is emptied. A lift in LIFTED on the cylinder, with no RELEASE under way, falls to NONE at a frame
that faults a pressure or geometry or finds the fallback not allowed. A tip link that comes back UP during a
lift on an available cylinder, with the tip calibration valid and by a frame that leaves TIP_STUCK not live
(whatever stuck reference a re-probe has kept), takes the current source back to TIP and leaves the lift on the
cylinder, in LIFTED with a window not yet complete, its window as it was. No DROP is taken at that frame: where
the current source changes, the update without an estimate makes DROP's start stamp absent, and where it was
TIP already, DROP has no start stamp here. (A window size of 0, which no setting allows, is left out.) -/
def Obligations.LiftSourcesOnlyFall : Prop :=
  let lift (s t : State) : Prop := t.ltr.state = s.ltr.state ∧ t.ltr.number = s.ltr.number
    ∧ t.ltr.gripTime = s.ltr.gripTime ∧ t.ltr.liftOffTime = s.ltr.liftOffTime
    ∧ t.ltr.fromZone = s.ltr.fromZone ∧ t.ltr.result = s.ltr.result
  let fallen (low : Source) (s t : State) : Prop := lift s t ∧ t.wen.liftSource = some low
    ∧ (s.ltr.state = .lifted → t.ltr.source = some low
      ∧ t.wen.liftWindow = some ⟨low, s.wen.settings.windowSize, 0, 0, none, none⟩)
    ∧ (s.ltr.state = .weighed → t.ltr.source = s.ltr.source ∧ t.wen.liftWindow = s.wen.liftWindow)
  let readable (s : State) : Prop := s.iau.channels.pHead.status = .good
    ∧ s.iau.channels.pRod.status = .good ∧ s.geo.valid = true
  (∀ (s : State) (i : Instr), s.powered = true → s.tlc.link = .up → s.wen.liftSource = some .tip →
     s.ltr.state = .lifted ∨ s.ltr.state = .weighed → 1 ≤ s.wen.settings.windowSize →
     (i = .lossTimerExpiry ∨ i = .hail ∨ (i = .linkRestart ∧ s.serves 1)
       ∨ ∃ r c a g x, i = .dataFrame (r + 1) c a g x ∧ s.tlc.sequenceRef = some r
         ∧ s.clp.isLive .tipStuck = false ∧ s.tlc.stuckRef = some c.toNat
         ∧ (if s.tlc.settings.stuckRule = .strict then 24 else 120) ≤ s.tlc.stuckCount + 1) →
     ∃ t low, exec i s = .next t ∧ fallen low s t
       ∧ (s.sto.working.fallback = true ∧ readable s → low = .cylinder)
       ∧ (s.sto.working.fallback = false ∨ ¬readable s → low = .none)
       ∧ t.wen.source = low
       ∧ (s.wen.source ≠ low → t.wen.history = [] ∧ t.wen.liveEstimate = none))
  ∧ (∀ (codes : PerChannel RawCode) (levels : PerLine Level) (order : FrameOrder) (s : State),
       s.powered = true → s.wen.liftSource = some .cylinder → s.ltr.state = .lifted →
       s.ltr.releaseStart = none → 1 ≤ s.wen.settings.windowSize →
       ∃ t, exec (.acquisitionFrame codes levels order) s = .next t
         ∧ (s.sto.working.fallback = false ∨ ¬readable t → fallen .none s t))
  ∧ (∀ (s : State) (q : Byte) (c a : BitVec 16) (g x : Byte),
       s.powered = true → s.tlc.link = .starting → s.wen.liftSource = some .cylinder →
       s.sto.working.fallback = true → readable s →
       s.ltr.state = .lifted ∨ s.ltr.state = .weighed → s.wen.source ≠ .tip ∨ s.ltr.dropStart = none →
       (∀ w : Window, s.wen.liftWindow = some w → w.count < w.size ∨ s.ltr.state = .weighed) →
       s.unstuckBy c → s.wen.calibration.zeroValid = true →
       s.wen.calibration.spanValid = true →
       ∃ t, exec (.dataFrame q c a g x) s = .next t ∧ lift s t ∧ t.wen.source = .tip
         ∧ t.wen.liftSource = some .cylinder ∧ t.wen.liftWindow = s.wen.liftWindow
         ∧ t.ltr.source = s.ltr.source)
end

