-- ==== Sys2Proof/Laws/Places.lean ====
section
/-! SUPPORT. Lemmas of the records that hold one value for each place: reading after mapping and after
setting. -/

namespace Sys2Proof

@[simp] theorem PerChannel.get_map {α β : Type} (f : Channel → α → β) (t : PerChannel α)
    (c : Channel) : (t.map f).get c = f c (t.get c) := by cases c <;> rfl

@[simp] theorem PerLine.get_map {α β : Type} (f : Line → α → β) (t : PerLine α) (l : Line) :
    (t.map f).get l = f l (t.get l) := by cases l <;> rfl

@[simp] theorem PerSection.get_map {α β : Type} (f : Section → α → β) (t : PerSection α)
    (v : Section) : (t.map f).get v = f v (t.get v) := by cases v <;> rfl

@[simp] theorem PerChannel.get_all {α : Type} (x : α) (c : Channel) :
    (PerChannel.all x).get c = x := by cases c <;> rfl

@[simp] theorem PerLine.get_all {α : Type} (x : α) (l : Line) : (PerLine.all x).get l = x := by
  cases l <;> rfl

@[simp] theorem PerSection.get_all {α : Type} (x : α) (v : Section) :
    (PerSection.all x).get v = x := by cases v <;> rfl

theorem PerChannel.get_set {α : Type} (t : PerChannel α) (c d : Channel) (x : α) :
    (t.set c x).get d = if d = c then x else t.get d := by cases c <;> cases d <;> rfl

theorem PerLine.get_set {α : Type} (t : PerLine α) (l m : Line) (x : α) :
    (t.set l x).get m = if m = l then x else t.get m := by cases l <;> cases m <;> rfl

theorem PerSection.get_set {α : Type} (t : PerSection α) (v w : Section) (x : α) :
    (t.set v x).get w = if w = v then x else t.get w := by cases v <;> cases w <;> rfl

/-- Two records that agree at every section are equal. -/
theorem PerSection.ext_get {α : Type} {t u : PerSection α} (h : ∀ v, t.get v = u.get v) : t = u := by
  cases t
  cases u
  have h1 := h .slew
  have h2 := h .boom
  have h3 := h .jib
  have h4 := h .tele
  have h5 := h .rotate
  have h6 := h .grapple
  simp only [PerSection.get] at h1 h2 h3 h4 h5 h6
  simp [h1, h2, h3, h4, h5, h6]

theorem Section.mem_list (v : Section) : v ∈ Section.list := by cases v <;> decide

theorem Channel.mem_list (c : Channel) : c ∈ Channel.list := by cases c <;> decide

theorem Line.mem_list (l : Line) : l ∈ Line.list := by cases l <;> decide

end Sys2Proof
end

