-- ==== Sys2Proof/Laws/State.lean ====
section
/-! SUPPORT. The frame of every shared operation: one lemma for each operation, with one equation for each
block that the operation leaves as it was. The equations are simp rules, so that a later proof reads a
block through a chain of operations without unfolding them. -/

namespace Sys2Proof.Machine

/-- What `whenPowered` does, said once. -/
theorem whenPowered_cases (f : State → State) (s : State) :
    (s.powered = true ∧ whenPowered f s = f s) ∨ (s.powered = false ∧ whenPowered f s = s) := by
  cases h : s.powered <;> simp [whenPowered, h]

/-! ## Ops -/

@[simp] theorem notify_frame (n : Notice) (s : State) :
    (notify n s).powered = s.powered ∧ (notify n s).iau = s.iau ∧ (notify n s).tlc = s.tlc
      ∧ (notify n s).geo = s.geo ∧ (notify n s).wen = s.wen ∧ (notify n s).ltr = s.ltr
      ∧ (notify n s).tal = s.tal ∧ (notify n s).log = s.log ∧ (notify n s).mlm = s.mlm
      ∧ (notify n s).vdr = s.vdr ∧ (notify n s).sto = s.sto ∧ (notify n s).pending = s.pending := by
  unfold notify
  (try dsimp only)
  simp

@[simp] theorem setLive_frame (d : Condition) (v : Bool) (s : State) :
    (setLive d v s).powered = s.powered ∧ (setLive d v s).iau = s.iau
      ∧ (setLive d v s).tlc = s.tlc ∧ (setLive d v s).geo = s.geo ∧ (setLive d v s).wen = s.wen
      ∧ (setLive d v s).ltr = s.ltr ∧ (setLive d v s).tal = s.tal ∧ (setLive d v s).log = s.log
      ∧ (setLive d v s).mlm = s.mlm ∧ (setLive d v s).vdr = s.vdr ∧ (setLive d v s).sto = s.sto
      ∧ (setLive d v s).pending = s.pending := by
  unfold setLive
  (try dsimp only)
  simp

@[simp] theorem latch_frame (d : Condition) (s : State) :
    (latch d s).powered = s.powered ∧ (latch d s).iau = s.iau ∧ (latch d s).tlc = s.tlc
      ∧ (latch d s).geo = s.geo ∧ (latch d s).wen = s.wen ∧ (latch d s).ltr = s.ltr
      ∧ (latch d s).tal = s.tal ∧ (latch d s).log = s.log ∧ (latch d s).mlm = s.mlm
      ∧ (latch d s).vdr = s.vdr ∧ (latch d s).sto = s.sto ∧ (latch d s).pending = s.pending := by
  unfold latch
  (try dsimp only)
  simp

@[simp] theorem refuse_frame (k : Byte) (x : Status) (s : State) :
    (refuse k x s).powered = s.powered ∧ (refuse k x s).iau = s.iau
      ∧ (refuse k x s).tlc = s.tlc ∧ (refuse k x s).geo = s.geo ∧ (refuse k x s).wen = s.wen
      ∧ (refuse k x s).ltr = s.ltr ∧ (refuse k x s).tal = s.tal ∧ (refuse k x s).log = s.log
      ∧ (refuse k x s).mlm = s.mlm ∧ (refuse k x s).vdr = s.vdr ∧ (refuse k x s).sto = s.sto
      ∧ (refuse k x s).pending = s.pending := by
  simp [refuse, answer]
  split <;> (try split) <;> simp

/-! ## LiftLog -/

@[simp] theorem record_frame (p : EntryPart) (s : State) :
    (record p s).powered = s.powered ∧ (record p s).iau = s.iau ∧ (record p s).tlc = s.tlc
      ∧ (record p s).geo = s.geo ∧ (record p s).wen = s.wen ∧ (record p s).ltr = s.ltr
      ∧ (record p s).tal = s.tal ∧ (record p s).mlm = s.mlm ∧ (record p s).vdr = s.vdr
      ∧ (record p s).sto = s.sto ∧ (record p s).pending = s.pending := by
  unfold record
  (try dsimp only)
  simp

@[simp] theorem makeMark_frame (s : State) :
    (makeMark s).powered = s.powered ∧ (makeMark s).iau = s.iau ∧ (makeMark s).tlc = s.tlc
      ∧ (makeMark s).geo = s.geo ∧ (makeMark s).wen = s.wen ∧ (makeMark s).ltr = s.ltr
      ∧ (makeMark s).tal = s.tal ∧ (makeMark s).mlm = s.mlm ∧ (makeMark s).vdr = s.vdr
      ∧ (makeMark s).sto = s.sto ∧ (makeMark s).pending = s.pending := by
  unfold makeMark
  simp

@[simp] theorem shiftRunningStamps_frame (d : Int) (s : State) :
    (shiftRunningStamps d s).powered = s.powered ∧ (shiftRunningStamps d s).tlc = s.tlc
      ∧ (shiftRunningStamps d s).geo = s.geo ∧ (shiftRunningStamps d s).wen = s.wen
      ∧ (shiftRunningStamps d s).tal = s.tal ∧ (shiftRunningStamps d s).log = s.log
      ∧ (shiftRunningStamps d s).mlm = s.mlm ∧ (shiftRunningStamps d s).vdr = s.vdr
      ∧ (shiftRunningStamps d s).sto = s.sto ∧ (shiftRunningStamps d s).clp = s.clp
      ∧ (shiftRunningStamps d s).pending = s.pending := by
  unfold shiftRunningStamps
  (try dsimp only)
  simp

@[simp] theorem takeClock_frame (t : BitVec 32) (s : State) :
    (takeClock t s).powered = s.powered ∧ (takeClock t s).tlc = s.tlc
      ∧ (takeClock t s).geo = s.geo ∧ (takeClock t s).wen = s.wen ∧ (takeClock t s).tal = s.tal
      ∧ (takeClock t s).mlm = s.mlm ∧ (takeClock t s).vdr = s.vdr ∧ (takeClock t s).sto = s.sto
      ∧ (takeClock t s).clp = s.clp ∧ (takeClock t s).pending = s.pending := by
  unfold takeClock
  (try dsimp only)
  simp

@[simp] theorem beginGroup_frame (x : SectionState) :
    x.beginGroup.driven = x.duty ∧ x.beginGroup.duty = x.duty ∧ x.beginGroup.target = x.target
      ∧ x.beginGroup.latch = x.latch ∧ x.beginGroup.factor = x.factor
      ∧ x.beginGroup.composed = x.composed ∧ x.beginGroup.output = x.output
      ∧ x.beginGroup.setpoint = x.setpoint ∧ x.beginGroup.measured = x.measured
      ∧ x.beginGroup.openCount = x.openCount ∧ x.beginGroup.coil = x.coil
      ∧ x.beginGroup.settings = x.settings := by
  simp [SectionState.beginGroup]

/-- What a millisecond does to VDR (R173): a group with more than one millisecond left, or none running, goes
on with its codes; any other ends, and the next takes the codes handed last. -/
theorem vdrMillisecond_cases (d : Vdr) :
    (∃ n, d.groupTimer = some n ∧ n ≤ 1 ∧ d.passMillisecond = { d with
        sections := d.sections.map fun _ x => x.beginGroup
        leverTimer := d.leverTimer.tick, driveTimer := d.driveTimer.tick, groupTimer := some 2 })
      ∨ ((∀ n, d.groupTimer = some n → 1 < n) ∧ d.passMillisecond = { d with
        leverTimer := d.leverTimer.tick, driveTimer := d.driveTimer.tick
        groupTimer := d.groupTimer.tick }) := by
  rcases h : d.groupTimer with _ | n
  · simp [Vdr.passMillisecond, h]
  · by_cases hn : n ≤ 1
    · exact .inl ⟨n, rfl, hn, by simp [Vdr.passMillisecond, h, hn]⟩
    · exact .inr ⟨by rintro m ⟨⟩; omega, by simp [Vdr.passMillisecond, h, hn]⟩

@[simp] theorem passMillisecond_frame (s : State) :
    (passMillisecond s).powered = s.powered ∧ (passMillisecond s).geo = s.geo
      ∧ (passMillisecond s).ltr = s.ltr ∧ (passMillisecond s).tal = s.tal
      ∧ (passMillisecond s).sto = s.sto ∧ (passMillisecond s).pending = s.pending := by
  unfold passMillisecond
  (try dsimp only)
  simp

/-! ## Moment -/

@[simp] theorem evaluate_frame (s : State) :
    (evaluate s).powered = s.powered ∧ (evaluate s).iau = s.iau ∧ (evaluate s).tlc = s.tlc
      ∧ (evaluate s).geo = s.geo ∧ (evaluate s).wen = s.wen ∧ (evaluate s).ltr = s.ltr
      ∧ (evaluate s).tal = s.tal ∧ (evaluate s).log = s.log ∧ (evaluate s).sto = s.sto
      ∧ (evaluate s).pending = s.pending := by
  unfold evaluate
  (try dsimp only)
  simp

@[simp] theorem selectHorn_frame (s : State) :
    (selectHorn s).powered = s.powered ∧ (selectHorn s).iau = s.iau
      ∧ (selectHorn s).tlc = s.tlc ∧ (selectHorn s).geo = s.geo ∧ (selectHorn s).wen = s.wen
      ∧ (selectHorn s).ltr = s.ltr ∧ (selectHorn s).tal = s.tal ∧ (selectHorn s).log = s.log
      ∧ (selectHorn s).vdr = s.vdr ∧ (selectHorn s).sto = s.sto ∧ (selectHorn s).clp = s.clp
      ∧ (selectHorn s).pending = s.pending := by
  unfold selectHorn
  (try dsimp only)
  simp

@[simp] theorem stepPattern_frame (s : State) :
    (stepPattern s).powered = s.powered ∧ (stepPattern s).iau = s.iau
      ∧ (stepPattern s).tlc = s.tlc ∧ (stepPattern s).geo = s.geo ∧ (stepPattern s).wen = s.wen
      ∧ (stepPattern s).ltr = s.ltr ∧ (stepPattern s).tal = s.tal ∧ (stepPattern s).log = s.log
      ∧ (stepPattern s).vdr = s.vdr ∧ (stepPattern s).sto = s.sto ∧ (stepPattern s).clp = s.clp
      ∧ (stepPattern s).pending = s.pending := by
  unfold stepPattern
  (repeat' split) <;> simp

@[simp] theorem toggleHorn_frame (s : State) :
    (toggleHorn s).powered = s.powered ∧ (toggleHorn s).iau = s.iau
      ∧ (toggleHorn s).tlc = s.tlc ∧ (toggleHorn s).geo = s.geo ∧ (toggleHorn s).wen = s.wen
      ∧ (toggleHorn s).ltr = s.ltr ∧ (toggleHorn s).tal = s.tal ∧ (toggleHorn s).log = s.log
      ∧ (toggleHorn s).vdr = s.vdr ∧ (toggleHorn s).sto = s.sto ∧ (toggleHorn s).clp = s.clp
      ∧ (toggleHorn s).pending = s.pending := by
  unfold toggleHorn
  (repeat' split) <;> simp

/-- SET HORN replaces the two tone settings; during a tone the wave restarts high, and otherwise the rest of
MLM stands (R161). -/
theorem takeHorn_cases (m : Mlm) (t : HornSettings) :
    (m.toneOn = true → m.takeHorn t = { m with horn := t, waveTimer := waveTime t, hornHigh := true })
      ∧ (m.toneOn = false → m.takeHorn t = { m with horn := t }) := by
  constructor <;> intro h <;> simp [Mlm.takeHorn, h]

@[simp] theorem takeHorn_frame (m : Mlm) (t : HornSettings) :
    (m.takeHorn t).figures = m.figures ∧ (m.takeHorn t).stage = m.stage
      ∧ (m.takeHorn t).factors = m.factors ∧ (m.takeHorn t).pattern = m.pattern
      ∧ (m.takeHorn t).segment = m.segment ∧ (m.takeHorn t).segmentTimer = m.segmentTimer
      ∧ (m.takeHorn t).lampHigh = m.lampHigh ∧ (m.takeHorn t).flashTimer = m.flashTimer
      ∧ (m.takeHorn t).limiter = m.limiter ∧ (m.takeHorn t).horn = t := by
  unfold Mlm.takeHorn
  split <;> simp

@[simp] theorem flashLamp_frame (s : State) :
    (flashLamp s).powered = s.powered ∧ (flashLamp s).iau = s.iau ∧ (flashLamp s).tlc = s.tlc
      ∧ (flashLamp s).geo = s.geo ∧ (flashLamp s).wen = s.wen ∧ (flashLamp s).ltr = s.ltr
      ∧ (flashLamp s).tal = s.tal ∧ (flashLamp s).log = s.log ∧ (flashLamp s).vdr = s.vdr
      ∧ (flashLamp s).sto = s.sto ∧ (flashLamp s).clp = s.clp
      ∧ (flashLamp s).pending = s.pending := by
  unfold flashLamp
  (try dsimp only)
  (repeat' split) <;> simp

/-! ## Tally -/

@[simp] theorem judgePayload_frame (s : State) :
    (judgePayload s).powered = s.powered ∧ (judgePayload s).iau = s.iau
      ∧ (judgePayload s).tlc = s.tlc ∧ (judgePayload s).geo = s.geo
      ∧ (judgePayload s).wen = s.wen ∧ (judgePayload s).ltr = s.ltr
      ∧ (judgePayload s).tal = s.tal ∧ (judgePayload s).log = s.log
      ∧ (judgePayload s).mlm = s.mlm ∧ (judgePayload s).vdr = s.vdr
      ∧ (judgePayload s).sto = s.sto ∧ (judgePayload s).pending = s.pending := by
  unfold judgePayload
  simp

@[simp] theorem evaluateTarget_frame (s : State) :
    (evaluateTarget s).powered = s.powered ∧ (evaluateTarget s).iau = s.iau
      ∧ (evaluateTarget s).tlc = s.tlc ∧ (evaluateTarget s).geo = s.geo
      ∧ (evaluateTarget s).wen = s.wen ∧ (evaluateTarget s).ltr = s.ltr
      ∧ (evaluateTarget s).log = s.log ∧ (evaluateTarget s).mlm = s.mlm
      ∧ (evaluateTarget s).vdr = s.vdr ∧ (evaluateTarget s).sto = s.sto
      ∧ (evaluateTarget s).pending = s.pending := by
  unfold evaluateTarget
  (try dsimp only)
  (repeat' split) <;> simp

@[simp] theorem closeLoad_frame (r : CloseReason) (s : State) :
    (closeLoad r s).powered = s.powered ∧ (closeLoad r s).iau = s.iau
      ∧ (closeLoad r s).tlc = s.tlc ∧ (closeLoad r s).geo = s.geo ∧ (closeLoad r s).wen = s.wen
      ∧ (closeLoad r s).ltr = s.ltr ∧ (closeLoad r s).mlm = s.mlm ∧ (closeLoad r s).vdr = s.vdr
      ∧ (closeLoad r s).sto = s.sto ∧ (closeLoad r s).pending = s.pending := by
  unfold closeLoad
  (try dsimp only)
  (repeat' split) <;> simp

@[simp] theorem openLoad_frame (s : State) :
    (openLoad s).powered = s.powered ∧ (openLoad s).iau = s.iau ∧ (openLoad s).tlc = s.tlc
      ∧ (openLoad s).geo = s.geo ∧ (openLoad s).wen = s.wen ∧ (openLoad s).ltr = s.ltr
      ∧ (openLoad s).log = s.log ∧ (openLoad s).mlm = s.mlm ∧ (openLoad s).vdr = s.vdr
      ∧ (openLoad s).sto = s.sto ∧ (openLoad s).clp = s.clp ∧ (openLoad s).pending = s.pending := by
  unfold openLoad
  (try dsimp only)
  (repeat' split) <;> simp

@[simp] theorem commitLoaded_frame (a : Fin 16) (m : Nat) (q : Quality) (s : State) :
    (commitLoaded a m q s).powered = s.powered ∧ (commitLoaded a m q s).iau = s.iau
      ∧ (commitLoaded a m q s).tlc = s.tlc ∧ (commitLoaded a m q s).geo = s.geo
      ∧ (commitLoaded a m q s).wen = s.wen ∧ (commitLoaded a m q s).ltr = s.ltr
      ∧ (commitLoaded a m q s).log = s.log ∧ (commitLoaded a m q s).mlm = s.mlm
      ∧ (commitLoaded a m q s).vdr = s.vdr ∧ (commitLoaded a m q s).sto = s.sto
      ∧ (commitLoaded a m q s).pending = s.pending := by
  unfold commitLoaded
  (try dsimp only)
  (repeat' split) <;> simp

@[simp] theorem commitUnloaded_frame (a : Fin 16) (m : Nat) (q : Quality) (s : State) :
    (commitUnloaded a m q s).powered = s.powered ∧ (commitUnloaded a m q s).iau = s.iau
      ∧ (commitUnloaded a m q s).tlc = s.tlc ∧ (commitUnloaded a m q s).geo = s.geo
      ∧ (commitUnloaded a m q s).wen = s.wen ∧ (commitUnloaded a m q s).ltr = s.ltr
      ∧ (commitUnloaded a m q s).mlm = s.mlm ∧ (commitUnloaded a m q s).vdr = s.vdr
      ∧ (commitUnloaded a m q s).sto = s.sto ∧ (commitUnloaded a m q s).pending = s.pending := by
  unfold commitUnloaded
  (try dsimp only)
  (repeat' split) <;> simp

@[simp] theorem commit_frame (o : LiftOutcome) (a : Fin 16) (m : Nat) (q : Quality) (s : State) :
    (commit o a m q s).powered = s.powered ∧ (commit o a m q s).iau = s.iau
      ∧ (commit o a m q s).tlc = s.tlc ∧ (commit o a m q s).geo = s.geo
      ∧ (commit o a m q s).wen = s.wen ∧ (commit o a m q s).ltr = s.ltr
      ∧ (commit o a m q s).mlm = s.mlm ∧ (commit o a m q s).vdr = s.vdr
      ∧ (commit o a m q s).sto = s.sto ∧ (commit o a m q s).pending = s.pending := by
  unfold commit
  (repeat' split) <;> simp

@[simp] theorem takeLabel_frame (i : Fin 16) (l : Label) (s : State) :
    (takeLabel i l s).powered = s.powered ∧ (takeLabel i l s).iau = s.iau
      ∧ (takeLabel i l s).tlc = s.tlc ∧ (takeLabel i l s).geo = s.geo
      ∧ (takeLabel i l s).wen = s.wen ∧ (takeLabel i l s).ltr = s.ltr
      ∧ (takeLabel i l s).log = s.log ∧ (takeLabel i l s).mlm = s.mlm
      ∧ (takeLabel i l s).vdr = s.vdr ∧ (takeLabel i l s).sto = s.sto
      ∧ (takeLabel i l s).clp = s.clp ∧ (takeLabel i l s).pending = s.pending := by
  unfold takeLabel
  (try dsimp only)
  simp

@[simp] theorem takeTarget_frame (t : Target) (s : State) :
    (takeTarget t s).powered = s.powered ∧ (takeTarget t s).iau = s.iau
      ∧ (takeTarget t s).tlc = s.tlc ∧ (takeTarget t s).geo = s.geo
      ∧ (takeTarget t s).wen = s.wen ∧ (takeTarget t s).ltr = s.ltr
      ∧ (takeTarget t s).log = s.log ∧ (takeTarget t s).mlm = s.mlm
      ∧ (takeTarget t s).vdr = s.vdr ∧ (takeTarget t s).sto = s.sto
      ∧ (takeTarget t s).clp = s.clp ∧ (takeTarget t s).pending = s.pending := by
  unfold takeTarget
  (try dsimp only)
  simp

/-! ## Windows -/

@[simp] theorem failCapture_frame (r : CaptureReason) (s : State) :
    (failCapture r s).powered = s.powered ∧ (failCapture r s).iau = s.iau
      ∧ (failCapture r s).tlc = s.tlc ∧ (failCapture r s).geo = s.geo
      ∧ (failCapture r s).ltr = s.ltr ∧ (failCapture r s).tal = s.tal
      ∧ (failCapture r s).log = s.log ∧ (failCapture r s).mlm = s.mlm
      ∧ (failCapture r s).vdr = s.vdr ∧ (failCapture r s).sto = s.sto
      ∧ (failCapture r s).pending = s.pending := by
  unfold failCapture
  (try dsimp only)
  simp

@[simp] theorem abortCaptures_frame (k : List CaptureKind) (s : State) :
    (abortCaptures k s).powered = s.powered ∧ (abortCaptures k s).iau = s.iau
      ∧ (abortCaptures k s).tlc = s.tlc ∧ (abortCaptures k s).geo = s.geo
      ∧ (abortCaptures k s).ltr = s.ltr ∧ (abortCaptures k s).tal = s.tal
      ∧ (abortCaptures k s).log = s.log ∧ (abortCaptures k s).mlm = s.mlm
      ∧ (abortCaptures k s).vdr = s.vdr ∧ (abortCaptures k s).sto = s.sto
      ∧ (abortCaptures k s).pending = s.pending := by
  unfold abortCaptures
  (repeat' split) <;> simp

/-! ## Lift -/

@[simp] theorem enterState_frame (x : LiftState) (s : State) :
    (enterState x s).powered = s.powered ∧ (enterState x s).iau = s.iau
      ∧ (enterState x s).tlc = s.tlc ∧ (enterState x s).geo = s.geo
      ∧ (enterState x s).tal = s.tal ∧ (enterState x s).log = s.log
      ∧ (enterState x s).sto = s.sto ∧ (enterState x s).pending = s.pending := by
  unfold enterState
  simp

@[simp] theorem takeGrip_frame (s : State) :
    (takeGrip s).powered = s.powered ∧ (takeGrip s).iau = s.iau ∧ (takeGrip s).tlc = s.tlc
      ∧ (takeGrip s).geo = s.geo ∧ (takeGrip s).tal = s.tal ∧ (takeGrip s).log = s.log
      ∧ (takeGrip s).sto = s.sto ∧ (takeGrip s).pending = s.pending := by
  unfold takeGrip
  (try dsimp only)
  simp

@[simp] theorem releaseWithoutLift_frame (s : State) :
    (releaseWithoutLift s).powered = s.powered ∧ (releaseWithoutLift s).iau = s.iau
      ∧ (releaseWithoutLift s).tlc = s.tlc ∧ (releaseWithoutLift s).geo = s.geo
      ∧ (releaseWithoutLift s).tal = s.tal ∧ (releaseWithoutLift s).log = s.log
      ∧ (releaseWithoutLift s).sto = s.sto ∧ (releaseWithoutLift s).pending = s.pending := by
  unfold releaseWithoutLift
  (try dsimp only)
  simp

@[simp] theorem takeLiftOff_frame (s : State) :
    (takeLiftOff s).powered = s.powered ∧ (takeLiftOff s).iau = s.iau
      ∧ (takeLiftOff s).tlc = s.tlc ∧ (takeLiftOff s).geo = s.geo ∧ (takeLiftOff s).tal = s.tal
      ∧ (takeLiftOff s).log = s.log ∧ (takeLiftOff s).sto = s.sto
      ∧ (takeLiftOff s).pending = s.pending := by
  unfold takeLiftOff
  (try dsimp only)
  simp

@[simp] theorem completeWindow_frame (s : State) :
    (completeWindow s).powered = s.powered ∧ (completeWindow s).iau = s.iau
      ∧ (completeWindow s).tlc = s.tlc ∧ (completeWindow s).geo = s.geo
      ∧ (completeWindow s).tal = s.tal ∧ (completeWindow s).log = s.log
      ∧ (completeWindow s).sto = s.sto ∧ (completeWindow s).pending = s.pending := by
  unfold completeWindow
  (try dsimp only)
  (repeat' split) <;> simp

@[simp] theorem takeDowngrade_frame (x : Source) (s : State) :
    (takeDowngrade x s).powered = s.powered ∧ (takeDowngrade x s).iau = s.iau
      ∧ (takeDowngrade x s).tlc = s.tlc ∧ (takeDowngrade x s).geo = s.geo
      ∧ (takeDowngrade x s).tal = s.tal ∧ (takeDowngrade x s).log = s.log
      ∧ (takeDowngrade x s).mlm = s.mlm ∧ (takeDowngrade x s).vdr = s.vdr
      ∧ (takeDowngrade x s).sto = s.sto ∧ (takeDowngrade x s).clp = s.clp
      ∧ (takeDowngrade x s).pending = s.pending := by
  unfold takeDowngrade
  (try dsimp only)
  (repeat' split) <;> simp

@[simp] theorem takeDrop_frame (s : State) :
    (takeDrop s).powered = s.powered ∧ (takeDrop s).iau = s.iau ∧ (takeDrop s).tlc = s.tlc
      ∧ (takeDrop s).geo = s.geo ∧ (takeDrop s).tal = s.tal ∧ (takeDrop s).sto = s.sto
      ∧ (takeDrop s).pending = s.pending := by
  unfold takeDrop
  (try dsimp only)
  simp

@[simp] theorem takeRelease_frame (s : State) :
    (takeRelease s).powered = s.powered ∧ (takeRelease s).iau = s.iau
      ∧ (takeRelease s).tlc = s.tlc ∧ (takeRelease s).geo = s.geo ∧ (takeRelease s).sto = s.sto
      ∧ (takeRelease s).pending = s.pending := by
  unfold takeRelease
  (try dsimp only)
  simp

@[simp] theorem judgeGrip_frame (s : State) :
    (judgeGrip s).powered = s.powered ∧ (judgeGrip s).iau = s.iau ∧ (judgeGrip s).tlc = s.tlc
      ∧ (judgeGrip s).geo = s.geo ∧ (judgeGrip s).sto = s.sto
      ∧ (judgeGrip s).pending = s.pending := by
  unfold judgeGrip
  (try dsimp only)
  (repeat' split) <;> simp

@[simp] theorem judgeLive_frame (s : State) :
    (judgeLive s).powered = s.powered ∧ (judgeLive s).iau = s.iau ∧ (judgeLive s).tlc = s.tlc
      ∧ (judgeLive s).geo = s.geo ∧ (judgeLive s).tal = s.tal ∧ (judgeLive s).sto = s.sto
      ∧ (judgeLive s).pending = s.pending := by
  unfold judgeLive
  (try dsimp only)
  (repeat' split) <;> simp

@[simp] theorem handLiveUpdate_frame (s : State) :
    (handLiveUpdate s).powered = s.powered ∧ (handLiveUpdate s).iau = s.iau
      ∧ (handLiveUpdate s).tlc = s.tlc ∧ (handLiveUpdate s).geo = s.geo
      ∧ (handLiveUpdate s).tal = s.tal ∧ (handLiveUpdate s).sto = s.sto
      ∧ (handLiveUpdate s).pending = s.pending := by
  unfold handLiveUpdate
  simp

/-! ## Weighing -/

@[simp] theorem changeSource_frame (x : Source) (s : State) :
    (changeSource x s).powered = s.powered ∧ (changeSource x s).iau = s.iau
      ∧ (changeSource x s).tlc = s.tlc ∧ (changeSource x s).geo = s.geo
      ∧ (changeSource x s).tal = s.tal ∧ (changeSource x s).sto = s.sto
      ∧ (changeSource x s).pending = s.pending := by
  unfold changeSource
  (try dsimp only)
  simp

@[simp] theorem judgeLiftSource_frame (s : State) :
    (judgeLiftSource s).powered = s.powered ∧ (judgeLiftSource s).iau = s.iau
      ∧ (judgeLiftSource s).tlc = s.tlc ∧ (judgeLiftSource s).geo = s.geo
      ∧ (judgeLiftSource s).tal = s.tal ∧ (judgeLiftSource s).log = s.log
      ∧ (judgeLiftSource s).mlm = s.mlm ∧ (judgeLiftSource s).vdr = s.vdr
      ∧ (judgeLiftSource s).sto = s.sto ∧ (judgeLiftSource s).clp = s.clp
      ∧ (judgeLiftSource s).pending = s.pending := by
  unfold judgeLiftSource
  (try dsimp only)
  (repeat' split) <;> simp

@[simp] theorem rejudgeSources_frame (s : State) :
    (rejudgeSources s).powered = s.powered ∧ (rejudgeSources s).iau = s.iau
      ∧ (rejudgeSources s).tlc = s.tlc ∧ (rejudgeSources s).geo = s.geo
      ∧ (rejudgeSources s).tal = s.tal ∧ (rejudgeSources s).sto = s.sto
      ∧ (rejudgeSources s).pending = s.pending := by
  unfold rejudgeSources
  (repeat' split) <;> simp

@[simp] theorem judgeNoCal_frame (s : State) :
    (judgeNoCal s).powered = s.powered ∧ (judgeNoCal s).iau = s.iau
      ∧ (judgeNoCal s).tlc = s.tlc ∧ (judgeNoCal s).geo = s.geo ∧ (judgeNoCal s).wen = s.wen
      ∧ (judgeNoCal s).ltr = s.ltr ∧ (judgeNoCal s).tal = s.tal ∧ (judgeNoCal s).log = s.log
      ∧ (judgeNoCal s).mlm = s.mlm ∧ (judgeNoCal s).vdr = s.vdr ∧ (judgeNoCal s).sto = s.sto
      ∧ (judgeNoCal s).pending = s.pending := by
  unfold judgeNoCal
  simp

@[simp] theorem finishCapture_frame (c : Capture) (n : CalName) (x y : Int) (k : Calibration) (s : State) :
    (finishCapture c n x y k s).powered = s.powered ∧ (finishCapture c n x y k s).iau = s.iau
      ∧ (finishCapture c n x y k s).tlc = s.tlc ∧ (finishCapture c n x y k s).geo = s.geo
      ∧ (finishCapture c n x y k s).tal = s.tal ∧ (finishCapture c n x y k s).sto = s.sto
      ∧ (finishCapture c n x y k s).pending = s.pending := by
  unfold finishCapture
  (try dsimp only)
  simp

@[simp] theorem finishZero_frame (c : Capture) (x : Int) (s : State) :
    (finishZero c x s).powered = s.powered ∧ (finishZero c x s).iau = s.iau
      ∧ (finishZero c x s).tlc = s.tlc ∧ (finishZero c x s).geo = s.geo
      ∧ (finishZero c x s).tal = s.tal ∧ (finishZero c x s).sto = s.sto
      ∧ (finishZero c x s).pending = s.pending := by
  unfold finishZero
  (try dsimp only)
  simp

@[simp] theorem finishSpan_frame (c : Capture) (x : Int) (s : State) :
    (finishSpan c x s).powered = s.powered ∧ (finishSpan c x s).iau = s.iau
      ∧ (finishSpan c x s).tlc = s.tlc ∧ (finishSpan c x s).geo = s.geo
      ∧ (finishSpan c x s).tal = s.tal ∧ (finishSpan c x s).sto = s.sto
      ∧ (finishSpan c x s).pending = s.pending := by
  unfold finishSpan
  (try dsimp only)
  (repeat' split) <;> simp

@[simp] theorem finishCylEmpty_frame (c : Capture) (b : Fin 8) (x : Int) (s : State) :
    (finishCylEmpty c b x s).powered = s.powered ∧ (finishCylEmpty c b x s).iau = s.iau
      ∧ (finishCylEmpty c b x s).tlc = s.tlc ∧ (finishCylEmpty c b x s).geo = s.geo
      ∧ (finishCylEmpty c b x s).tal = s.tal ∧ (finishCylEmpty c b x s).sto = s.sto
      ∧ (finishCylEmpty c b x s).pending = s.pending := by
  unfold finishCylEmpty
  (try dsimp only)
  simp

@[simp] theorem finishCylLoad_frame (c : Capture) (b : Fin 8) (x : Int) (s : State) :
    (finishCylLoad c b x s).powered = s.powered ∧ (finishCylLoad c b x s).iau = s.iau
      ∧ (finishCylLoad c b x s).tlc = s.tlc ∧ (finishCylLoad c b x s).geo = s.geo
      ∧ (finishCylLoad c b x s).tal = s.tal ∧ (finishCylLoad c b x s).sto = s.sto
      ∧ (finishCylLoad c b x s).pending = s.pending := by
  unfold finishCylLoad
  (try dsimp only)
  (repeat' split) <;> simp

@[simp] theorem finish_frame (c : Capture) (s : State) :
    (finish c s).powered = s.powered ∧ (finish c s).iau = s.iau ∧ (finish c s).tlc = s.tlc
      ∧ (finish c s).geo = s.geo ∧ (finish c s).tal = s.tal ∧ (finish c s).sto = s.sto
      ∧ (finish c s).pending = s.pending := by
  unfold finish
  (try dsimp only)
  (repeat' split) <;> simp

@[simp] theorem captureTake_frame (c : Capture) (x : Int) (s : State) :
    (captureTake c x s).powered = s.powered ∧ (captureTake c x s).iau = s.iau
      ∧ (captureTake c x s).tlc = s.tlc ∧ (captureTake c x s).geo = s.geo
      ∧ (captureTake c x s).tal = s.tal ∧ (captureTake c x s).sto = s.sto
      ∧ (captureTake c x s).pending = s.pending := by
  unfold captureTake
  (try dsimp only)
  (repeat' split) <;> simp

@[simp] theorem judgeEmptyWindow_frame (w : Window) (s : State) :
    (judgeEmptyWindow w s).powered = s.powered ∧ (judgeEmptyWindow w s).iau = s.iau
      ∧ (judgeEmptyWindow w s).tlc = s.tlc ∧ (judgeEmptyWindow w s).geo = s.geo
      ∧ (judgeEmptyWindow w s).ltr = s.ltr ∧ (judgeEmptyWindow w s).tal = s.tal
      ∧ (judgeEmptyWindow w s).log = s.log ∧ (judgeEmptyWindow w s).mlm = s.mlm
      ∧ (judgeEmptyWindow w s).vdr = s.vdr ∧ (judgeEmptyWindow w s).sto = s.sto
      ∧ (judgeEmptyWindow w s).pending = s.pending := by
  unfold judgeEmptyWindow
  (try dsimp only)
  (repeat' split) <;> simp

@[simp] theorem feedEmptyWindow_frame (x : Int) (s : State) :
    (feedEmptyWindow x s).powered = s.powered ∧ (feedEmptyWindow x s).iau = s.iau
      ∧ (feedEmptyWindow x s).tlc = s.tlc ∧ (feedEmptyWindow x s).geo = s.geo
      ∧ (feedEmptyWindow x s).ltr = s.ltr ∧ (feedEmptyWindow x s).tal = s.tal
      ∧ (feedEmptyWindow x s).log = s.log ∧ (feedEmptyWindow x s).mlm = s.mlm
      ∧ (feedEmptyWindow x s).vdr = s.vdr ∧ (feedEmptyWindow x s).sto = s.sto
      ∧ (feedEmptyWindow x s).pending = s.pending := by
  unfold feedEmptyWindow
  (try dsimp only)
  (repeat' split) <;> simp

@[simp] theorem feedLiftWindow_frame (y : Source) (x : Int) (s : State) :
    (feedLiftWindow y x s).powered = s.powered ∧ (feedLiftWindow y x s).iau = s.iau
      ∧ (feedLiftWindow y x s).tlc = s.tlc ∧ (feedLiftWindow y x s).geo = s.geo
      ∧ (feedLiftWindow y x s).ltr = s.ltr ∧ (feedLiftWindow y x s).tal = s.tal
      ∧ (feedLiftWindow y x s).log = s.log ∧ (feedLiftWindow y x s).mlm = s.mlm
      ∧ (feedLiftWindow y x s).vdr = s.vdr ∧ (feedLiftWindow y x s).sto = s.sto
      ∧ (feedLiftWindow y x s).clp = s.clp ∧ (feedLiftWindow y x s).pending = s.pending := by
  unfold feedLiftWindow
  (try dsimp only)
  (repeat' split) <;> simp

@[simp] theorem captureTip_frame (n : Nat) (s : State) :
    (captureTip n s).powered = s.powered ∧ (captureTip n s).iau = s.iau
      ∧ (captureTip n s).tlc = s.tlc ∧ (captureTip n s).geo = s.geo
      ∧ (captureTip n s).tal = s.tal ∧ (captureTip n s).sto = s.sto
      ∧ (captureTip n s).pending = s.pending := by
  unfold captureTip
  (repeat' split) <;> simp

@[simp] theorem feedIf_frame (f : Bool) (x : Int) (s : State) :
    (feedIf f x s).powered = s.powered ∧ (feedIf f x s).iau = s.iau
      ∧ (feedIf f x s).tlc = s.tlc ∧ (feedIf f x s).geo = s.geo ∧ (feedIf f x s).ltr = s.ltr
      ∧ (feedIf f x s).tal = s.tal ∧ (feedIf f x s).log = s.log ∧ (feedIf f x s).mlm = s.mlm
      ∧ (feedIf f x s).vdr = s.vdr ∧ (feedIf f x s).sto = s.sto ∧ (feedIf f x s).clp = s.clp
      ∧ (feedIf f x s).pending = s.pending := by
  unfold feedIf
  (repeat' split) <;> simp

@[simp] theorem handIf_frame (f : Bool) (s : State) :
    (handIf f s).powered = s.powered ∧ (handIf f s).iau = s.iau ∧ (handIf f s).tlc = s.tlc
      ∧ (handIf f s).geo = s.geo ∧ (handIf f s).tal = s.tal ∧ (handIf f s).sto = s.sto
      ∧ (handIf f s).pending = s.pending := by
  unfold handIf
  (repeat' split) <;> simp

@[simp] theorem gateTip_frame (t : TipSample) (x : Int) (s : State) :
    (gateTip t x s).powered = s.powered ∧ (gateTip t x s).iau = s.iau
      ∧ (gateTip t x s).tlc = s.tlc ∧ (gateTip t x s).geo = s.geo ∧ (gateTip t x s).ltr = s.ltr
      ∧ (gateTip t x s).tal = s.tal ∧ (gateTip t x s).log = s.log ∧ (gateTip t x s).mlm = s.mlm
      ∧ (gateTip t x s).vdr = s.vdr ∧ (gateTip t x s).sto = s.sto
      ∧ (gateTip t x s).pending = s.pending := by
  unfold gateTip
  (repeat' split) <;> simp

@[simp] theorem countTip_frame (t : TipSample) (s : State) :
    (countTip t s).powered = s.powered ∧ (countTip t s).iau = s.iau
      ∧ (countTip t s).tlc = s.tlc ∧ (countTip t s).geo = s.geo ∧ (countTip t s).tal = s.tal
      ∧ (countTip t s).sto = s.sto ∧ (countTip t s).pending = s.pending := by
  unfold countTip
  (repeat' split) <;> simp

@[simp] theorem rememberTip_frame (t : TipSample) (x : Int) (s : State) :
    (rememberTip t x s).powered = s.powered ∧ (rememberTip t x s).iau = s.iau
      ∧ (rememberTip t x s).tlc = s.tlc ∧ (rememberTip t x s).geo = s.geo
      ∧ (rememberTip t x s).ltr = s.ltr ∧ (rememberTip t x s).tal = s.tal
      ∧ (rememberTip t x s).log = s.log ∧ (rememberTip t x s).mlm = s.mlm
      ∧ (rememberTip t x s).vdr = s.vdr ∧ (rememberTip t x s).sto = s.sto
      ∧ (rememberTip t x s).clp = s.clp ∧ (rememberTip t x s).pending = s.pending := by
  unfold rememberTip
  (try dsimp only)
  simp

@[simp] theorem tipSample_frame (t : TipSample) (s : State) :
    (tipSample t s).powered = s.powered ∧ (tipSample t s).iau = s.iau
      ∧ (tipSample t s).tlc = s.tlc ∧ (tipSample t s).geo = s.geo ∧ (tipSample t s).tal = s.tal
      ∧ (tipSample t s).sto = s.sto ∧ (tipSample t s).pending = s.pending := by
  unfold tipSample
  (try dsimp only)
  simp

@[simp] theorem tipLinkDown_frame (s : State) :
    (tipLinkDown s).powered = s.powered ∧ (tipLinkDown s).iau = s.iau
      ∧ (tipLinkDown s).tlc = s.tlc ∧ (tipLinkDown s).geo = s.geo ∧ (tipLinkDown s).tal = s.tal
      ∧ (tipLinkDown s).sto = s.sto ∧ (tipLinkDown s).pending = s.pending := by
  unfold tipLinkDown
  (try dsimp only)
  simp

@[simp] theorem tipStuckChanged_frame (s : State) :
    (tipStuckChanged s).powered = s.powered ∧ (tipStuckChanged s).iau = s.iau
      ∧ (tipStuckChanged s).tlc = s.tlc ∧ (tipStuckChanged s).geo = s.geo
      ∧ (tipStuckChanged s).tal = s.tal ∧ (tipStuckChanged s).sto = s.sto
      ∧ (tipStuckChanged s).pending = s.pending := by
  unfold tipStuckChanged
  (repeat' split) <;> simp

@[simp] theorem gateCylinder_frame (x : Int) (s : State) :
    (gateCylinder x s).powered = s.powered ∧ (gateCylinder x s).iau = s.iau
      ∧ (gateCylinder x s).tlc = s.tlc ∧ (gateCylinder x s).geo = s.geo
      ∧ (gateCylinder x s).ltr = s.ltr ∧ (gateCylinder x s).tal = s.tal
      ∧ (gateCylinder x s).log = s.log ∧ (gateCylinder x s).mlm = s.mlm
      ∧ (gateCylinder x s).vdr = s.vdr ∧ (gateCylinder x s).sto = s.sto
      ∧ (gateCylinder x s).clp = s.clp ∧ (gateCylinder x s).pending = s.pending := by
  unfold gateCylinder
  (repeat' split) <;> simp

@[simp] theorem takeCylinderSample_frame (x : Int) (s : State) :
    (takeCylinderSample x s).powered = s.powered ∧ (takeCylinderSample x s).iau = s.iau
      ∧ (takeCylinderSample x s).tlc = s.tlc ∧ (takeCylinderSample x s).geo = s.geo
      ∧ (takeCylinderSample x s).tal = s.tal ∧ (takeCylinderSample x s).sto = s.sto
      ∧ (takeCylinderSample x s).pending = s.pending := by
  unfold takeCylinderSample
  (try dsimp only)
  simp

@[simp] theorem noCylinderSample_frame (s : State) :
    (noCylinderSample s).powered = s.powered ∧ (noCylinderSample s).iau = s.iau
      ∧ (noCylinderSample s).tlc = s.tlc ∧ (noCylinderSample s).geo = s.geo
      ∧ (noCylinderSample s).tal = s.tal ∧ (noCylinderSample s).sto = s.sto
      ∧ (noCylinderSample s).pending = s.pending := by
  unfold noCylinderSample
  (try dsimp only)
  (repeat' split) <;> simp

@[simp] theorem captureCylinder_frame (f : CylinderForce) (b : Option CylinderForce) (s : State) :
    (captureCylinder f b s).powered = s.powered ∧ (captureCylinder f b s).iau = s.iau
      ∧ (captureCylinder f b s).tlc = s.tlc ∧ (captureCylinder f b s).geo = s.geo
      ∧ (captureCylinder f b s).tal = s.tal ∧ (captureCylinder f b s).sto = s.sto
      ∧ (captureCylinder f b s).pending = s.pending := by
  unfold captureCylinder
  (repeat' split) <;> simp

@[simp] theorem cylinderFrame_frame (s : State) :
    (cylinderFrame s).powered = s.powered ∧ (cylinderFrame s).iau = s.iau
      ∧ (cylinderFrame s).tlc = s.tlc ∧ (cylinderFrame s).geo = s.geo
      ∧ (cylinderFrame s).tal = s.tal ∧ (cylinderFrame s).sto = s.sto
      ∧ (cylinderFrame s).pending = s.pending := by
  unfold cylinderFrame
  (try dsimp only)
  (repeat' split) <;> simp

@[simp] theorem updateCompensation_frame (s : State) :
    (updateCompensation s).powered = s.powered ∧ (updateCompensation s).iau = s.iau
      ∧ (updateCompensation s).tlc = s.tlc ∧ (updateCompensation s).geo = s.geo
      ∧ (updateCompensation s).ltr = s.ltr ∧ (updateCompensation s).tal = s.tal
      ∧ (updateCompensation s).log = s.log ∧ (updateCompensation s).mlm = s.mlm
      ∧ (updateCompensation s).vdr = s.vdr ∧ (updateCompensation s).sto = s.sto
      ∧ (updateCompensation s).clp = s.clp ∧ (updateCompensation s).pending = s.pending := by
  unfold updateCompensation
  (try dsimp only)
  simp

@[simp] theorem takeWeigh_frame (t : WeighSettings) (s : State) :
    (takeWeigh t s).powered = s.powered ∧ (takeWeigh t s).iau = s.iau
      ∧ (takeWeigh t s).tlc = s.tlc ∧ (takeWeigh t s).geo = s.geo ∧ (takeWeigh t s).ltr = s.ltr
      ∧ (takeWeigh t s).tal = s.tal ∧ (takeWeigh t s).log = s.log ∧ (takeWeigh t s).mlm = s.mlm
      ∧ (takeWeigh t s).vdr = s.vdr ∧ (takeWeigh t s).sto = s.sto ∧ (takeWeigh t s).clp = s.clp
      ∧ (takeWeigh t s).pending = s.pending := by
  unfold takeWeigh
  (try dsimp only)
  simp

@[simp] theorem recordChange_frame (n : CalName) (x y : Int) (s : State) :
    (recordChange n x y s).powered = s.powered ∧ (recordChange n x y s).iau = s.iau
      ∧ (recordChange n x y s).tlc = s.tlc ∧ (recordChange n x y s).geo = s.geo
      ∧ (recordChange n x y s).wen = s.wen ∧ (recordChange n x y s).ltr = s.ltr
      ∧ (recordChange n x y s).tal = s.tal ∧ (recordChange n x y s).mlm = s.mlm
      ∧ (recordChange n x y s).vdr = s.vdr ∧ (recordChange n x y s).sto = s.sto
      ∧ (recordChange n x y s).pending = s.pending := by
  unfold recordChange
  (repeat' split) <;> simp

@[simp] theorem takeCalibration_frame (f : CalibrationFields) (s : State) :
    (takeCalibration f s).powered = s.powered ∧ (takeCalibration f s).iau = s.iau
      ∧ (takeCalibration f s).tlc = s.tlc ∧ (takeCalibration f s).geo = s.geo
      ∧ (takeCalibration f s).ltr = s.ltr ∧ (takeCalibration f s).tal = s.tal
      ∧ (takeCalibration f s).mlm = s.mlm ∧ (takeCalibration f s).vdr = s.vdr
      ∧ (takeCalibration f s).sto = s.sto ∧ (takeCalibration f s).pending = s.pending := by
  unfold takeCalibration
  (try dsimp only)
  simp

@[simp] theorem startCapture_frame (k : CaptureKind) (b : Option (Fin 8)) (m : Nat) (s : State) :
    (startCapture k b m s).powered = s.powered ∧ (startCapture k b m s).iau = s.iau
      ∧ (startCapture k b m s).tlc = s.tlc ∧ (startCapture k b m s).geo = s.geo
      ∧ (startCapture k b m s).ltr = s.ltr ∧ (startCapture k b m s).tal = s.tal
      ∧ (startCapture k b m s).log = s.log ∧ (startCapture k b m s).mlm = s.mlm
      ∧ (startCapture k b m s).vdr = s.vdr ∧ (startCapture k b m s).sto = s.sto
      ∧ (startCapture k b m s).clp = s.clp ∧ (startCapture k b m s).pending = s.pending := by
  unfold startCapture
  (try dsimp only)
  simp

@[simp] theorem startCylLoad_frame (b : Fin 8) (m : Nat) (s : State) :
    (startCylLoad b m s).powered = s.powered ∧ (startCylLoad b m s).iau = s.iau
      ∧ (startCylLoad b m s).tlc = s.tlc ∧ (startCylLoad b m s).geo = s.geo
      ∧ (startCylLoad b m s).ltr = s.ltr ∧ (startCylLoad b m s).tal = s.tal
      ∧ (startCylLoad b m s).log = s.log ∧ (startCylLoad b m s).mlm = s.mlm
      ∧ (startCylLoad b m s).vdr = s.vdr ∧ (startCylLoad b m s).sto = s.sto
      ∧ (startCylLoad b m s).pending = s.pending := by
  unfold startCylLoad
  (try dsimp only)
  (repeat' split) <;> simp

/-! ## TipLink -/

@[simp] theorem handLink_frame (x y : LinkState) (s : State) :
    (handLink x y s).powered = s.powered ∧ (handLink x y s).iau = s.iau
      ∧ (handLink x y s).tlc = s.tlc ∧ (handLink x y s).geo = s.geo
      ∧ (handLink x y s).tal = s.tal ∧ (handLink x y s).sto = s.sto
      ∧ (handLink x y s).pending = s.pending := by
  unfold handLink
  (repeat' split) <;> simp

@[simp] theorem moveLink_frame (t : Tlc) (s : State) :
    (moveLink t s).powered = s.powered ∧ (moveLink t s).iau = s.iau
      ∧ (moveLink t s).geo = s.geo ∧ (moveLink t s).tal = s.tal ∧ (moveLink t s).sto = s.sto
      ∧ (moveLink t s).pending = s.pending := by
  unfold moveLink
  (try dsimp only)
  (repeat' split) <;> simp

@[simp] theorem setStuck_frame (v : Bool) (s : State) :
    (setStuck v s).powered = s.powered ∧ (setStuck v s).iau = s.iau
      ∧ (setStuck v s).tlc = s.tlc ∧ (setStuck v s).geo = s.geo ∧ (setStuck v s).tal = s.tal
      ∧ (setStuck v s).sto = s.sto ∧ (setStuck v s).pending = s.pending := by
  unfold setStuck
  (repeat' split) <;> simp

@[simp] theorem freshBringUp_frame (s : State) :
    (freshBringUp s).powered = s.powered ∧ (freshBringUp s).iau = s.iau
      ∧ (freshBringUp s).geo = s.geo ∧ (freshBringUp s).tal = s.tal
      ∧ (freshBringUp s).sto = s.sto ∧ (freshBringUp s).pending = s.pending := by
  unfold freshBringUp
  simp

@[simp] theorem countErrors_frame (n : Nat) (s : State) :
    (countErrors n s).powered = s.powered ∧ (countErrors n s).iau = s.iau
      ∧ (countErrors n s).geo = s.geo ∧ (countErrors n s).wen = s.wen
      ∧ (countErrors n s).ltr = s.ltr ∧ (countErrors n s).tal = s.tal
      ∧ (countErrors n s).log = s.log ∧ (countErrors n s).mlm = s.mlm
      ∧ (countErrors n s).vdr = s.vdr ∧ (countErrors n s).sto = s.sto
      ∧ (countErrors n s).pending = s.pending := by
  unfold countErrors
  (try dsimp only)
  (repeat' split) <;> simp

@[simp] theorem judgeNoise_frame (s : State) :
    (judgeNoise s).powered = s.powered ∧ (judgeNoise s).iau = s.iau
      ∧ (judgeNoise s).geo = s.geo ∧ (judgeNoise s).tal = s.tal ∧ (judgeNoise s).sto = s.sto
      ∧ (judgeNoise s).pending = s.pending := by
  unfold judgeNoise
  (repeat' split) <;> simp

@[simp] theorem dropFrame_frame (s : State) :
    (dropFrame s).powered = s.powered ∧ (dropFrame s).iau = s.iau ∧ (dropFrame s).geo = s.geo
      ∧ (dropFrame s).tal = s.tal ∧ (dropFrame s).sto = s.sto
      ∧ (dropFrame s).pending = s.pending := by
  unfold dropFrame
  simp

@[simp] theorem transferErrors_frame (s : State) :
    (transferErrors s).powered = s.powered ∧ (transferErrors s).iau = s.iau
      ∧ (transferErrors s).geo = s.geo ∧ (transferErrors s).wen = s.wen
      ∧ (transferErrors s).ltr = s.ltr ∧ (transferErrors s).tal = s.tal
      ∧ (transferErrors s).log = s.log ∧ (transferErrors s).mlm = s.mlm
      ∧ (transferErrors s).vdr = s.vdr ∧ (transferErrors s).sto = s.sto
      ∧ (transferErrors s).pending = s.pending := by
  unfold transferErrors
  (try dsimp only)
  simp

@[simp] theorem acceptFrame_frame (q : Byte) (x : TipSample) (m : Nat) (s : State) :
    (acceptFrame q x m s).powered = s.powered ∧ (acceptFrame q x m s).iau = s.iau
      ∧ (acceptFrame q x m s).geo = s.geo ∧ (acceptFrame q x m s).tal = s.tal
      ∧ (acceptFrame q x m s).sto = s.sto ∧ (acceptFrame q x m s).pending = s.pending := by
  unfold acceptFrame
  (try dsimp only)
  (repeat' split) <;> simp

@[simp] theorem judgeFrame_frame (q : Byte) (x : TipSample) (s : State) :
    (judgeFrame q x s).powered = s.powered ∧ (judgeFrame q x s).iau = s.iau
      ∧ (judgeFrame q x s).geo = s.geo ∧ (judgeFrame q x s).tal = s.tal
      ∧ (judgeFrame q x s).sto = s.sto ∧ (judgeFrame q x s).pending = s.pending := by
  unfold judgeFrame
  (try dsimp only)
  (repeat' split) <;> simp

@[simp] theorem takeHailReply_frame (s : State) :
    (takeHailReply s).powered = s.powered ∧ (takeHailReply s).iau = s.iau
      ∧ (takeHailReply s).geo = s.geo ∧ (takeHailReply s).tal = s.tal
      ∧ (takeHailReply s).sto = s.sto ∧ (takeHailReply s).pending = s.pending := by
  unfold takeHailReply
  (repeat' split) <;> simp

@[simp] theorem takeProbeEcho_frame (r n : Byte) (s : State) :
    (takeProbeEcho r n s).powered = s.powered ∧ (takeProbeEcho r n s).iau = s.iau
      ∧ (takeProbeEcho r n s).geo = s.geo ∧ (takeProbeEcho r n s).tal = s.tal
      ∧ (takeProbeEcho r n s).sto = s.sto ∧ (takeProbeEcho r n s).pending = s.pending := by
  unfold takeProbeEcho
  (repeat' split) <;> simp

@[simp] theorem takeData_frame (q : Byte) (x : TipSample) (s : State) :
    (takeData q x s).powered = s.powered ∧ (takeData q x s).iau = s.iau
      ∧ (takeData q x s).geo = s.geo ∧ (takeData q x s).tal = s.tal
      ∧ (takeData q x s).sto = s.sto ∧ (takeData q x s).pending = s.pending := by
  unfold takeData
  (repeat' split) <;> simp

@[simp] theorem takeDamaged_frame (s : State) :
    (takeDamaged s).powered = s.powered ∧ (takeDamaged s).iau = s.iau
      ∧ (takeDamaged s).geo = s.geo ∧ (takeDamaged s).tal = s.tal ∧ (takeDamaged s).sto = s.sto
      ∧ (takeDamaged s).pending = s.pending := by
  unfold takeDamaged
  (repeat' split) <;> simp

@[simp] theorem expireHail_frame (s : State) :
    (expireHail s).powered = s.powered ∧ (expireHail s).iau = s.iau
      ∧ (expireHail s).geo = s.geo ∧ (expireHail s).tal = s.tal ∧ (expireHail s).sto = s.sto
      ∧ (expireHail s).pending = s.pending := by
  unfold expireHail
  (repeat' split) <;> simp

@[simp] theorem resendProbe_frame (s : State) :
    (resendProbe s).powered = s.powered ∧ (resendProbe s).iau = s.iau
      ∧ (resendProbe s).geo = s.geo ∧ (resendProbe s).wen = s.wen ∧ (resendProbe s).ltr = s.ltr
      ∧ (resendProbe s).tal = s.tal ∧ (resendProbe s).log = s.log ∧ (resendProbe s).mlm = s.mlm
      ∧ (resendProbe s).vdr = s.vdr ∧ (resendProbe s).sto = s.sto ∧ (resendProbe s).clp = s.clp
      ∧ (resendProbe s).pending = s.pending := by
  unfold resendProbe
  (try dsimp only)
  (repeat' split) <;> simp

@[simp] theorem expireProbe_frame (s : State) :
    (expireProbe s).powered = s.powered ∧ (expireProbe s).iau = s.iau
      ∧ (expireProbe s).geo = s.geo ∧ (expireProbe s).tal = s.tal ∧ (expireProbe s).sto = s.sto
      ∧ (expireProbe s).pending = s.pending := by
  unfold expireProbe
  (repeat' split) <;> simp

@[simp] theorem resendGo_frame (s : State) :
    (resendGo s).powered = s.powered ∧ (resendGo s).iau = s.iau ∧ (resendGo s).geo = s.geo
      ∧ (resendGo s).wen = s.wen ∧ (resendGo s).ltr = s.ltr ∧ (resendGo s).tal = s.tal
      ∧ (resendGo s).log = s.log ∧ (resendGo s).mlm = s.mlm ∧ (resendGo s).vdr = s.vdr
      ∧ (resendGo s).sto = s.sto ∧ (resendGo s).clp = s.clp ∧ (resendGo s).pending = s.pending := by
  unfold resendGo
  (try dsimp only)
  (repeat' split) <;> simp

@[simp] theorem expireStart_frame (s : State) :
    (expireStart s).powered = s.powered ∧ (expireStart s).iau = s.iau
      ∧ (expireStart s).geo = s.geo ∧ (expireStart s).tal = s.tal ∧ (expireStart s).sto = s.sto
      ∧ (expireStart s).pending = s.pending := by
  unfold expireStart
  (repeat' split) <;> simp

@[simp] theorem expireLoss_frame (s : State) :
    (expireLoss s).powered = s.powered ∧ (expireLoss s).iau = s.iau
      ∧ (expireLoss s).geo = s.geo ∧ (expireLoss s).tal = s.tal ∧ (expireLoss s).sto = s.sto
      ∧ (expireLoss s).pending = s.pending := by
  unfold expireLoss
  (repeat' split) <;> simp

@[simp] theorem expireBackOff_frame (s : State) :
    (expireBackOff s).powered = s.powered ∧ (expireBackOff s).iau = s.iau
      ∧ (expireBackOff s).geo = s.geo ∧ (expireBackOff s).tal = s.tal
      ∧ (expireBackOff s).sto = s.sto ∧ (expireBackOff s).pending = s.pending := by
  unfold expireBackOff
  (repeat' split) <;> simp

@[simp] theorem expireNoise_frame (s : State) :
    (expireNoise s).powered = s.powered ∧ (expireNoise s).iau = s.iau
      ∧ (expireNoise s).geo = s.geo ∧ (expireNoise s).wen = s.wen ∧ (expireNoise s).ltr = s.ltr
      ∧ (expireNoise s).tal = s.tal ∧ (expireNoise s).log = s.log ∧ (expireNoise s).mlm = s.mlm
      ∧ (expireNoise s).vdr = s.vdr ∧ (expireNoise s).sto = s.sto ∧ (expireNoise s).clp = s.clp
      ∧ (expireNoise s).pending = s.pending := by
  unfold expireNoise
  (try dsimp only)
  simp

@[simp] theorem expireReport_frame (s : State) :
    (expireReport s).powered = s.powered ∧ (expireReport s).iau = s.iau
      ∧ (expireReport s).geo = s.geo ∧ (expireReport s).wen = s.wen
      ∧ (expireReport s).ltr = s.ltr ∧ (expireReport s).tal = s.tal
      ∧ (expireReport s).log = s.log ∧ (expireReport s).mlm = s.mlm
      ∧ (expireReport s).vdr = s.vdr ∧ (expireReport s).sto = s.sto
      ∧ (expireReport s).pending = s.pending := by
  unfold expireReport
  (try dsimp only)
  (repeat' split) <;> simp

@[simp] theorem takeTipLink_frame (t : TipSettings) (s : State) :
    (takeTipLink t s).powered = s.powered ∧ (takeTipLink t s).iau = s.iau
      ∧ (takeTipLink t s).geo = s.geo ∧ (takeTipLink t s).tal = s.tal
      ∧ (takeTipLink t s).sto = s.sto ∧ (takeTipLink t s).pending = s.pending := by
  unfold takeTipLink
  (try dsimp only)
  (repeat' split) <;> simp

/-! ## Inputs -/

@[simp] theorem updateGeometry_frame (s : State) :
    (updateGeometry s).powered = s.powered ∧ (updateGeometry s).iau = s.iau
      ∧ (updateGeometry s).tlc = s.tlc ∧ (updateGeometry s).wen = s.wen
      ∧ (updateGeometry s).ltr = s.ltr ∧ (updateGeometry s).tal = s.tal
      ∧ (updateGeometry s).log = s.log ∧ (updateGeometry s).mlm = s.mlm
      ∧ (updateGeometry s).vdr = s.vdr ∧ (updateGeometry s).sto = s.sto
      ∧ (updateGeometry s).pending = s.pending := by
  unfold updateGeometry
  (try dsimp only)
  simp

@[simp] theorem setSensorFaults_frame (k : PerChannel RawCode) (s : State) :
    (setSensorFaults k s).powered = s.powered ∧ (setSensorFaults k s).iau = s.iau
      ∧ (setSensorFaults k s).tlc = s.tlc ∧ (setSensorFaults k s).geo = s.geo
      ∧ (setSensorFaults k s).wen = s.wen ∧ (setSensorFaults k s).ltr = s.ltr
      ∧ (setSensorFaults k s).tal = s.tal ∧ (setSensorFaults k s).log = s.log
      ∧ (setSensorFaults k s).mlm = s.mlm ∧ (setSensorFaults k s).vdr = s.vdr
      ∧ (setSensorFaults k s).sto = s.sto ∧ (setSensorFaults k s).pending = s.pending := by
  simp [setSensorFaults, Channel.list]

@[simp] theorem noteEdge_frame (b : PerLine LineState) (l : Line) (s : State) :
    (noteEdge b l s).powered = s.powered ∧ (noteEdge b l s).iau = s.iau
      ∧ (noteEdge b l s).tlc = s.tlc ∧ (noteEdge b l s).geo = s.geo
      ∧ (noteEdge b l s).wen = s.wen ∧ (noteEdge b l s).ltr = s.ltr
      ∧ (noteEdge b l s).tal = s.tal ∧ (noteEdge b l s).log = s.log
      ∧ (noteEdge b l s).mlm = s.mlm ∧ (noteEdge b l s).vdr = s.vdr
      ∧ (noteEdge b l s).sto = s.sto ∧ (noteEdge b l s).pending = s.pending := by
  unfold noteEdge
  (repeat' split) <;> simp

@[simp] theorem handSwitch_frame (s : State) :
    (handSwitch s).powered = s.powered ∧ (handSwitch s).iau = s.iau
      ∧ (handSwitch s).tlc = s.tlc ∧ (handSwitch s).geo = s.geo ∧ (handSwitch s).wen = s.wen
      ∧ (handSwitch s).ltr = s.ltr ∧ (handSwitch s).log = s.log ∧ (handSwitch s).mlm = s.mlm
      ∧ (handSwitch s).vdr = s.vdr ∧ (handSwitch s).sto = s.sto ∧ (handSwitch s).clp = s.clp
      ∧ (handSwitch s).pending = s.pending := by
  unfold handSwitch
  (try dsimp only)
  simp

@[simp] theorem sampleInputs_frame (k : PerChannel RawCode) (l : PerLine Level) (s : State) :
    (sampleInputs k l s).powered = s.powered ∧ (sampleInputs k l s).tlc = s.tlc
      ∧ (sampleInputs k l s).geo = s.geo ∧ (sampleInputs k l s).wen = s.wen
      ∧ (sampleInputs k l s).ltr = s.ltr ∧ (sampleInputs k l s).tal = s.tal
      ∧ (sampleInputs k l s).log = s.log ∧ (sampleInputs k l s).mlm = s.mlm
      ∧ (sampleInputs k l s).vdr = s.vdr ∧ (sampleInputs k l s).sto = s.sto
      ∧ (sampleInputs k l s).clp = s.clp ∧ (sampleInputs k l s).pending = s.pending := by
  unfold sampleInputs
  (try dsimp only)
  simp

@[simp] theorem acquire_frame (k : PerChannel RawCode) (l : PerLine Level) (s : State) :
    (acquire k l s).powered = s.powered ∧ (acquire k l s).tlc = s.tlc
      ∧ (acquire k l s).wen = s.wen ∧ (acquire k l s).ltr = s.ltr ∧ (acquire k l s).log = s.log
      ∧ (acquire k l s).mlm = s.mlm ∧ (acquire k l s).vdr = s.vdr ∧ (acquire k l s).sto = s.sto
      ∧ (acquire k l s).pending = s.pending := by
  simp [acquire, Line.list]

@[simp] theorem performTask_frame (m : Bool) (t : FrameTask) (s : State) :
    (performTask m t s).powered = s.powered ∧ (performTask m t s).iau = s.iau
      ∧ (performTask m t s).tlc = s.tlc ∧ (performTask m t s).geo = s.geo
      ∧ (performTask m t s).sto = s.sto ∧ (performTask m t s).pending = s.pending := by
  unfold performTask
  (repeat' split) <;> simp

@[simp] theorem takeFrame_frame (k : PerChannel RawCode) (l : PerLine Level) (o : FrameOrder) (s : State) :
    (takeFrame k l o s).powered = s.powered ∧ (takeFrame k l o s).tlc = s.tlc
      ∧ (takeFrame k l o s).sto = s.sto ∧ (takeFrame k l o s).pending = s.pending := by
  have h : ∀ (ts : List FrameTask) (m : Bool) (u : State),
      (ts.foldl (fun s t => performTask m t s) u).powered = u.powered
        ∧ (ts.foldl (fun s t => performTask m t s) u).tlc = u.tlc
        ∧ (ts.foldl (fun s t => performTask m t s) u).sto = u.sto
        ∧ (ts.foldl (fun s t => performTask m t s) u).pending = u.pending := by
    intro ts m
    induction ts with
    | nil => simp
    | cons t ts ih => intro u; simp [ih]
  simp [takeFrame, h]

@[simp] theorem takeChannel_frame (c : Channel) (t : ChannelSettings) (s : State) :
    (takeChannel c t s).powered = s.powered ∧ (takeChannel c t s).tlc = s.tlc
      ∧ (takeChannel c t s).geo = s.geo ∧ (takeChannel c t s).wen = s.wen
      ∧ (takeChannel c t s).ltr = s.ltr ∧ (takeChannel c t s).tal = s.tal
      ∧ (takeChannel c t s).log = s.log ∧ (takeChannel c t s).mlm = s.mlm
      ∧ (takeChannel c t s).vdr = s.vdr ∧ (takeChannel c t s).sto = s.sto
      ∧ (takeChannel c t s).clp = s.clp ∧ (takeChannel c t s).pending = s.pending := by
  unfold takeChannel
  (try dsimp only)
  simp

@[simp] theorem takeLine_frame (l : Line) (t : LineSettings) (s : State) :
    (takeLine l t s).powered = s.powered ∧ (takeLine l t s).tlc = s.tlc
      ∧ (takeLine l t s).geo = s.geo ∧ (takeLine l t s).wen = s.wen
      ∧ (takeLine l t s).ltr = s.ltr ∧ (takeLine l t s).log = s.log
      ∧ (takeLine l t s).mlm = s.mlm ∧ (takeLine l t s).vdr = s.vdr
      ∧ (takeLine l t s).sto = s.sto ∧ (takeLine l t s).clp = s.clp
      ∧ (takeLine l t s).pending = s.pending := by
  unfold takeLine
  (try dsimp only)
  simp

@[simp] theorem takeLevels_frame (m l : Nat) (s : State) :
    (takeLevels m l s).powered = s.powered ∧ (takeLevels m l s).tlc = s.tlc
      ∧ (takeLevels m l s).geo = s.geo ∧ (takeLevels m l s).wen = s.wen
      ∧ (takeLevels m l s).ltr = s.ltr ∧ (takeLevels m l s).tal = s.tal
      ∧ (takeLevels m l s).log = s.log ∧ (takeLevels m l s).mlm = s.mlm
      ∧ (takeLevels m l s).vdr = s.vdr ∧ (takeLevels m l s).sto = s.sto
      ∧ (takeLevels m l s).clp = s.clp ∧ (takeLevels m l s).pending = s.pending := by
  unfold takeLevels
  (try dsimp only)
  simp

/-! ## Valve -/

@[simp] theorem takeLever_frame (d : PerSection Int) (s : State) :
    (takeLever d s).powered = s.powered ∧ (takeLever d s).iau = s.iau
      ∧ (takeLever d s).tlc = s.tlc ∧ (takeLever d s).geo = s.geo ∧ (takeLever d s).wen = s.wen
      ∧ (takeLever d s).ltr = s.ltr ∧ (takeLever d s).tal = s.tal ∧ (takeLever d s).log = s.log
      ∧ (takeLever d s).mlm = s.mlm ∧ (takeLever d s).sto = s.sto
      ∧ (takeLever d s).pending = s.pending := by
  unfold takeLever
  (try dsimp only)
  simp

@[simp] theorem expireLever_frame (s : State) :
    (expireLever s).powered = s.powered ∧ (expireLever s).iau = s.iau
      ∧ (expireLever s).tlc = s.tlc ∧ (expireLever s).geo = s.geo ∧ (expireLever s).wen = s.wen
      ∧ (expireLever s).ltr = s.ltr ∧ (expireLever s).tal = s.tal ∧ (expireLever s).log = s.log
      ∧ (expireLever s).mlm = s.mlm ∧ (expireLever s).sto = s.sto
      ∧ (expireLever s).pending = s.pending := by
  unfold expireLever
  (try dsimp only)
  (repeat' split) <;> simp

@[simp] theorem updateDrive_frame (m : CoilSamples) (s : State) :
    (updateDrive m s).powered = s.powered ∧ (updateDrive m s).iau = s.iau
      ∧ (updateDrive m s).tlc = s.tlc ∧ (updateDrive m s).geo = s.geo
      ∧ (updateDrive m s).wen = s.wen ∧ (updateDrive m s).ltr = s.ltr
      ∧ (updateDrive m s).tal = s.tal ∧ (updateDrive m s).log = s.log
      ∧ (updateDrive m s).mlm = s.mlm ∧ (updateDrive m s).sto = s.sto
      ∧ (updateDrive m s).pending = s.pending := by
  unfold updateDrive
  (try dsimp only)
  simp

@[simp] theorem takeShort_frame (v : Section) (c : Coil) (s : State) :
    (takeShort v c s).powered = s.powered ∧ (takeShort v c s).iau = s.iau
      ∧ (takeShort v c s).tlc = s.tlc ∧ (takeShort v c s).geo = s.geo
      ∧ (takeShort v c s).wen = s.wen ∧ (takeShort v c s).ltr = s.ltr
      ∧ (takeShort v c s).tal = s.tal ∧ (takeShort v c s).log = s.log
      ∧ (takeShort v c s).mlm = s.mlm ∧ (takeShort v c s).sto = s.sto
      ∧ (takeShort v c s).pending = s.pending := by
  unfold takeShort
  (try dsimp only)
  (repeat' split) <;> simp

@[simp] theorem reenableSections_frame (s : State) :
    (reenableSections s).powered = s.powered ∧ (reenableSections s).iau = s.iau
      ∧ (reenableSections s).tlc = s.tlc ∧ (reenableSections s).geo = s.geo
      ∧ (reenableSections s).wen = s.wen ∧ (reenableSections s).ltr = s.ltr
      ∧ (reenableSections s).tal = s.tal ∧ (reenableSections s).log = s.log
      ∧ (reenableSections s).mlm = s.mlm ∧ (reenableSections s).sto = s.sto
      ∧ (reenableSections s).pending = s.pending := by
  unfold reenableSections
  (try dsimp only)
  simp

@[simp] theorem clampSections_frame (s : State) :
    (clampSections s).powered = s.powered ∧ (clampSections s).iau = s.iau
      ∧ (clampSections s).tlc = s.tlc ∧ (clampSections s).geo = s.geo
      ∧ (clampSections s).wen = s.wen ∧ (clampSections s).ltr = s.ltr
      ∧ (clampSections s).tal = s.tal ∧ (clampSections s).log = s.log
      ∧ (clampSections s).mlm = s.mlm ∧ (clampSections s).sto = s.sto
      ∧ (clampSections s).clp = s.clp ∧ (clampSections s).pending = s.pending := by
  unfold clampSections
  (try dsimp only)
  simp

@[simp] theorem takeSection_frame (l : List Section) (t : SectionSettings) (s : State) :
    (takeSection l t s).powered = s.powered ∧ (takeSection l t s).iau = s.iau
      ∧ (takeSection l t s).tlc = s.tlc ∧ (takeSection l t s).geo = s.geo
      ∧ (takeSection l t s).wen = s.wen ∧ (takeSection l t s).ltr = s.ltr
      ∧ (takeSection l t s).tal = s.tal ∧ (takeSection l t s).log = s.log
      ∧ (takeSection l t s).mlm = s.mlm ∧ (takeSection l t s).sto = s.sto
      ∧ (takeSection l t s).clp = s.clp ∧ (takeSection l t s).pending = s.pending := by
  unfold takeSection
  (try dsimp only)
  simp

/-! ## Store -/

@[simp] theorem beginWrite_frame (w : StoreWrite) (s : State) :
    (beginWrite w s).powered = s.powered ∧ (beginWrite w s).iau = s.iau
      ∧ (beginWrite w s).tlc = s.tlc ∧ (beginWrite w s).geo = s.geo
      ∧ (beginWrite w s).wen = s.wen ∧ (beginWrite w s).ltr = s.ltr
      ∧ (beginWrite w s).tal = s.tal ∧ (beginWrite w s).log = s.log
      ∧ (beginWrite w s).mlm = s.mlm ∧ (beginWrite w s).vdr = s.vdr
      ∧ (beginWrite w s).clp = s.clp ∧ (beginWrite w s).pending = s.pending := by
  unfold beginWrite
  (try dsimp only)
  simp

@[simp] theorem finishPart_frame (s : State) :
    (finishPart s).powered = s.powered ∧ (finishPart s).iau = s.iau
      ∧ (finishPart s).tlc = s.tlc ∧ (finishPart s).geo = s.geo ∧ (finishPart s).wen = s.wen
      ∧ (finishPart s).ltr = s.ltr ∧ (finishPart s).tal = s.tal ∧ (finishPart s).log = s.log
      ∧ (finishPart s).mlm = s.mlm ∧ (finishPart s).vdr = s.vdr
      ∧ (finishPart s).pending = s.pending := by
  unfold finishPart
  (try dsimp only)
  (repeat' split) <;> simp

@[simp] theorem handProfile_frame (s : State) :
    (handProfile s).powered = s.powered ∧ (handProfile s).iau = s.iau
      ∧ (handProfile s).tlc = s.tlc ∧ (handProfile s).geo = s.geo ∧ (handProfile s).tal = s.tal
      ∧ (handProfile s).sto = s.sto ∧ (handProfile s).pending = s.pending := by
  unfold handProfile
  simp

@[simp] theorem changeProfile_frame (p : Profile) (s : State) :
    (changeProfile p s).powered = s.powered ∧ (changeProfile p s).iau = s.iau
      ∧ (changeProfile p s).tlc = s.tlc ∧ (changeProfile p s).geo = s.geo
      ∧ (changeProfile p s).tal = s.tal ∧ (changeProfile p s).pending = s.pending := by
  unfold changeProfile
  (try dsimp only)
  simp

@[simp] theorem freezeProfile_frame (s : State) :
    (freezeProfile s).powered = s.powered ∧ (freezeProfile s).iau = s.iau
      ∧ (freezeProfile s).tlc = s.tlc ∧ (freezeProfile s).geo = s.geo
      ∧ (freezeProfile s).wen = s.wen ∧ (freezeProfile s).ltr = s.ltr
      ∧ (freezeProfile s).tal = s.tal ∧ (freezeProfile s).log = s.log
      ∧ (freezeProfile s).mlm = s.mlm ∧ (freezeProfile s).vdr = s.vdr
      ∧ (freezeProfile s).clp = s.clp ∧ (freezeProfile s).pending = s.pending := by
  unfold freezeProfile
  (try dsimp only)
  simp

/-! ## StartUp -/

@[simp] theorem startIau_frame (s : State) :
    (startIau s).powered = s.powered ∧ (startIau s).tlc = s.tlc ∧ (startIau s).geo = s.geo
      ∧ (startIau s).wen = s.wen ∧ (startIau s).ltr = s.ltr ∧ (startIau s).tal = s.tal
      ∧ (startIau s).log = s.log ∧ (startIau s).mlm = s.mlm ∧ (startIau s).vdr = s.vdr
      ∧ (startIau s).sto = s.sto ∧ (startIau s).clp = s.clp ∧ (startIau s).pending = s.pending := by
  unfold startIau
  (try dsimp only)
  simp

@[simp] theorem startTlc_frame (s : State) :
    (startTlc s).powered = s.powered ∧ (startTlc s).iau = s.iau ∧ (startTlc s).geo = s.geo
      ∧ (startTlc s).tal = s.tal ∧ (startTlc s).sto = s.sto ∧ (startTlc s).pending = s.pending := by
  unfold startTlc
  (try dsimp only)
  simp

@[simp] theorem startWen_frame (s : State) :
    (startWen s).powered = s.powered ∧ (startWen s).iau = s.iau ∧ (startWen s).tlc = s.tlc
      ∧ (startWen s).geo = s.geo ∧ (startWen s).ltr = s.ltr ∧ (startWen s).tal = s.tal
      ∧ (startWen s).log = s.log ∧ (startWen s).mlm = s.mlm ∧ (startWen s).vdr = s.vdr
      ∧ (startWen s).sto = s.sto ∧ (startWen s).pending = s.pending := by
  unfold startWen
  (try dsimp only)
  simp

@[simp] theorem startVdr_frame (m : CoilSamples) (s : State) :
    (startVdr m s).powered = s.powered ∧ (startVdr m s).iau = s.iau
      ∧ (startVdr m s).tlc = s.tlc ∧ (startVdr m s).geo = s.geo ∧ (startVdr m s).wen = s.wen
      ∧ (startVdr m s).ltr = s.ltr ∧ (startVdr m s).tal = s.tal ∧ (startVdr m s).log = s.log
      ∧ (startVdr m s).mlm = s.mlm ∧ (startVdr m s).sto = s.sto
      ∧ (startVdr m s).pending = s.pending := by
  unfold startVdr
  (try dsimp only)
  simp

@[simp] theorem sendStarted_frame (k : ResetKind) (s : State) :
    (sendStarted k s).powered = s.powered ∧ (sendStarted k s).iau = s.iau
      ∧ (sendStarted k s).tlc = s.tlc ∧ (sendStarted k s).geo = s.geo
      ∧ (sendStarted k s).wen = s.wen ∧ (sendStarted k s).ltr = s.ltr
      ∧ (sendStarted k s).tal = s.tal ∧ (sendStarted k s).log = s.log
      ∧ (sendStarted k s).mlm = s.mlm ∧ (sendStarted k s).vdr = s.vdr
      ∧ (sendStarted k s).sto = s.sto ∧ (sendStarted k s).pending = s.pending := by
  unfold sendStarted
  (try dsimp only)
  simp

@[simp] theorem startUp_frame (k : ResetKind) (m : CoilSamples) (s : State) :
    (startUp k m s).powered = s.powered ∧ (startUp k m s).geo = s.geo
      ∧ (startUp k m s).tal = s.tal ∧ (startUp k m s).sto = s.sto
      ∧ (startUp k m s).pending = s.pending := by
  unfold startUp
  simp

/-! ## CabLine -/

@[simp] theorem clearConditions_frame (m : BitVec 30) (s : State) :
    (clearConditions m s).powered = s.powered ∧ (clearConditions m s).iau = s.iau
      ∧ (clearConditions m s).tlc = s.tlc ∧ (clearConditions m s).geo = s.geo
      ∧ (clearConditions m s).wen = s.wen ∧ (clearConditions m s).ltr = s.ltr
      ∧ (clearConditions m s).tal = s.tal ∧ (clearConditions m s).log = s.log
      ∧ (clearConditions m s).mlm = s.mlm ∧ (clearConditions m s).sto = s.sto
      ∧ (clearConditions m s).pending = s.pending := by
  unfold clearConditions
  (try dsimp only)
  simp

@[simp] theorem takeCabLine_frame (t : CabSettings) (s : State) :
    (takeCabLine t s).powered = s.powered ∧ (takeCabLine t s).iau = s.iau
      ∧ (takeCabLine t s).tlc = s.tlc ∧ (takeCabLine t s).geo = s.geo
      ∧ (takeCabLine t s).wen = s.wen ∧ (takeCabLine t s).ltr = s.ltr
      ∧ (takeCabLine t s).tal = s.tal ∧ (takeCabLine t s).log = s.log
      ∧ (takeCabLine t s).mlm = s.mlm ∧ (takeCabLine t s).vdr = s.vdr
      ∧ (takeCabLine t s).sto = s.sto ∧ (takeCabLine t s).pending = s.pending := by
  unfold takeCabLine
  (try dsimp only)
  simp

@[simp] theorem expireLive_frame (s : State) :
    (expireLive s).powered = s.powered ∧ (expireLive s).iau = s.iau
      ∧ (expireLive s).tlc = s.tlc ∧ (expireLive s).geo = s.geo ∧ (expireLive s).wen = s.wen
      ∧ (expireLive s).ltr = s.ltr ∧ (expireLive s).tal = s.tal ∧ (expireLive s).log = s.log
      ∧ (expireLive s).mlm = s.mlm ∧ (expireLive s).vdr = s.vdr ∧ (expireLive s).sto = s.sto
      ∧ (expireLive s).pending = s.pending := by
  unfold expireLive
  (try dsimp only)
  (repeat' split) <;> simp

@[simp] theorem clearReceiver_frame (s : State) :
    (clearReceiver s).powered = s.powered ∧ (clearReceiver s).iau = s.iau
      ∧ (clearReceiver s).tlc = s.tlc ∧ (clearReceiver s).geo = s.geo
      ∧ (clearReceiver s).wen = s.wen ∧ (clearReceiver s).ltr = s.ltr
      ∧ (clearReceiver s).tal = s.tal ∧ (clearReceiver s).log = s.log
      ∧ (clearReceiver s).mlm = s.mlm ∧ (clearReceiver s).vdr = s.vdr
      ∧ (clearReceiver s).sto = s.sto ∧ (clearReceiver s).pending = s.pending := by
  unfold clearReceiver
  (try dsimp only)
  simp

end Sys2Proof.Machine
end

