-- ==== Sys2Proof/Laws/Reports.lean ====
section
/-! SUPPORT. What the blocks do to CLP: they send notices, set live states and latch conditions, and
nothing else. `Reports D a b` says that `b` comes from `a` by such reports, the live states set being those
of conditions in `D`. What every report keeps is proved once; each shared operation is then shown to be a
sequence of reports, with the conditions it may set. -/

namespace Sys2Proof.Machine

/-- A sequence of owners' reports from one CLP state to another. -/
inductive Reports (D : Condition → Prop) (a : Clp) : Clp → Prop
  | refl : Reports D a a
  | send {b : Clp} (n : Notice) (h : Reports D a b) : Reports D a (b.send n)
  | live {b : Clp} (d : Condition) (v : Bool) (hd : D d) (h : Reports D a b) :
      Reports D a (b.setLive d v)
  | latch {b : Clp} (d : Condition) (h : Reports D a b) : Reports D a (b.latch d)

variable {D : Condition → Prop} {a b : Clp} {s : State}

/-! ## What one report keeps -/

/-- Sending changes the queue and the lost-notice count alone. -/
@[simp] theorem Clp.send_frame (c : Clp) (n : Notice) :
    (c.send n).receiver = c.receiver ∧ (c.send n).live = c.live ∧ (c.send n).latched = c.latched
      ∧ (c.send n).settings = c.settings ∧ (c.send n).liveTimer = c.liveTimer
      ∧ (c.send n).started = c.started ∧ (c.send n).restarting = c.restarting := by
  unfold Clp.send Clp.lose
  repeat' split
  all_goals simp

/-- Setting a live state leaves the receiver, the settings, the timer and the two marks. -/
@[simp] theorem Clp.setLive_frame (c : Clp) (d : Condition) (v : Bool) :
    (c.setLive d v).receiver = c.receiver ∧ (c.setLive d v).settings = c.settings
      ∧ (c.setLive d v).liveTimer = c.liveTimer ∧ (c.setLive d v).started = c.started
      ∧ (c.setLive d v).restarting = c.restarting := by
  unfold Clp.setLive Clp.putLive
  dsimp only
  repeat' split
  all_goals simp

/-- Latching leaves the receiver, the live states, the settings, the timer and the two marks. -/
@[simp] theorem Clp.latch_frame (c : Clp) (d : Condition) :
    (c.latch d).receiver = c.receiver ∧ (c.latch d).live = c.live
      ∧ (c.latch d).settings = c.settings ∧ (c.latch d).liveTimer = c.liveTimer
      ∧ (c.latch d).started = c.started ∧ (c.latch d).restarting = c.restarting := by
  unfold Clp.latch
  dsimp only
  split <;> simp

/-- A notice never takes the queue past the longer of 32 frames and what it held (R195). -/
theorem Clp.send_queue_length (c : Clp) (n : Notice) :
    (c.send n).queue.length ≤ max c.queue.length 32 := by
  unfold Clp.send Clp.lose
  split
  · simp
  · split
    · simp
    · simp
      omega

/-- The lost-notice count stays at most 255 (R195). -/
theorem Clp.send_lost (c : Clp) (n : Notice) (h : c.lost ≤ 255) : (c.send n).lost ≤ 255 := by
  unfold Clp.send Clp.lose
  split
  · simpa using h
  · split
    · simp
    · simpa using h

/-- A live state set or cleared is the one named; the others stand (R196). -/
theorem Clp.isLive_putLive (c : Clp) (d e : Condition) (v : Bool) :
    (c.putLive d v).isLive e = if d.index = e.index then v else c.isLive e := by
  have hi := e.index.isLt
  by_cases h : d.index = e.index
  · cases v <;> simp [Clp.putLive, Clp.isLive, Condition.bit, h, hi]
  · have h' : ¬ e.index.val = d.index.val := fun x => h (Fin.ext x.symm)
    cases v <;> simp [Clp.putLive, Clp.isLive, Condition.bit, h, h', hi]

theorem Clp.setLive_isLive (c : Clp) (d e : Condition) (v : Bool) :
    (c.setLive d v).isLive e = if d.index = e.index then v else c.isLive e := by
  unfold Clp.setLive
  split
  · split
    · rename_i h1 h2
      rw [← h1]
      simp [Clp.isLive, h2]
    · rfl
  · dsimp only
    split
    · rw [← Clp.isLive_putLive c d e v]
      simp [Clp.isLive]
    · exact Clp.isLive_putLive c d e v

/-- Setting a live state makes it so (R196). -/
@[simp] theorem Clp.setLive_self (c : Clp) (d : Condition) (v : Bool) :
    (c.setLive d v).isLive d = v := by simp [Clp.setLive_isLive]

theorem Condition.index_injective {d e : Condition} (h : d.index = e.index) : d = e := by
  cases d with
  | sensorFault c => cases e with
    | sensorFault c' => cases c <;> cases c' <;> first | rfl | cases h
    | coilFault v => cases c <;> cases v <;> cases h
    | _ => cases c <;> cases h
  | coilFault v => cases e with
    | sensorFault c' => cases v <;> cases c' <;> cases h
    | coilFault v' => cases v <;> cases v' <;> first | rfl | cases h
    | _ => cases v <;> cases h
  | _ => cases e with
    | sensorFault c' => cases c' <;> cases h
    | coilFault v' => cases v' <;> cases h
    | _ => first | rfl | cases h

theorem Clp.putLive_covered (c : Clp) (d : Condition) (v : Bool) (h : c.covered) :
    (c.putLive d v).covered := by
  intro i
  cases v
  · simp only [Clp.putLive, Bool.false_eq_true, if_false, BitVec.getLsbD_and]
    intro x
    simp only [Bool.and_eq_true] at x
    exact h i x.1
  · simp only [Clp.putLive, if_true, BitVec.getLsbD_or, Bool.or_eq_true]
    rintro (x | x)
    · exact .inl (h i x)
    · exact .inr x

theorem Clp.send_covered (c : Clp) (n : Notice) (h : c.covered) : (c.send n).covered := by
  simpa [Clp.covered] using h

theorem Clp.setLive_covered (c : Clp) (d : Condition) (v : Bool) (h : c.covered) :
    (c.setLive d v).covered := by
  unfold Clp.setLive
  split
  · exact h
  · dsimp only
    split
    · exact Clp.send_covered _ _ (Clp.putLive_covered c d v h)
    · exact Clp.putLive_covered c d v h

theorem Clp.latch_covered (c : Clp) (d : Condition) (h : c.covered) : (c.latch d).covered := by
  have h' : ({ c with latched := c.latched ||| d.bit } : Clp).covered := by
    intro i x
    simp only [BitVec.getLsbD_or, Bool.or_eq_true]
    exact .inl (h i x)
  unfold Clp.latch
  dsimp only
  split
  · exact Clp.send_covered _ _ h'
  · exact h'

theorem Clp.setLive_queue_length (c : Clp) (d : Condition) (v : Bool) :
    (c.setLive d v).queue.length ≤ max c.queue.length 32 := by
  have hq : (c.putLive d v).queue = c.queue := by unfold Clp.putLive; split <;> rfl
  unfold Clp.setLive
  split
  · omega
  · dsimp only
    split
    · have := Clp.send_queue_length (c.putLive d v)
        (.condition d.index (if v then 1 else 0) ((c.putLive d v).isLatched d))
      rwa [hq] at this
    · rw [hq]
      omega

theorem Clp.latch_queue_length (c : Clp) (d : Condition) :
    (c.latch d).queue.length ≤ max c.queue.length 32 := by
  unfold Clp.latch
  dsimp only
  split
  · exact Clp.send_queue_length { c with latched := c.latched ||| d.bit } _
  · simp

theorem Clp.setLive_lost (c : Clp) (d : Condition) (v : Bool) (h : c.lost ≤ 255) :
    (c.setLive d v).lost ≤ 255 := by
  have hl : (c.putLive d v).lost = c.lost := by unfold Clp.putLive; split <;> rfl
  unfold Clp.setLive
  split
  · exact h
  · dsimp only
    split
    · exact Clp.send_lost _ _ (hl ▸ h)
    · exact hl ▸ h

theorem Clp.latch_lost (c : Clp) (d : Condition) (h : c.lost ≤ 255) : (c.latch d).lost ≤ 255 := by
  unfold Clp.latch
  dsimp only
  split
  · exact Clp.send_lost _ _ h
  · exact h

/-! ## What every sequence of reports keeps -/

namespace Reports

theorem trans {c : Clp} (h : Reports D a b) (k : Reports D b c) : Reports D a c := by
  induction k with
  | refl => exact h
  | send n _ ih => exact .send n ih
  | live d v hd _ ih => exact .live d v hd ih
  | latch d _ ih => exact .latch d ih

theorem mono {E : Condition → Prop} (h : Reports D a b) (k : ∀ d, D d → E d) : Reports E a b := by
  induction h with
  | refl => exact .refl
  | send n _ ih => exact .send n ih
  | live d v hd _ ih => exact .live d v (k d hd) ih
  | latch d _ ih => exact .latch d ih

/-- The receiver, the settings, the live report timer and the two marks of CLP stand. -/
theorem frame (h : Reports D a b) :
    b.receiver = a.receiver ∧ b.settings = a.settings ∧ b.liveTimer = a.liveTimer
      ∧ b.started = a.started ∧ b.restarting = a.restarting := by
  induction h with
  | refl => simp
  | send n _ ih => simpa using ih
  | live d v _ _ ih => simpa using ih
  | latch d _ ih => simpa using ih

theorem covered (h : Reports D a b) (k : a.covered) : b.covered := by
  induction h with
  | refl => exact k
  | send n _ ih => exact Clp.send_covered _ n ih
  | live d v _ _ ih => exact Clp.setLive_covered _ d v ih
  | latch d _ ih => exact Clp.latch_covered _ d ih

theorem queue_length (h : Reports D a b) : b.queue.length ≤ max a.queue.length 32 := by
  induction h with
  | refl => omega
  | send n _ ih => have := Clp.send_queue_length ‹_› n; omega
  | live d v _ _ ih => have := Clp.setLive_queue_length ‹_› d v; omega
  | latch d _ ih => have := Clp.latch_queue_length ‹_› d; omega

theorem lost (h : Reports D a b) (k : a.lost ≤ 255) : b.lost ≤ 255 := by
  induction h with
  | refl => exact k
  | send n _ ih => exact Clp.send_lost _ n ih
  | live d v _ _ ih => exact Clp.setLive_lost _ d v ih
  | latch d _ ih => exact Clp.latch_lost _ d ih

/-- A condition that no report may set keeps its live state. -/
theorem isLive (h : Reports D a b) (e : Condition) (k : ¬ D e) : b.isLive e = a.isLive e := by
  induction h with
  | refl => rfl
  | send n _ ih => simpa [Clp.isLive] using ih
  | live d v hd _ ih =>
    rw [Clp.setLive_isLive, if_neg, ih]
    intro x
    exact k (Condition.index_injective x ▸ hd)
  | latch d _ ih => simpa [Clp.isLive] using ih

end Reports

/-! ## The shared operations as reports -/

theorem reports_notify {n : Notice} (h : Reports D a s.clp) : Reports D a (notify n s).clp := h.send n

theorem reports_setLive {d : Condition} {v : Bool} (hd : D d) (h : Reports D a s.clp) :
    Reports D a (setLive d v s).clp := h.live d v hd

theorem reports_latch {d : Condition} (h : Reports D a s.clp) : Reports D a (latch d s).clp :=
  h.latch d

theorem reports_record {p : EntryPart} (h : Reports D a s.clp) : Reports D a (record p s).clp := by
  unfold record
  dsimp only
  split
  · exact h.send _
  · exact h

theorem reports_makeMark (h : Reports D a s.clp) : Reports D a (makeMark s).clp := reports_record h

theorem reports_evaluate (hd : D .limitHold) (h : Reports D a s.clp) :
    Reports D a (evaluate s).clp := h.live _ _ hd

theorem reports_judgePayload (hd : D .payload) (h : Reports D a s.clp) :
    Reports D a (judgePayload s).clp := reports_setLive hd h

theorem reports_evaluateTarget (h : Reports D a s.clp) : Reports D a (evaluateTarget s).clp := by
  unfold evaluateTarget
  split
  · exact h
  · split
    · exact reports_notify h
    · exact h

theorem reports_closeLoad {r : CloseReason} (hd : D .payload) (h : Reports D a s.clp) :
    Reports D a (closeLoad r s).clp := by
  unfold closeLoad
  split
  · exact h
  · exact reports_judgePayload hd (reports_record h)

theorem reports_commitLoaded {i : Fin 16} {m : Nat} {q : Quality} (hd : D .payload)
    (h : Reports D a s.clp) : Reports D a (commitLoaded i m q s).clp := by
  have ho : (openLoad s).clp = s.clp := by simp
  unfold commitLoaded
  dsimp only
  split
  · rw [ho]
    exact h
  · refine reports_judgePayload hd (reports_evaluateTarget ?_)
    split
    · refine reports_latch ?_
      simpa using h
    · simpa using h

theorem reports_commitUnloaded {i : Fin 16} {m : Nat} {q : Quality} (hd : D .payload)
    (h : Reports D a s.clp) : Reports D a (commitUnloaded i m q s).clp := by
  unfold commitUnloaded
  split
  · split
    · exact h
    · exact reports_latch h
  · dsimp only
    split
    · refine reports_closeLoad hd ?_
      split
      · exact reports_latch h
      · exact h
    · refine reports_judgePayload hd (reports_evaluateTarget ?_)
      split
      · exact reports_latch h
      · exact h

theorem reports_commit {o : LiftOutcome} {i : Fin 16} {m : Nat} {q : Quality} (hd : D .payload)
    (h : Reports D a s.clp) : Reports D a (commit o i m q s).clp := by
  unfold commit
  split
  · exact h
  · cases o with
    | loaded => exact reports_commitLoaded hd h
    | unloaded => exact reports_commitUnloaded hd h
    | _ => exact h

theorem reports_failCapture {r : CaptureReason} (h : Reports D a s.clp) :
    Reports D a (failCapture r s).clp := by
  unfold failCapture
  dsimp only
  split
  · exact h
  · exact h.send _

theorem reports_abortCaptures {k : List CaptureKind} (h : Reports D a s.clp) :
    Reports D a (abortCaptures k s).clp := by
  unfold abortCaptures
  split
  · exact reports_failCapture h
  · exact h

theorem reports_enterState {x : LiftState} (hd : D .limitHold) (h : Reports D a s.clp) :
    Reports D a (enterState x s).clp := reports_evaluate hd (reports_abortCaptures h)

theorem reports_takeGrip (hd : D .limitHold) (h : Reports D a s.clp) :
    Reports D a (takeGrip s).clp := reports_enterState hd h

theorem reports_releaseWithoutLift (hd : D .limitHold) (h : Reports D a s.clp) :
    Reports D a (releaseWithoutLift s).clp := reports_enterState hd h

theorem reports_takeLiftOff (hd : D .limitHold) (h : Reports D a s.clp) :
    Reports D a (takeLiftOff s).clp := reports_enterState hd h

theorem reports_completeWindow (hd : D .limitHold) (h : Reports D a s.clp) :
    Reports D a (completeWindow s).clp := by
  unfold completeWindow
  split
  · split
    · exact reports_enterState hd h
    · exact h
  · exact h

theorem reports_takeDrop (hd : D .limitHold) (h : Reports D a s.clp) :
    Reports D a (takeDrop s).clp := by
  unfold takeDrop
  exact reports_enterState hd (reports_abortCaptures (reports_record h))

theorem reports_takeRelease (hd : D .limitHold) (hp : D .payload) (h : Reports D a s.clp) :
    Reports D a (takeRelease s).clp := by
  unfold takeRelease
  exact reports_enterState hd (reports_record (reports_commit hp h))

theorem reports_judgeGrip (hd : D .limitHold) (hp : D .payload) (h : Reports D a s.clp) :
    Reports D a (judgeGrip s).clp := by
  unfold judgeGrip
  dsimp only
  split
  · split
    · split
      · exact reports_takeRelease hd hp h
      · exact reports_releaseWithoutLift hd h
    · exact h
  · split
    · exact reports_takeGrip hd h
    · exact h

theorem reports_judgeLive (hd : D .limitHold) (h : Reports D a s.clp) :
    Reports D a (judgeLive s).clp := by
  unfold judgeLive
  dsimp only
  split
  · exact h
  · split
    · exact reports_takeLiftOff hd h
    · exact h
  · split
    · exact reports_takeDrop hd h
    · exact h

theorem reports_handLiveUpdate (hd : D .limitHold) (h : Reports D a s.clp) :
    Reports D a (handLiveUpdate s).clp := reports_evaluate hd (reports_judgeLive hd h)

theorem reports_changeSource {x : Source} (hd : D .limitHold) (h : Reports D a s.clp) :
    Reports D a (changeSource x s).clp := reports_handLiveUpdate hd (reports_evaluate hd h)

theorem reports_rejudgeSources (hd : D .limitHold) (h : Reports D a s.clp) :
    Reports D a (rejudgeSources s).clp := by
  unfold rejudgeSources
  split
  · simpa using h
  · simpa using reports_changeSource hd h

theorem reports_judgeNoCal (hn : D .noCal) (h : Reports D a s.clp) :
    Reports D a (judgeNoCal s).clp := reports_setLive hn h

theorem reports_finishCapture {c : Capture} {n : CalName} {x y : Int} {k : Calibration}
    (hd : D .limitHold) (hn : D .noCal) (h : Reports D a s.clp) :
    Reports D a (finishCapture c n x y k s).clp := by
  unfold finishCapture
  exact reports_notify (reports_record (reports_rejudgeSources hd (reports_judgeNoCal hn h)))

theorem reports_finish {c : Capture} (hd : D .limitHold) (hn : D .noCal) (hz : D .zeroDrift)
    (h : Reports D a s.clp) : Reports D a (finish c s).clp := by
  unfold finish
  dsimp only
  split
  · unfold finishZero
    exact reports_finishCapture hd hn (reports_setLive hz h)
  · unfold finishSpan
    dsimp only
    split
    · exact reports_failCapture h
    · exact reports_finishCapture hd hn h
  · exact reports_finishCapture hd hn h
  · unfold finishCylLoad
    dsimp only
    split
    · exact reports_failCapture h
    · split
      · exact reports_finishCapture hd hn h
      · exact reports_failCapture h
  · exact h
  · exact h

theorem reports_captureTake {c : Capture} {x : Int} (hd : D .limitHold) (hn : D .noCal)
    (hz : D .zeroDrift) (h : Reports D a s.clp) : Reports D a (captureTake c x s).clp := by
  unfold captureTake
  dsimp only
  split
  · exact reports_finish hd hn hz h
  · exact h

theorem reports_feedEmptyWindow {x : Int} (hz : D .zeroDrift) (h : Reports D a s.clp) :
    Reports D a (feedEmptyWindow x s).clp := by
  unfold feedEmptyWindow
  dsimp only
  split
  · split
    · unfold judgeEmptyWindow
      dsimp only
      split
      · exact h
      · split
        · exact reports_setLive hz h
        · exact reports_setLive hz h
    · exact h
  · exact h

theorem reports_captureTip {n : Nat} (hd : D .limitHold) (hn : D .noCal) (hz : D .zeroDrift)
    (h : Reports D a s.clp) : Reports D a (captureTip n s).clp := by
  unfold captureTip
  split
  · exact h
  · split
    · exact reports_captureTake hd hn hz h
    · exact reports_captureTake hd hn hz h
    · exact h
    · exact h

theorem reports_feedIf {f : Bool} {x : Int} (h : Reports D a s.clp) :
    Reports D a (feedIf f x s).clp := by simpa using h

theorem reports_handIf {f : Bool} (hd : D .limitHold) (h : Reports D a s.clp) :
    Reports D a (handIf f s).clp := by
  unfold handIf
  split
  · exact reports_handLiveUpdate hd h
  · exact h

theorem reports_gateTip {t : TipSample} {x : Int} (hz : D .zeroDrift) (h : Reports D a s.clp) :
    Reports D a (gateTip t x s).clp := by
  unfold gateTip
  split
  · refine reports_feedEmptyWindow hz ?_
    simpa using h
  · exact h

theorem reports_countTip {t : TipSample} (hd : D .limitHold) (hn : D .noCal) (hz : D .zeroDrift)
    (h : Reports D a s.clp) : Reports D a (countTip t s).clp := by
  unfold countTip
  split
  · exact reports_captureTip hd hn hz h
  · exact h

theorem reports_tipSample {t : TipSample} (hd : D .limitHold) (hn : D .noCal) (hz : D .zeroDrift)
    (ho : D .tipOverrange) (h : Reports D a s.clp) : Reports D a (tipSample t s).clp := by
  unfold tipSample
  exact reports_handIf hd (reports_completeWindow hd (reports_countTip hd hn hz
    (reports_gateTip hz (reports_feedIf (reports_setLive ho h)))))

theorem reports_tipLinkDown (hd : D .limitHold) (ho : D .tipOverrange) (h : Reports D a s.clp) :
    Reports D a (tipLinkDown s).clp := by
  unfold tipLinkDown
  exact reports_rejudgeSources hd (reports_abortCaptures (reports_setLive ho h))

theorem reports_tipStuckChanged (hd : D .limitHold) (h : Reports D a s.clp) :
    Reports D a (tipStuckChanged s).clp := by
  unfold tipStuckChanged
  refine reports_rejudgeSources hd ?_
  split
  · exact reports_abortCaptures h
  · exact h

theorem reports_noCylinderSample (hd : D .limitHold) (h : Reports D a s.clp) :
    Reports D a (noCylinderSample s).clp := by
  unfold noCylinderSample
  dsimp only
  split
  · exact reports_handLiveUpdate hd h
  · exact h

theorem reports_takeCylinderSample {x : Int} (hd : D .limitHold) (h : Reports D a s.clp) :
    Reports D a (takeCylinderSample x s).clp := by
  unfold takeCylinderSample
  refine reports_handIf hd (reports_completeWindow hd ?_)
  simpa using h

theorem reports_captureCylinder {f : CylinderForce} {g : Option CylinderForce} (hd : D .limitHold)
    (hn : D .noCal) (hz : D .zeroDrift) (h : Reports D a s.clp) :
    Reports D a (captureCylinder f g s).clp := by
  unfold captureCylinder
  split
  · exact h
  · split
    · exact h
    · exact h
    · split
      · split
        · exact h
        · split
          · exact reports_captureTake hd hn hz h
          · exact h
      · exact reports_failCapture h

theorem reports_cylinderFrame (hd : D .limitHold) (hn : D .noCal) (hz : D .zeroDrift)
    (h : Reports D a s.clp) : Reports D a (cylinderFrame s).clp := by
  have h1 : Reports D a (rejudgeSources s).clp := reports_rejudgeSources hd h
  unfold cylinderFrame
  dsimp only
  split
  · exact reports_noCylinderSample hd h1
  · refine reports_captureCylinder hd hn hz ?_
    split
    · exact reports_takeCylinderSample hd h1
    · exact reports_noCylinderSample hd h1

theorem reports_recordChange {n : CalName} {x y : Int} (h : Reports D a s.clp) :
    Reports D a (recordChange n x y s).clp := by
  unfold recordChange
  split
  · exact h
  · exact reports_record h

theorem reports_takeCalibration {f : CalibrationFields} (h : Reports D a s.clp) :
    Reports D a (takeCalibration f s).clp := by
  unfold takeCalibration
  exact reports_recordChange (reports_recordChange (reports_recordChange (reports_recordChange
    (reports_recordChange h))))

theorem reports_startCylLoad {i : Fin 8} {m : Nat} (h : Reports D a s.clp) :
    Reports D a (startCylLoad i m s).clp := by
  unfold startCylLoad
  dsimp only
  split
  · exact h
  · exact reports_failCapture h

theorem reports_moveLink {t : Tlc} (hd : D .limitHold) (ho : D .tipOverrange) (hw : D .tipDown)
    (hf : D .tipFailed) (h : Reports D a s.clp) : Reports D a (moveLink t s).clp := by
  have h1 : ∀ u : State, u.clp = s.clp → Reports D a (handLink s.tlc.link t.link
      (setLive .tipFailed (t.link == .failed) (setLive .tipDown (t.link != .up) u))).clp := by
    intro u hu
    have h2 : Reports D a
        (setLive .tipFailed (t.link == .failed) (setLive .tipDown (t.link != .up) u)).clp :=
      reports_setLive hf (reports_setLive hw (hu ▸ h))
    unfold handLink
    split
    · exact reports_tipLinkDown hd ho h2
    · split
      · exact reports_rejudgeSources hd h2
      · exact h2
  have h3 := h1 { s with tlc := t.leaveUp s.tlc.link } rfl
  unfold moveLink
  dsimp only
  split
  · simpa only [selectHorn_frame] using h3
  · exact h3

theorem reports_setStuck {v : Bool} (hd : D .limitHold) (hk : D .tipStuck)
    (h : Reports D a s.clp) : Reports D a (setStuck v s).clp := by
  unfold setStuck
  split
  · exact h
  · exact reports_tipStuckChanged hd (reports_setLive hk h)

theorem reports_freshBringUp (hd : D .limitHold) (ho : D .tipOverrange) (hw : D .tipDown)
    (hf : D .tipFailed) (hk : D .tipStuck) (h : Reports D a s.clp) :
    Reports D a (freshBringUp s).clp :=
  reports_setStuck hd hk (reports_moveLink hd ho hw hf h)

theorem reports_countErrors {n : Nat} (he : D .tipErrOverflow) (h : Reports D a s.clp) :
    Reports D a (countErrors n s).clp := by
  unfold countErrors
  dsimp only
  split
  · exact reports_setLive he h
  · exact h

theorem reports_judgeNoise (hd : D .limitHold) (ho : D .tipOverrange) (hw : D .tipDown)
    (hf : D .tipFailed) (h : Reports D a s.clp) : Reports D a (judgeNoise s).clp := by
  unfold judgeNoise
  split
  · exact reports_moveLink hd ho hw hf h
  · exact h

theorem reports_transferErrors (he : D .tipErrOverflow) (h : Reports D a s.clp) :
    Reports D a (transferErrors s).clp := reports_setLive he h

theorem reports_expireReport (he : D .tipErrOverflow) (h : Reports D a s.clp) :
    Reports D a (expireReport s).clp := by
  unfold expireReport
  dsimp only
  split
  · exact h
  · split
    · exact reports_transferErrors he h
    · exact reports_notify (reports_transferErrors he h)

theorem reports_updateGeometry (hg : D .geometryInvalid) (h : Reports D a s.clp) :
    Reports D a (updateGeometry s).clp := h.live _ _ hg

theorem reports_setSensorFaults {k : PerChannel RawCode} (hc : ∀ c, D (.sensorFault c))
    (h : Reports D a s.clp) : Reports D a (setSensorFaults k s).clp := by
  unfold setSensorFaults
  have gen : ∀ (l : List Channel) (u : State), Reports D a u.clp →
      Reports D a (l.foldl (fun s c =>
        setLive (.sensorFault c) (!inBand (s.iau.channels.get c).settings (k.get c)) s) u).clp := by
    intro l
    induction l with
    | nil => exact fun u hu => hu
    | cons c l ih => exact fun u hu => ih _ (reports_setLive (hc c) hu)
  exact gen _ s h

theorem reports_noteEdge {p : PerLine LineState} {l : Line} (h : Reports D a s.clp) :
    Reports D a (noteEdge p l s).clp := by
  unfold noteEdge
  split
  · split
    · exact h
    · exact reports_notify h
  · exact h

theorem reports_acquire {k : PerChannel RawCode} {x : PerLine Level} (hc : ∀ c, D (.sensorFault c))
    (hg : D .geometryInvalid) (h : Reports D a s.clp) : Reports D a (acquire k x s).clp := by
  have h1 : Reports D a (setSensorFaults k (sampleInputs k x s)).clp := by
    refine reports_setSensorFaults hc ?_
    simpa using h
  unfold acquire
  refine reports_updateGeometry hg ?_
  simp only [handSwitch_frame]
  exact reports_noteEdge (reports_noteEdge (reports_noteEdge (reports_noteEdge h1)))

theorem reports_performTask {m : Bool} {t : FrameTask} (hd : D .limitHold) (hp : D .payload)
    (hn : D .noCal) (hz : D .zeroDrift) (h : Reports D a s.clp) :
    Reports D a (performTask m t s).clp := by
  cases t with
  | cylinder => exact reports_cylinderFrame hd hn hz h
  | grip => exact reports_judgeGrip hd hp h
  | mark =>
    unfold performTask
    dsimp only
    split
    · exact reports_makeMark h
    · exact h
  | evaluation => exact reports_evaluate hd h

theorem reports_takeFrame {k : PerChannel RawCode} {x : PerLine Level} {o : FrameOrder}
    (hc : ∀ c, D (.sensorFault c)) (hg : D .geometryInvalid) (hd : D .limitHold) (hp : D .payload)
    (hn : D .noCal) (hz : D .zeroDrift) (h : Reports D a s.clp) :
    Reports D a (takeFrame k x o s).clp := by
  have gen : ∀ (ts : List FrameTask) (m : Bool) (u : State), Reports D a u.clp →
      Reports D a (ts.foldl (fun u t => performTask m t u) u).clp := by
    intro ts m
    induction ts with
    | nil => exact fun u hu => hu
    | cons t ts ih => exact fun u hu => ih _ (reports_performTask hd hp hn hz hu)
  exact gen _ _ _ (reports_acquire hc hg h)

theorem reports_takeLever {p : PerSection Int} (hl : D .leverStale) (h : Reports D a s.clp) :
    Reports D a (takeLever p s).clp := h.live _ _ hl

theorem reports_expireLever (hl : D .leverStale) (h : Reports D a s.clp) :
    Reports D a (expireLever s).clp := by
  unfold expireLever
  split
  · exact h.live _ _ hl
  · exact h

theorem reports_updateDrive {m : CoilSamples} (hc : ∀ v, D (.coilFault v)) (h : Reports D a s.clp) :
    Reports D a (updateDrive m s).clp := by
  have gen : ∀ (l : List Section) (p q : PerSection SectionState) (c : Clp), Reports D a c →
      Reports D a (l.foldl (fun c v =>
        if (q.get v).isDisabled && !(p.get v).isDisabled then c.setLive (.coilFault v) true
        else c) c) := by
    intro l p q
    induction l with
    | nil => exact fun c hu => hu
    | cons v l ih =>
      intro c hu
      refine ih _ ?_
      dsimp only
      split
      · exact hu.live _ _ (hc v)
      · exact hu
  exact gen _ _ _ _ h

theorem reports_takeShort {v : Section} {x : Coil} (hc : ∀ v, D (.coilFault v))
    (h : Reports D a s.clp) : Reports D a (takeShort v x s).clp := by
  unfold takeShort
  split
  · exact h
  · exact h.live _ _ (hc v)

theorem reports_reenableSections (hc : ∀ v, D (.coilFault v)) (h : Reports D a s.clp) :
    Reports D a (reenableSections s).clp := by
  have gen : ∀ (l : List Section) (c : Clp), Reports D a c →
      Reports D a (l.foldl (fun c v =>
        if (s.vdr.sections.get v).isDisabled then c.setLive (.coilFault v) false else c) c) := by
    intro l
    induction l with
    | nil => exact fun c hu => hu
    | cons v l ih =>
      intro c hu
      refine ih _ ?_
      dsimp only
      split
      · exact hu.live _ _ (hc v)
      · exact hu
  exact gen _ _ h

theorem reports_finishPart (h : Reports D a s.clp) : Reports D a (finishPart s).clp := by
  unfold finishPart
  split
  · exact h
  · dsimp only
    split
    · exact reports_notify h
    · exact h

theorem reports_handProfile (hd : D .limitHold) (hp : D .payload) (h : Reports D a s.clp) :
    Reports D a (handProfile s).clp := by
  unfold handProfile
  simp only [clampSections_frame]
  exact reports_judgePayload hp (reports_rejudgeSources hd (reports_evaluate hd h))

theorem reports_changeProfile {p : Profile} (hd : D .limitHold) (hp : D .payload)
    (h : Reports D a s.clp) : Reports D a (changeProfile p s).clp := by
  unfold changeProfile
  exact reports_handProfile hd hp h

end Sys2Proof.Machine
end

