-- ==== Sys2Proof/Laws/Answers.lean ====
section
/-! SUPPORT. What the shared operations can do, said once each: the arithmetic of R1, the answer to a
request, a notice joining the queue, and an entry joining the ring. Statements about a command cite these
and do not unfold the operation. -/

namespace Sys2Proof.Machine

/-! ## Arithmetic (R1) -/

theorem clamp_isClamped (lo hi x : Int) (h : lo ≤ hi) : isClamped lo hi x (clamp lo hi x) := by
  unfold isClamped clamp
  refine ⟨fun hx => ?_, fun hx => ?_, fun h1 h2 => ?_⟩
  · rw [if_pos hx]
  · rw [if_neg (by omega), if_pos hx]
  · rw [if_neg (by omega), if_neg (by omega)]

theorem clamp_mem (lo hi x : Int) (h : lo ≤ hi) : lo ≤ clamp lo hi x ∧ clamp lo hi x ≤ hi := by
  unfold clamp
  split
  · omega
  · split <;> omega

/-- The magnitude that `roundDiv` takes: the quotient with halves away from zero. -/
theorem roundMagnitude (a b : Nat) (hb : 0 < b) :
    2 * a < 2 * ((2 * a + b) / (2 * b) * b) + b
      ∧ 2 * ((2 * a + b) / (2 * b) * b) ≤ 2 * a + b := by
  have h := Nat.div_add_mod (2 * a + b) (2 * b)
  have hm := Nat.mod_lt (2 * a + b) (show 0 < 2 * b by omega)
  generalize (2 * a + b) / (2 * b) = q at h ⊢
  have : 2 * b * q = 2 * (q * b) := by rw [Nat.mul_assoc, Nat.mul_comm b q]
  omega

/-- The rounding operation rounds: to the nearest integer, halves away from zero. -/
theorem roundDiv_isRounded (n d : Int) (hd : d ≠ 0) : isRounded n d (roundDiv n d) := by
  have hq := roundMagnitude n.natAbs d.natAbs (by omega)
  unfold isRounded roundDiv
  dsimp only
  generalize (2 * n.natAbs + d.natAbs) / (2 * d.natAbs) = q at hq ⊢
  have hp : ((q : Int) * d).natAbs = q * d.natAbs := by
    rw [Int.natAbs_mul, Int.natAbs_natCast]
  have hs : (0 < d → 0 ≤ (q : Int) * d) ∧ (d < 0 → (q : Int) * d ≤ 0) :=
    ⟨fun h => Int.mul_nonneg (by omega) (by omega),
      fun h => Int.mul_nonpos_of_nonneg_of_nonpos (by omega) (by omega)⟩
  by_cases h : n < 0 ↔ d < 0
  · rw [if_pos (by simpa using h)]
    generalize (q : Int) * d = p at *
    omega
  · rw [if_neg (by simpa using h), Int.neg_mul]
    generalize (q : Int) * d = p at *
    omega

theorem not_isRounded_of_gt {n d p k : Int} (hd : d ≠ 0) (hk : 1 ≤ k) (hp : isRounded n d p) :
    ¬isRounded n d (p + k) := by
  unfold isRounded at hp ⊢
  obtain ⟨m, rfl, hm⟩ : ∃ m : Int, k = m + 1 ∧ 0 ≤ m := ⟨k - 1, by omega, by omega⟩
  have he : (p + (m + 1)) * d = p * d + m * d + d := by
    rw [Int.add_mul, Int.add_mul, Int.one_mul, Int.add_assoc]
  have hs : (0 < d → 0 ≤ m * d) ∧ (d < 0 → m * d ≤ 0) :=
    ⟨fun h => Int.mul_nonneg hm (by omega),
      fun h => Int.mul_nonpos_of_nonneg_of_nonpos hm (by omega)⟩
  have hx : (0 < d → 0 ≤ p * d ∨ p * d ≤ -d) ∧ (d < 0 → p * d ≤ 0 ∨ -d ≤ p * d) := by
    rcases (by omega : p < 0 ∨ 0 ≤ p) with h | h
    · have e : p * d = (p + 1) * d - d := by rw [Int.add_mul, Int.one_mul]; omega
      have h1 : 0 < d → (p + 1) * d ≤ 0 := fun h =>
        Int.mul_nonpos_of_nonpos_of_nonneg (by omega) (by omega)
      have h2 : d < 0 → 0 ≤ (p + 1) * d := fun h =>
        Int.mul_nonneg_of_nonpos_of_nonpos (by omega) (by omega)
      rw [e]
      exact ⟨fun g => .inr (by have := h1 g; omega), fun g => .inr (by have := h2 g; omega)⟩
    · exact ⟨fun g => .inl (Int.mul_nonneg h (by omega)),
        fun g => .inl (Int.mul_nonpos_of_nonneg_of_nonpos h (by omega))⟩
  rw [he]
  generalize p * d = x at *
  generalize m * d = y at *
  rcases Int.lt_or_gt_of_ne hd with hd | hd
  · have := hs.2 hd
    rcases hx.2 hd with h | h <;> omega
  · have := hs.1 hd
    rcases hx.1 hd with h | h <;> omega

/-- No other integer is rounded. -/
theorem isRounded_unique {n d p q : Int} (hd : d ≠ 0) (hp : isRounded n d p) (hq : isRounded n d q) :
    p = q := by
  rcases Int.lt_trichotomy p q with h | h | h
  · have := not_isRounded_of_gt hd (show 1 ≤ q - p by omega) hp
    rw [show p + (q - p) = q by omega] at this
    exact absurd hq this
  · exact h
  · have := not_isRounded_of_gt hd (show 1 ≤ p - q by omega) hq
    rw [show q + (p - q) = p by omega] at this
    exact absurd hp this

/-! ## Answers (R194, R195) -/

/-- Everything an answer can do: nothing where CLP does not dispatch, a lost request where the queue has no
room, and otherwise the reply followed by the request's effect. -/
theorem answer_cases (k : Byte) (x : Status) (d : List Byte) (e : State → State) (s : State) :
    (s.dispatching = false ∧ answer k x d e s = s)
      ∨ (s.dispatching = true ∧ 64 < s.clp.queue.length + (replyFrames k x d).length
        ∧ answer k x d e s = { s with clp := s.clp.lose })
      ∨ (s.dispatching = true ∧ s.clp.queue.length + (replyFrames k x d).length ≤ 64
        ∧ answer k x d e s = e (s.replied k x d)) := by
  unfold answer State.replied
  cases hd : s.dispatching
  · exact .inl ⟨rfl, rfl⟩
  · right
    simp only [if_true]
    split
    · next h => exact .inl ⟨trivial, h, rfl⟩
    · next h => exact .inr ⟨trivial, by omega, rfl⟩

theorem answer_of_serves {k : Byte} {x : Status} {d : List Byte} {e : State → State} {s : State} {n : Nat}
    (h : s.serves n) (hn : (replyFrames k x d).length ≤ n) :
    answer k x d e s = e (s.replied k x d) := by
  rcases answer_cases k x d e s with ⟨hd, -⟩ | ⟨-, hl, -⟩ | ⟨-, -, he⟩
  · rw [h.1] at hd
    cases hd
  · have := h.2
    omega
  · exact he

theorem answer_of_not_dispatching {k : Byte} {x : Status} {d : List Byte} {e : State → State} {s : State}
    (h : s.dispatching = false) : answer k x d e s = s := by
  simp [answer, h]

/-- Up to 60 bytes of data are one part. -/
theorem replyFrames_of_short {k : Byte} {x : Status} {d : List Byte} (h : d.length ≤ 60) :
    replyFrames k x d = [.reply k x 0 true d] := by
  unfold replyFrames
  cases hd : d.length with
  | zero => rfl
  | succ n =>
    rw [cutReply, if_pos h]

theorem refuse_of_serves {k : Byte} {x : Status} {s : State} (h : s.serves 1) :
    refuse k x s = s.replied k x [] :=
  answer_of_serves h (by rw [replyFrames_of_short (by decide)]; exact Nat.le_refl 1)

/-! ## The queue and the ring -/

/-- Everything a notice can do: take the place of a LIVE that waits, be lost, or join the end (R195). -/
theorem Clp.send_cases (c : Clp) (n : Notice) :
    ((TxFrame.notice n).isLive = true ∧ c.queue.any TxFrame.isLive = true
        ∧ c.send n
          = { c with queue := c.queue.map fun f => if f.isLive then TxFrame.notice n else f })
      ∨ (32 ≤ c.queue.length ∧ c.send n = { c with lost := min 255 (c.lost + 1) })
      ∨ (c.queue.length < 32 ∧ c.send n = { c with queue := c.queue ++ [.notice n] }) := by
  unfold Clp.send Clp.lose
  split
  · next h =>
    rw [Bool.and_eq_true] at h
    exact .inl ⟨h.1, h.2, rfl⟩
  · split
    · next h => exact .inr (.inl ⟨h, rfl⟩)
    · next h => exact .inr (.inr ⟨by omega, rfl⟩)

/-- Everything a handoff to LOG can do (R138 to R140). -/
theorem record_cases (p : EntryPart) (s : State) :
    (s.log.enables.governs p = false ∧ record p s = s)
      ∨ (s.log.enables.governs p = true ∧ s.log.ring ≠ []
        ∧ record p s = { s with log := s.log.append p })
      ∨ (s.log.enables.governs p = true ∧ s.log.ring = []
        ∧ record p s = { s with
            log := s.log.append p, clp := s.clp.send (.logPending s.log.nextSequence) }) := by
  unfold record
  cases hg : s.log.enables.governs p
  · exact .inl ⟨rfl, by simp⟩
  · right
    cases hr : s.log.ring with
    | nil => exact .inr ⟨rfl, rfl, by simp⟩
    | cons e r => exact .inl ⟨rfl, by simp, by simp⟩

end Sys2Proof.Machine
end

