-- ==== Sys2Proof/Laws/PerInstr.lean ====
section
/-! SUPPORT. Statements about every command as syntax, one lemma for each constructor of `Instr`. -/

namespace Sys2Proof.Laws

open Sys2Proof.Machine

/-- The frame of a well-formed request names a kind of R202, its payload has a length that suits that kind,
and its LENGTH lies in 1..64 (R193, R203); a command that is no request has no frame. -/
def PayloadFits.Statement (i : Instr) : Prop :=
  ∀ (k : Byte) (p : List Byte), i.wellFormed = true → encodeRequest i = some (k, p) →
    ∃ f, requestForm k.toNat = some f ∧ f.suits p.length = true ∧ p.length + 1 ≤ 64

/-- A command that no frame of the cab line carries. -/
theorem payloadFits_of_none {i : Instr} (h : encodeRequest i = none) : PayloadFits.Statement i := by
  intro k p _ e
  simp [h] at e

/-- A request of one payload length. -/
theorem payloadFits_of_fixed {i : Instr} {kind : Byte} {payload : List Byte} {n : Nat}
    {read : List Byte → Instr} (h : encodeRequest i = some (kind, payload))
    (hf : requestForm kind.toNat = some (fixedForm n read))
    (hl : i.wellFormed = true → payload.length = n) (hn : n ≤ 63) : PayloadFits.Statement i := by
  intro k p hw e
  rw [h] at e
  obtain ⟨rfl, rfl⟩ := Prod.mk.inj (Option.some.inj e)
  exact ⟨_, hf, by simp [fixedForm, hl hw], by rw [hl hw]; omega⟩

/-- Two bytes for each number of a list. -/
theorem length_flatMap_i16 (d : List Int) : (d.flatMap i16).length = 2 * d.length := by
  induction d with
  | nil => rfl
  | cons x d ih =>
    rw [List.flatMap_cons, List.length_append, ih, List.length_cons]
    show 2 + _ = _
    omega

/-- One byte for each number of a list. -/
theorem length_flatMap_u8 (d : List Nat) : (d.flatMap u8).length = d.length := by
  induction d with
  | nil => rfl
  | cons x d ih =>
    rw [List.flatMap_cons, List.length_append, ih, List.length_cons]
    show 1 + _ = _
    omega

theorem PayloadFits.powerOn (samples : CoilSamples) :
    PayloadFits.Statement (.powerOn samples) := payloadFits_of_none rfl

theorem PayloadFits.restart : PayloadFits.Statement .restart :=
  payloadFits_of_fixed rfl rfl (fun _ => rfl) (by decide)

theorem PayloadFits.restartPerformed (samples : CoilSamples) :
    PayloadFits.Statement (.restartPerformed samples) := payloadFits_of_none rfl

theorem PayloadFits.acquisitionFrame (codes : PerChannel RawCode) (levels : PerLine Level) (order : FrameOrder) :
    PayloadFits.Statement (.acquisitionFrame codes levels order) := payloadFits_of_none rfl

theorem PayloadFits.driveUpdate (samples : CoilSamples) :
    PayloadFits.Statement (.driveUpdate samples) := payloadFits_of_none rfl

theorem PayloadFits.coilShort (valve : Section) (coil : Coil) :
    PayloadFits.Statement (.coilShort valve coil) := payloadFits_of_none rfl

theorem PayloadFits.hail : PayloadFits.Statement .hail := payloadFits_of_none rfl

theorem PayloadFits.hailReply : PayloadFits.Statement .hailReply := payloadFits_of_none rfl

theorem PayloadFits.probeEcho (rate : Byte) (number : Byte) :
    PayloadFits.Statement (.probeEcho rate number) := payloadFits_of_none rfl

theorem PayloadFits.dataFrame (sequence : Byte) (force : BitVec 16) (swing : BitVec 16) (temperature : Byte) (status : Byte) :
    PayloadFits.Statement (.dataFrame sequence force swing temperature status) := payloadFits_of_none rfl

theorem PayloadFits.damagedTipFrame : PayloadFits.Statement .damagedTipFrame := payloadFits_of_none rfl

theorem PayloadFits.hailTimerExpiry : PayloadFits.Statement .hailTimerExpiry := payloadFits_of_none rfl

theorem PayloadFits.probeResend : PayloadFits.Statement .probeResend := payloadFits_of_none rfl

theorem PayloadFits.probeWindowExpiry : PayloadFits.Statement .probeWindowExpiry := payloadFits_of_none rfl

theorem PayloadFits.goResend : PayloadFits.Statement .goResend := payloadFits_of_none rfl

theorem PayloadFits.startWindowExpiry : PayloadFits.Statement .startWindowExpiry := payloadFits_of_none rfl

theorem PayloadFits.lossTimerExpiry : PayloadFits.Statement .lossTimerExpiry := payloadFits_of_none rfl

theorem PayloadFits.backOffExpiry : PayloadFits.Statement .backOffExpiry := payloadFits_of_none rfl

theorem PayloadFits.noiseIntervalExpiry : PayloadFits.Statement .noiseIntervalExpiry := payloadFits_of_none rfl

theorem PayloadFits.reportTimerExpiry : PayloadFits.Statement .reportTimerExpiry := payloadFits_of_none rfl

theorem PayloadFits.compensationUpdate : PayloadFits.Statement .compensationUpdate := payloadFits_of_none rfl

theorem PayloadFits.leverTimerExpiry : PayloadFits.Statement .leverTimerExpiry := payloadFits_of_none rfl

theorem PayloadFits.liveReportTimerExpiry : PayloadFits.Statement .liveReportTimerExpiry := payloadFits_of_none rfl

theorem PayloadFits.hornPatternStep : PayloadFits.Statement .hornPatternStep := payloadFits_of_none rfl

theorem PayloadFits.lampFlashStep : PayloadFits.Statement .lampFlashStep := payloadFits_of_none rfl

theorem PayloadFits.byteGapExpiry : PayloadFits.Statement .byteGapExpiry := payloadFits_of_none rfl

theorem PayloadFits.cabFrameDiscarded : PayloadFits.Statement .cabFrameDiscarded := payloadFits_of_none rfl

theorem PayloadFits.storeWritePart : PayloadFits.Statement .storeWritePart := payloadFits_of_none rfl

theorem PayloadFits.unknownKind (kind : Byte) :
    PayloadFits.Statement (.unknownKind kind) := payloadFits_of_none rfl

theorem PayloadFits.setChannel (index : Nat) (settings : ChannelSettings) :
    PayloadFits.Statement (.setChannel index settings) :=
  payloadFits_of_fixed rfl rfl (fun _ => rfl) (by decide)

theorem PayloadFits.readChannel (index : Nat) :
    PayloadFits.Statement (.readChannel index) :=
  payloadFits_of_fixed rfl rfl (fun _ => rfl) (by decide)

theorem PayloadFits.setLine (line : Nat) (mode : Nat) (edge : Nat) :
    PayloadFits.Statement (.setLine line mode edge) :=
  payloadFits_of_fixed rfl rfl (fun _ => rfl) (by decide)

theorem PayloadFits.writeLines (mask : Nat) (levels : Nat) :
    PayloadFits.Statement (.writeLines mask levels) :=
  payloadFits_of_fixed rfl rfl (fun _ => rfl) (by decide)

theorem PayloadFits.readLines : PayloadFits.Statement .readLines :=
  payloadFits_of_fixed rfl rfl (fun _ => rfl) (by decide)

theorem PayloadFits.setTipLink (errorMode : Nat) (stuckRule : Nat) :
    PayloadFits.Statement (.setTipLink errorMode stuckRule) :=
  payloadFits_of_fixed rfl rfl (fun _ => rfl) (by decide)

theorem PayloadFits.linkRestart : PayloadFits.Statement .linkRestart :=
  payloadFits_of_fixed rfl rfl (fun _ => rfl) (by decide)

theorem PayloadFits.readTipLink : PayloadFits.Statement .readTipLink :=
  payloadFits_of_fixed rfl rfl (fun _ => rfl) (by decide)

theorem PayloadFits.reportTipErrors : PayloadFits.Statement .reportTipErrors :=
  payloadFits_of_fixed rfl rfl (fun _ => rfl) (by decide)

theorem PayloadFits.setGeometry (settings : GeometrySettings) :
    PayloadFits.Statement (.setGeometry settings) :=
  payloadFits_of_fixed rfl rfl (fun _ => rfl) (by decide)

theorem PayloadFits.setZones (settings : ZoneSettings) :
    PayloadFits.Statement (.setZones settings) :=
  payloadFits_of_fixed rfl rfl (fun _ => rfl) (by decide)

theorem PayloadFits.readGeometry : PayloadFits.Statement .readGeometry :=
  payloadFits_of_fixed rfl rfl (fun _ => rfl) (by decide)

theorem PayloadFits.setWeigh (fields : WeighFields) :
    PayloadFits.Statement (.setWeigh fields) :=
  payloadFits_of_fixed rfl rfl (fun _ => rfl) (by decide)

theorem PayloadFits.setCalibration (fields : CalibrationFields) :
    PayloadFits.Statement (.setCalibration fields) :=
  payloadFits_of_fixed rfl rfl (fun _ => rfl) (by decide)

theorem PayloadFits.readWeigh : PayloadFits.Statement .readWeigh :=
  payloadFits_of_fixed rfl rfl (fun _ => rfl) (by decide)

theorem PayloadFits.calZero : PayloadFits.Statement .calZero :=
  payloadFits_of_fixed rfl rfl (fun _ => rfl) (by decide)

theorem PayloadFits.calSpan (mass : Nat) :
    PayloadFits.Statement (.calSpan mass) :=
  payloadFits_of_fixed rfl rfl (fun _ => rfl) (by decide)

theorem PayloadFits.calCylEmpty : PayloadFits.Statement .calCylEmpty :=
  payloadFits_of_fixed rfl rfl (fun _ => rfl) (by decide)

theorem PayloadFits.calCylLoad (mass : Nat) :
    PayloadFits.Statement (.calCylLoad mass) :=
  payloadFits_of_fixed rfl rfl (fun _ => rfl) (by decide)

theorem PayloadFits.calAbort : PayloadFits.Statement .calAbort :=
  payloadFits_of_fixed rfl rfl (fun _ => rfl) (by decide)

theorem PayloadFits.setLift (settings : LiftSettings) :
    PayloadFits.Statement (.setLift settings) :=
  payloadFits_of_fixed rfl rfl (fun _ => rfl) (by decide)

theorem PayloadFits.readLift : PayloadFits.Statement .readLift :=
  payloadFits_of_fixed rfl rfl (fun _ => rfl) (by decide)

theorem PayloadFits.selectAssortment (index : Nat) :
    PayloadFits.Statement (.selectAssortment index) :=
  payloadFits_of_fixed rfl rfl (fun _ => rfl) (by decide)

theorem PayloadFits.defineAssortment (index : Nat) (label : List Byte) :
    PayloadFits.Statement (.defineAssortment index label) := by
  intro k p hw e
  obtain ⟨rfl, rfl⟩ := Prod.mk.inj (Option.some.inj e)
  have hl : label.length ≤ 8 := by
    simp only [Instr.wellFormed, Bool.and_eq_true, decide_eq_true_eq] at hw
    exact hw.2
  refine ⟨_, rfl, ?_, ?_⟩
  · simp [u8, Nat.inRange]
    omega
  · simp [u8]
    omega

theorem PayloadFits.holdTally : PayloadFits.Statement .holdTally :=
  payloadFits_of_fixed rfl rfl (fun _ => rfl) (by decide)

theorem PayloadFits.releaseTally : PayloadFits.Statement .releaseTally :=
  payloadFits_of_fixed rfl rfl (fun _ => rfl) (by decide)

theorem PayloadFits.setTarget (fields : TargetFields) :
    PayloadFits.Statement (.setTarget fields) :=
  payloadFits_of_fixed rfl rfl (fun _ => rfl) (by decide)

theorem PayloadFits.closeLoad : PayloadFits.Statement .closeLoad :=
  payloadFits_of_fixed rfl rfl (fun _ => rfl) (by decide)

theorem PayloadFits.readLoad : PayloadFits.Statement .readLoad :=
  payloadFits_of_fixed rfl rfl (fun _ => rfl) (by decide)

theorem PayloadFits.readAssortment (index : Nat) :
    PayloadFits.Statement (.readAssortment index) :=
  payloadFits_of_fixed rfl rfl (fun _ => rfl) (by decide)

theorem PayloadFits.readLoadHistory (position : Nat) (offset : Nat) :
    PayloadFits.Statement (.readLoadHistory position offset) :=
  payloadFits_of_fixed rfl rfl (fun _ => rfl) (by decide)

theorem PayloadFits.setClock (seconds : BitVec 32) :
    PayloadFits.Statement (.setClock seconds) :=
  payloadFits_of_fixed rfl rfl (fun _ => rfl) (by decide)

theorem PayloadFits.readClock : PayloadFits.Statement .readClock :=
  payloadFits_of_fixed rfl rfl (fun _ => rfl) (by decide)

theorem PayloadFits.mark : PayloadFits.Statement .mark :=
  payloadFits_of_fixed rfl rfl (fun _ => rfl) (by decide)

theorem PayloadFits.setLog (enables : EnableFields) :
    PayloadFits.Statement (.setLog enables) :=
  payloadFits_of_fixed rfl rfl (fun _ => rfl) (by decide)

theorem PayloadFits.readLog (count : Nat) :
    PayloadFits.Statement (.readLog count) :=
  payloadFits_of_fixed rfl rfl (fun _ => rfl) (by decide)

theorem PayloadFits.readLogStatus : PayloadFits.Statement .readLogStatus :=
  payloadFits_of_fixed rfl rfl (fun _ => rfl) (by decide)

theorem PayloadFits.setLimiter (settings : LimiterSettings) :
    PayloadFits.Statement (.setLimiter settings) :=
  payloadFits_of_fixed rfl rfl (fun _ => rfl) (by decide)

theorem PayloadFits.setHorn (settings : HornSettings) :
    PayloadFits.Statement (.setHorn settings) :=
  payloadFits_of_fixed rfl rfl (fun _ => rfl) (by decide)

theorem PayloadFits.readLimiter : PayloadFits.Statement .readLimiter :=
  payloadFits_of_fixed rfl rfl (fun _ => rfl) (by decide)

theorem PayloadFits.lever (demands : List Int) :
    PayloadFits.Statement (.lever demands) := by
  refine payloadFits_of_fixed rfl rfl (fun hw => ?_) (by decide)
  rw [length_flatMap_i16]
  simp only [Instr.wellFormed, Bool.and_eq_true, beq_iff_eq] at hw
  omega

theorem PayloadFits.setSection (valve : Nat) (settings : SectionSettings) :
    PayloadFits.Statement (.setSection valve settings) :=
  payloadFits_of_fixed rfl rfl (fun _ => rfl) (by decide)

theorem PayloadFits.readSection (valve : Nat) :
    PayloadFits.Statement (.readSection valve) :=
  payloadFits_of_fixed rfl rfl (fun _ => rfl) (by decide)

theorem PayloadFits.saveSettings : PayloadFits.Statement .saveSettings :=
  payloadFits_of_fixed rfl rfl (fun _ => rfl) (by decide)

theorem PayloadFits.profileSet (mask : Nat) (fields : ProfileFields) :
    PayloadFits.Statement (.profileSet mask fields) :=
  payloadFits_of_fixed rfl rfl (fun _ => rfl) (by decide)

theorem PayloadFits.profileRestore : PayloadFits.Statement .profileRestore :=
  payloadFits_of_fixed rfl rfl (fun _ => rfl) (by decide)

theorem PayloadFits.profileFreeze : PayloadFits.Statement .profileFreeze :=
  payloadFits_of_fixed rfl rfl (fun _ => rfl) (by decide)

theorem PayloadFits.profileIdentify : PayloadFits.Statement .profileIdentify :=
  payloadFits_of_fixed rfl rfl (fun _ => rfl) (by decide)

theorem PayloadFits.identify : PayloadFits.Statement .identify :=
  payloadFits_of_fixed rfl rfl (fun _ => rfl) (by decide)

theorem PayloadFits.readStore : PayloadFits.Statement .readStore :=
  payloadFits_of_fixed rfl rfl (fun _ => rfl) (by decide)

theorem PayloadFits.clearConditions (mask : BitVec 32) :
    PayloadFits.Statement (.clearConditions mask) :=
  payloadFits_of_fixed rfl rfl (fun _ => rfl) (by decide)

theorem PayloadFits.readConditions : PayloadFits.Statement .readConditions :=
  payloadFits_of_fixed rfl rfl (fun _ => rfl) (by decide)

theorem PayloadFits.setCabLine (period : Nat) (modes : List Nat) :
    PayloadFits.Statement (.setCabLine period modes) := by
  refine payloadFits_of_fixed rfl rfl (fun hw => ?_) (by decide)
  rw [List.length_append, length_flatMap_u8]
  simp only [Instr.wellFormed, Bool.and_eq_true, beq_iff_eq] at hw
  show 1 + _ = _
  omega

theorem PayloadFits.cabLineByteReceived (byte : Byte) :
    PayloadFits.Statement (.cabLineByteReceived byte) := payloadFits_of_none rfl

theorem PayloadFits.frameTransmitted : PayloadFits.Statement .frameTransmitted := payloadFits_of_none rfl

theorem PayloadFits.lossOfSupply : PayloadFits.Statement .lossOfSupply := payloadFits_of_none rfl

theorem PayloadFits.clockMillisecond : PayloadFits.Statement .clockMillisecond := payloadFits_of_none rfl

theorem PayloadFits.hornHalfPeriod : PayloadFits.Statement .hornHalfPeriod := payloadFits_of_none rfl

end Sys2Proof.Laws
end

