-- ==== Sys2Proof/Tests/Slice0.lean ====
section
/-! SUPPORT. Tests. The expected figures of a test are those of the manual's worked cases and tables, named
in its comment; each test performs one command on a small state. The witnesses show, for each statement with
hypotheses, a state and operands that meet them, at the boundary values of its clauses. -/

namespace Sys2Proof.Tests

open Sys2Proof.Machine

/-! ## States and operands -/

/-- The state a command leaves. -/
def after (i : Instr) (s : State) : State := outcomeState s (exec i s)

/-- The reset state under a unit scale on every channel: a code stands for itself, less 300 for BOOM, less
450 for PITCH and ROLL, ten times over for the pressures. The code 4,095 is out of the band. -/
def scaled : State :=
  { State.reset with
    iau :=
      { State.reset.iau with
        channels :=
          ⟨.afterReset ⟨0, 0, 4000, 4000, 0, 4094⟩, .afterReset ⟨0, -300, 1150, 850, 0, 4094⟩,
            .afterReset ⟨0, 0, 1800, 1800, 0, 4094⟩, .afterReset ⟨0, 0, 4000, 4000, 0, 4094⟩,
            .afterReset ⟨0, -450, 900, 450, 0, 4094⟩, .afterReset ⟨0, -450, 900, 450, 0, 4094⟩,
            .afterReset ⟨0, 0, 4000, 40000, 0, 4094⟩, .afterReset ⟨0, 0, 4000, 40000, 0, 4094⟩,
            .afterReset ⟨0, 0, 4000, 40000, 0, 4094⟩⟩ } }

/-- Position A of 03: over the stand, pitch +120, roll −80, with the pressures of 04's empty band. -/
def positionA : PerChannel RawCode := ⟨450, 600, 1500, 1300, 570, 370, 960, 120, 300⟩

/-- Position B of 03: over the bunk. -/
def positionB : PerChannel RawCode := ⟨1800, 900, 600, 0, 570, 370, 960, 120, 300⟩

def allHigh : PerLine Level := .all .high

/-- An acquisition frame with its four open tasks in the standard order. -/
def frame (codes : PerChannel RawCode) : Instr := .acquisitionFrame codes allHigh .standard

/-- The link UP at rate index 1, with the reference and the counts of 02's noise case. -/
def up : State :=
  { scaled with
    tlc :=
      { scaled.tlc with
        link := .up
        rate := 1
        hailTimer := none
        lossTimer := some 40
        sequenceRef := some 17
        errorCounter := 37 }
    clp := scaled.clp.putLive .tipDown false }

/-- The tip calibration of 04's worked case. -/
def tipCalibration : Calibration :=
  { Calibration.default with
    zero := 8200
    zeroValid := true
    span := 400
    spanValid := true
    tare := 1850
    kt := 45
    tref := 20
    areaHead := 7854
    areaRod := 4700 }

/-- The source is TIP, with the figures of 04's worked case before sample 11. -/
def onTip : State :=
  { up with
    wen :=
      { up.wen with
        calibration := tipCalibration
        settings := { up.wen.settings with windowSize := 8 }
        k := 1001710
        zeroOffset := 23
        latestTemperature := some (-18)
        source := .tip
        history := [9430, 9122, 9090, 9114]
        liveEstimate := some 7241
        previousCorrected := some 9114
        previousCount := some 31492 }
    clp := up.clp.putLive .noCal false }

/-- Lift 1,207 of 05's worked case. -/
def gripped : State :=
  { onTip with
    ltr :=
      { onTip.ltr with
        state := .gripped, number := 1206, gripTime := some ⟨0, 200⟩ }
    geo := { onTip.geo with zone := .ground }
    log := { onTip.log with clock := ⟨0, 780⟩ } }

/-- The same lift in LIFTED, its window 7 of 8. -/
def lifted : State :=
  { gripped with
    ltr :=
      { gripped.ltr with
        state := .lifted, number := 1207, liftOffTime := some ⟨0, 780⟩, fromZone := some .ground
        source := some .tip }
    wen :=
      { gripped.wen with
        liftSource := some .tip
        liftWindow := some ⟨.tip, 8, 7, 63776, some 9090, some 9131⟩ }
    log := { gripped.log with clock := ⟨0, 890⟩ } }

/-- The open load 41 of 06's worked cases: assortment 3 at 4,310 kg, assortment 5 at 2,950 kg. -/
def load41 : Load :=
  ⟨41, ⟨0, 0⟩, ((Vector.replicate 16 ⟨0, 0, 0⟩).set 3 ⟨4310, 7, 0⟩).set 5 ⟨2950, 4, 0⟩, 11, 0, false, false⟩

/-- The lift in WEIGHED over the bunk, load 41 open, assortment 3 defined and selected, its RELEASE running
since 3,100 ms. -/
def weighed : State :=
  { lifted with
    ltr :=
      { lifted.ltr with
        state := .weighed, result := some ⟨7240, 724, .good, false⟩, releaseStart := some ⟨3, 100⟩ }
    wen :=
      { lifted.wen with
        liftWindow := some ⟨.tip, 8, 8, 72904, some 9090, some 9131⟩, frameForce := none }
    geo := { lifted.geo with zone := .bunk }
    tal :=
      { lifted.tal with
        labels := (defaultLabels.set 3 [0x53]).set 5 [0x50]
        selected := 3
        load := some load41
        nextNumber := 42
        target := ⟨true, false, true, 8000, 1, 3, 5000⟩ }
    log := { lifted.log with clock := ⟨3, 250⟩ } }

/-- A section driving its positive coil at an output demand. -/
def driven (target output : Int) : SectionState :=
  { SectionState.afterReset .default with target := target, latch := false, output := output }

/-- The reset state out of HOLD with one section's state. -/
def withSection (v : Section) (x : SectionState) : State :=
  { State.reset with
    mlm := { State.reset.mlm with stage := .derate, momentFactor := 733 }
    vdr :=
      { State.reset.vdr with
        sections := State.reset.vdr.sections.set v x
        factors := factorsFor 733 ⟨1000, 1000⟩ } }

/-- 12 mA in every coil. -/
def lowCurrents : CoilSamples := .all ⟨12, 12⟩

/-- A queue of n frames. -/
def queued (n : Nat) : State :=
  { State.reset with
    clp := { State.reset.clp with queue := List.replicate n (.notice (.tipErrors 1)) } }

/-- The module without supply. -/
def dark : State := .unpowered .blank []

/-! ## Well-formed commands -/

theorem test_wf_accepts_worked_frame : (frame positionA).wellFormed = true := by decide

theorem test_wf_refuses_byte_past_255 : (Instr.readChannel 256).wellFormed = false := by decide

theorem test_wf_refuses_word_past_65535 : (Instr.calSpan 65536).wellFormed = false := by decide

theorem test_wf_refuses_long_past_range :
    (Instr.setTarget ⟨0, 0, 0, 4294967296, 1, 0, 1⟩).wellFormed = false := by decide

theorem test_wf_refuses_signed_byte_past_127 :
    (Instr.setCalibration ⟨0, 0, 128, 0, 0⟩).wellFormed = false := by decide

theorem test_wf_refuses_signed_word_past_32767 :
    (Instr.lever [32768, 0, 0, 0, 0, 0]).wellFormed = false := by decide

theorem test_wf_refuses_negative_value_of_unsigned_channel :
    (Instr.setChannel 3 ⟨200, -1, 3895, 4000, 200, 3895⟩).wellFormed = false := by decide

theorem test_wf_accepts_negative_value_of_signed_channel :
    (Instr.setChannel 1 ⟨200, -1, 3895, 850, 200, 3895⟩).wellFormed = true := by decide

theorem test_wf_refuses_current_past_3000 :
    (Instr.driveUpdate (.all ⟨3001, 0⟩)).wellFormed = false := by decide

theorem test_wf_refuses_unknown_kind_of_a_request : (Instr.unknownKind 0x01).wellFormed = false := by
  decide

theorem test_wf_accepts_unknown_kind : (Instr.unknownKind 0x06).wellFormed = true := by decide

theorem test_wf_refuses_five_demands : (Instr.lever [0, 0, 0, 0, 0]).wellFormed = false := by decide

theorem test_wf_refuses_long_label :
    (Instr.defineAssortment 1 (List.replicate 9 0x41)).wellFormed = false := by decide

theorem test_wf_refuses_29_modes :
    (Instr.setCabLine 0 (List.replicate 29 0)).wellFormed = false := by decide

theorem test_wf_refuses_mode_past_255 :
    (Instr.setCabLine 0 (256 :: List.replicate 29 0)).wellFormed = false := by decide

theorem test_wf_refuses_profile_mask_past_65535 :
    (Instr.profileSet 65536 ⟨0, 0, 0, 0, .all 0⟩).wellFormed = false := by decide

theorem test_wf_refuses_geometry_past_65535 :
    (Instr.setGeometry ⟨65536, 1000, 0, 0⟩).wellFormed = false := by decide

theorem test_wf_refuses_zones_past_65535 :
    (Instr.setZones ⟨0, 0, 0, 0, 0, 0, 65536⟩).wellFormed = false := by decide

theorem test_wf_refuses_weigh_byte_past_255 :
    (Instr.setWeigh ⟨50, 300, 256, 150, 20, 2000, 0, 250⟩).wellFormed = false := by decide

theorem test_wf_refuses_lift_past_65535 :
    (Instr.setLift ⟨65536, 0, 0, 0, 0, 0, 0, 0⟩).wellFormed = false := by decide

theorem test_wf_refuses_enable_past_255 :
    (Instr.setLog ⟨0, 0, 0, 0, 256⟩).wellFormed = false := by decide

theorem test_wf_refuses_limiter_past_255 : (Instr.setLimiter ⟨256, 300, 850⟩).wellFormed = false := by
  decide

theorem test_wf_refuses_horn_past_255 : (Instr.setHorn ⟨4, 256⟩).wellFormed = false := by decide

theorem test_wf_refuses_section_deadband_past_255 :
    (Instr.setSection 0 ⟨0, 0, 256, 1, 1⟩).wellFormed = false := by decide

/-- No row of the table has bits. -/
theorem test_decode_no_word : decodeTableWord 8 0x02 = none := by decide

/-! ## Inputs (01) -/

/-- 01, falling scale of the boom: the code 2,150 stands for 27.5°. -/
theorem test_scale_falling :
    scaledValue .boom ⟨3700, -300, 600, 850, 200, 3895⟩ (2150 : Fin 4096) = 275 := by decide

/-- 01, frame 5: 1,000.5 is rounded away from zero. -/
theorem test_scale_half_away_from_zero :
    scaledValue .boom ⟨3700, -300, 600, 850, 200, 3895⟩ (1003 : Fin 4096) = 701 := by decide

/-- 01, slew encoder mounted half a turn round. -/
theorem test_scale_slew_wraps :
    scaledValue .slew ⟨200, 1800, 3895, 5399, 200, 3895⟩ (3000 : Fin 4096) = 927 := by decide

/-- 01, frame 3 of the boom case: a code out of the band holds the last good value. -/
theorem test_frame_holds_channel :
    (after (frame { positionA with tele := 4095 }) (after (frame positionA) scaled)).iau.channels.tele
      = ⟨⟨0, 0, 4000, 4000, 0, 4094⟩, some 4095, .held, some 1300, some 1300⟩ := by rfl

/-- 01, the mark button: a falling change held 20 ms is a mark (frame 450). -/
theorem test_frame_marks :
    (after (.acquisitionFrame positionA ⟨.high, .high, .high, .low⟩ .standard)
      { scaled with
        iau :=
          { scaled.iau with
            lines :=
              { scaled.iau.lines with
                dl3 := ⟨⟨.function, .falling⟩, .low, some .low, some .high, some ⟨.low, ⟨0, 430⟩⟩⟩ } }
        log := { scaled.log with clock := ⟨0, 450⟩ } }).log.ring.length = 1 := by rfl

theorem test_read_channel_past_grip :
    refusedWith (.readChannel 9) 0x02 .badValue State.reset := by rfl

/-- R15: a line taken to an output-class mode has no debounced level. -/
theorem test_set_line_to_output :
    ((after (.setLine 0 2 0)
      { scaled with
        iau :=
          { scaled.iau with
            lines :=
              { scaled.iau.lines with
                dl0 := ⟨⟨.input, .rising⟩, .low, some .low, some .high, none⟩ } } }).iau.lines.dl0).debounced
      = none := by rfl

theorem test_write_lines_masked :
    (after (.writeLines 5 15) State.reset).iau.lines.toList.map LineState.written
      = [.high, .low, .high, .low] := by rfl

/-! ## Tip link (02) -/

/-- 02, bring-up: HAIL 2 at 10 ms. -/
theorem test_hail_timer : (after .hailTimerExpiry State.reset).tlc.hailCount = 2 := by rfl

/-- 02, bring-up: the HAIL REPLY takes the link to PROBING and PROBE 1 is sent. -/
theorem test_hail_reply :
    (after .hailReply State.reset).tlc.link = .probing
      ∧ (after .hailReply State.reset).tlc.sent = some (.probe 0 1) := by decide

/-- 02, bring-up: the probe window expires and the next rate is tried. -/
theorem test_probe_window :
    (after .probeWindowExpiry (after .hailReply State.reset)).tlc.rate = 1 := by rfl

/-- 02, bring-up: PROBE ECHO of the index under trial. -/
theorem test_probe_echo :
    (after (.probeEcho 0 1) (after .hailReply State.reset)).tlc.link = .starting := by rfl

/-- R25: an echo of another index is discarded. -/
theorem test_probe_echo_of_another_rate :
    (after (.probeEcho 1 1) (after .hailReply State.reset)).tlc.link = .probing := by rfl

/-- 02, bring-up: the first DATA frame takes the link UP. -/
theorem test_first_data :
    (after (.dataFrame 0 100 0 20 0) (after (.probeEcho 0 1) (after .hailReply State.reset))).tlc.link
      = .up := by rfl

/-- 02, noise case: sequence 22 after 17 has 4 frames missing. -/
theorem test_data_missing :
    (after (.dataFrame 22 100 0 20 0) up).tlc.errorCounter = 41
      ∧ (after (.dataFrame 22 100 0 20 0) up).tlc.noiseCount = 4 := by decide

/-- 02, noise case: a repeat is dropped. -/
theorem test_data_repeat :
    (after (.dataFrame 17 100 0 20 0) up).tlc.errorCounter = 38
      ∧ (after (.dataFrame 17 100 0 20 0) up).tlc.lastSample = none := by decide

/-- 02, noise case: the noise count passes 25 and the rate steps down. -/
theorem test_noise_steps_down :
    (after (.dataFrame 24 100 0 20 0) { up with tlc := { up.tlc with noiseCount := 20 } }).tlc.rate = 2
      ∧ (after (.dataFrame 24 100 0 20 0) { up with tlc := { up.tlc with noiseCount := 20 } }).tlc.link
        = .probing := by decide

theorem test_damaged_frame : (after .damagedTipFrame up).tlc.errorCounter = 38 := by rfl

/-- 02, noise case: the report carries 63 and the counter is 0. -/
theorem test_report_timer :
    (after .reportTimerExpiry { up with tlc := { up.tlc with errorCounter := 63 } }).tlc.reportValue = 63
      ∧ .notice (.tipErrors 63)
        ∈ (after .reportTimerExpiry { up with tlc := { up.tlc with errorCounter := 63 } }).clp.queue := by
  decide

theorem test_report_refused_in_auto : refusedWith .reportTipErrors 0x0B .state State.reset := by rfl

/-- R22: a HAIL is a fresh bring-up in every state. -/
theorem test_hail_while_up : (after .hail up).tlc.link = .hailing := by rfl

theorem test_link_restart : (after .linkRestart up).tlc.hailCount = 1 := by rfl

theorem test_loss : (after .lossTimerExpiry up).tlc.link = .probing := by rfl

theorem test_set_tip_link_refused : refusedWith (.setTipLink 2 0) 0x08 .badValue State.reset := by rfl

/-! ## Geometry (03) -/

/-- 03, position A. -/
theorem test_position_a :
    (after (frame positionA) scaled).geo.position = some ⟨9830, 4500, 450, 1300, 0⟩
      ∧ (after (frame positionA) scaled).geo.tau = some 28
      ∧ (after (frame positionA) scaled).geo.tilt = some 120
      ∧ (after (frame positionA) scaled).geo.rawZone = .ground := by
  decide +kernel

/-- 03, position B. -/
theorem test_position_b :
    (after (frame positionB) scaled).geo.position = some ⟨4600, 2693, 1800, 0, -600⟩
      ∧ (after (frame positionB) scaled).geo.tau = some (-120)
      ∧ (after (frame positionB) scaled).geo.rawZone = .bunk := by
  decide +kernel

/-- 03, swing case, frame 8: the third frame of BUNK takes the zone. -/
theorem test_zone_third_frame :
    (after (frame positionB) { scaled with
      geo := { scaled.geo with candidate := some ⟨.bunk, 2⟩ } }).geo.zone = .bunk := by
  decide +kernel

theorem test_set_geometry_refused :
    refusedWith (.setGeometry ⟨999, 4200, 2000, 1800⟩) 0x10 .badValue State.reset := by rfl

theorem test_set_zones_refused :
    refusedWith (.setZones ⟨1200, 2400, 6501, 6500, 3300, 300, 2500⟩) 0x11 .badValue State.reset := by
  rfl

/-! ## Weighing (04) -/

/-- 04: the count 31,500 stands for a corrected value of 9,118. -/
theorem test_corrected_value : correctedValue onTip.wen (tipSampleOf 31500 21 0xEE 0) = 9118 := by rfl

/-- 04: the latest temperature −18 gives K = 1,001,710. -/
theorem test_compensation :
    (after .compensationUpdate { onTip with wen := { onTip.wen with k := 1000000 } }).wen.k = 1001710 := by
  rfl

/-- 04: sample 11 brings the live estimate to 7,241. -/
theorem test_live_estimate : (after (.dataFrame 18 31527 20 0xEE 0) onTip).wen.liveEstimate = some 7241 := by
  decide +kernel

/-- 04: sample 11 completes the window: 724 kg, GOOD. -/
theorem test_window_completes :
    (after (.dataFrame 18 31527 20 0xEE 0) lifted).ltr.result = some ⟨7240, 724, .good, false⟩ := by
  decide +kernel

/-- 04, sample 3: a swing of 6.3° is past the limit. -/
theorem test_swing_gate : (after (.dataFrame 18 31527 63 0xEE 0) lifted).ltr.state = .lifted := by rfl

/-- 04, cylinder case: the pressures 9,600 and 1,200 kPa stand for 69,758 N. -/
theorem test_cylinder_force :
    ((after (frame positionA)
      { scaled with wen := { scaled.wen with calibration := tipCalibration } }).wen.frameForce).map
        CylinderForce.force = some 69758 := by
  decide +kernel

/-- 04, link exchange: the 32nd count of CAL ZERO; the counts sum to 262,403. -/
theorem test_cal_zero_completes :
    (after (.dataFrame 18 8203 0 20 0)
      { onTip with
        wen :=
          { onTip.wen with
            capture := some ⟨.zero, none, 0, 31, 254200⟩, previousCount := some 8200
            calibration := { tipCalibration with zero := 7940, span := 412 }
            zeroOffset := 61 } }).wen.calibration.zero = 8200 := by rfl

/-- 04, link exchange: the 32nd count of CAL SPAN; the counts sum to 1,233,280. -/
theorem test_cal_span_completes :
    (after (.dataFrame 18 38540 0 20 0)
      { gripped with
        wen :=
          { gripped.wen with
            capture := some ⟨.span, none, 10000, 31, 1194740⟩, previousCount := some 38540
            calibration := { tipCalibration with span := 412 } } }).wen.calibration.span = 400 := by
  decide +kernel

theorem test_cal_zero_accepted : (after .calZero onTip).wen.capture = some ⟨.zero, none, 0, 0, 0⟩ := by rfl

theorem test_cal_span_refused_small_mass : refusedWith (.calSpan 499) 0x1C .badValue State.reset := by rfl

theorem test_cal_cyl_empty_refused_without_pressures :
    refusedWith .calCylEmpty 0x1D .state State.reset := by rfl

theorem test_cal_cyl_load_refused_in_idle : refusedWith (.calCylLoad 500) 0x1E .state State.reset := by rfl

theorem test_cal_abort_refused_without_capture : refusedWith .calAbort 0x1F .state State.reset := by rfl

/-- R81: z is clamped to a lowered tracking limit. -/
theorem test_set_weigh_clamps_offset :
    (after (.setWeigh ⟨50, 300, 32, 150, 20, 2000, 0, 20⟩) onTip).wen.zeroOffset = 20 := by rfl

/-- R82: each value that differs passes a CAL entry. -/
theorem test_set_calibration_entries :
    (after (.setCalibration ⟨1851, 45, 21, 7854, 4700⟩) onTip).log.ring.length = 2 := by rfl

/-! ## Lift tracking (05) -/

/-- 05, at 200: GRIP held 200 ms is taken. -/
theorem test_grip_taken :
    (after (frame { positionA with grip := 1210 })
      { scaled with
        ltr := { scaled.ltr with gripStart := some ⟨0, 0⟩ }
        log := { scaled.log with clock := ⟨0, 200⟩ } }).ltr.state = .gripped := by
  decide +kernel

/-- 05, at 780: LIFT-OFF takes the next lift number. -/
theorem test_lift_off :
    (after (.dataFrame 18 31527 20 0xEE 0)
      { gripped with ltr := { gripped.ltr with liftOffStart := some ⟨0, 480⟩ } }).ltr.number = 1207 := by rfl

/-- 05, at 3,250: RELEASE commits 724 kg to assortment 3. -/
theorem test_release_commits :
    ((after (frame { positionB with grip := 25 }) weighed).tal.load.map fun l => l.figures[3])
      = some ⟨5034, 8, 0⟩ := by
  decide +kernel

/-- 05: the record of lift 1,207 is the LIFT entry. -/
theorem test_release_records :
    ((after (frame { positionB with grip := 25 }) weighed).log.ring.map Entry.part)
      = [.lift ⟨1207, .loaded, .ground, .bunk, 3, 724, .good, .tip, ⟨724, 0, false, some 41⟩⟩] := by
  decide +kernel

/-- 05, lost log: DROP in LIFTED with a window of 3 is 9 kg, UNWEIGHED. -/
theorem test_drop_unweighed :
    ((after (.dataFrame 18 13218 20 0xEE 0)
      { lifted with
        ltr := { lifted.ltr with dropStart := some ⟨0, 690⟩ }
        wen :=
          { lifted.wen with
            history := [1963, 1963, 1963], liftWindow := some ⟨.tip, 8, 3, 0, none, none⟩ } }).log.ring.map
        fun e => match e.part with
          | .lift p => (p.mass, p.quality, p.outcome)
          | _ => (0, .good, .empty)) = [(9, .unweighed, .dropped)] := by
  decide +kernel

theorem test_set_lift_refused_order :
    refusedWith (.setLift ⟨9000, 9000, 200, 150, 300, 150, 300, 200⟩) 0x20 .badValue State.reset := by rfl

/-! ## Tally (06) -/

/-- 06, target case: the commit of lift 1,208 reaches the target. -/
theorem test_commit_target :
    .notice (.target 41 8115 12)
      ∈ (commit .loaded 5 131 .unweighed
        { weighed with
          tal :=
            { weighed.tal with
              load := some { load41 with figures := load41.figures.set 3 ⟨5034, 8, 0⟩ } } }).clp.queue := by
  decide

/-- 06, limit case: 59,800 kg and 724 kg are 60,000 kg, applied 200. -/
theorem test_commit_saturates :
    commitEffect .loaded 7 724
      { weighed.tal with
        load := some { load41 with figures := load41.figures.set 7 ⟨59800, 212, 0⟩ } }
      = ⟨200, 0, false, some 41⟩ := by decide +kernel

/-- 06, landing case: 455 kg from 410 kg are an overdraw of 45. -/
theorem test_commit_overdraws :
    commitEffect .unloaded 5 455
      { weighed.tal with
        load := some { load41 with figures := load41.figures.set 5 ⟨410, 6, 1⟩ } }
      = ⟨410, 45, false, some 41⟩ := by decide +kernel

/-- 06, landing case: a total of 0 closes the load. -/
theorem test_commit_empties :
    (commit .unloaded 3 22 .unweighed
      { weighed with
        tal :=
          { weighed.tal with
            load := some
              { load41 with
                figures := ((Vector.replicate 16 ⟨0, 0, 0⟩).set 3 ⟨14, 8, 0⟩).set 5 ⟨0, 6, 1⟩ } } }).tal.history.map
        Summary.pairs = [[⟨3, 0, 8⟩, ⟨5, 0, 6⟩]] := by
  decide

theorem test_select_undefined : refusedWith (.selectAssortment 1) 0x28 .state State.reset := by rfl

theorem test_define_unsorted : refusedWith (.defineAssortment 0 [0x41]) 0x29 .badValue State.reset := by rfl

theorem test_hold_tally : (after .holdTally State.reset).tal.commandedHold = true := by rfl

theorem test_release_tally :
    (after .releaseTally (after .holdTally State.reset)).tal.commandedHold = false := by rfl

theorem test_set_target_refused :
    refusedWith (.setTarget ⟨0, 1, 1, 0, 1, 0, 1⟩) 0x2C .badValue State.reset := by rfl

theorem test_close_load : (after .closeLoad weighed).tal.load = none := by rfl

/-! ## Log and time base (07) -/

/-- 07: SET CLOCK with 8,000 during a grip. -/
theorem test_set_clock_moves_stamp :
    (after (.setClock 8000)
      { State.reset with
        ltr := { State.reset.ltr with gripStart := some ⟨1000, 400⟩ }
        log := { State.reset.log with clock := ⟨1000, 550⟩ } }).ltr.gripStart = some ⟨7999, 850⟩ := by
  decide +kernel

theorem test_clock_wraps :
    (after .clockMillisecond
      { State.reset with
        log := { State.reset.log with clock := ⟨0xFFFFFFFF, 999⟩ } }).log.clock = ⟨0, 0⟩ := by rfl

theorem test_mark_first_sequence : ((after .mark State.reset).log.ring.map Entry.sequence) = [1] := by rfl

theorem test_read_log_refused : refusedWith (.readLog 5) 0x3C .badValue State.reset := by rfl

theorem test_set_log :
    (after (.setLog ⟨1, 0, 1, 1, 0⟩) State.reset).log.enables = ⟨false, true, false, false, true⟩ := by rfl

/-! ## Moment limiting (08) -/

/-- 08, at 270.0° and 6,400 mm: M, D and u. -/
theorem test_moment_figures :
    loadMoment 7240 1850 6400 = 5818 ∧ derateFor .default (some 80) = 760
      ∧ utilisation 5818 (permittedMoment 9000 760) = 850 := by decide

/-- 08, at 270.0° and 6,700 mm: the moment factor in DERATE. -/
theorem test_moment_factor : momentFactor .derate 890 850 = 733 := by decide

/-- 08, at 300.0°: 1,054 ‰ is HOLD. -/
theorem test_stage_hold : nextStage .derate 1054 true 850 = .hold := by decide

/-- 08, cab sector: inside at 350.0° the shorter way out is counter-clockwise. -/
theorem test_cab_sector_inside :
    cabBlock .default (some ⟨2100, 0, 3500, 0, 0⟩) = (.inSector, ⟨0, 1000⟩) := by decide

/-- 08, cab sector: the tie at 0.0° gives counter-clockwise. -/
theorem test_cab_sector_tie : cabBlock .default (some ⟨2100, 0, 0, 0, 0⟩) = (.inSector, ⟨0, 1000⟩) := by
  decide

/-- 08, cab sector: the approaches at 328.0° and 32.0°. -/
theorem test_cab_sector_approaches :
    cabBlock .default (some ⟨2100, 0, 3280, 0, 0⟩) = (.before, ⟨0, 1000⟩)
      ∧ cabBlock .default (some ⟨2100, 0, 320, 0, 0⟩) = (.after, ⟨1000, 0⟩) := by decide

theorem test_set_limiter : (after (.setLimiter ⟨0, 100, 700⟩) State.reset).mlm.figures.derate = 100 := by rfl

theorem test_set_horn_refused : refusedWith (.setHorn ⟨3, 9⟩) 0x41 .badValue State.reset := by rfl

theorem test_lamp_flash : (after .lampFlashStep State.reset).mlm.lampHigh = false := by rfl

theorem test_horn_half_period : (after .hornHalfPeriod State.reset).mlm.hornHigh = false := by rfl

/-- R158's table of half-periods, in 1/32,768 s. -/
theorem test_half_periods :
    [⟨1, 0⟩, ⟨4, 9⟩, ⟨2, 24⟩, ⟨8, 63⟩].map halfPeriod = [1, 40, 50, 512] := by decide

/-- R158: at the default of 40/32,768 s, 1.221 ms, the half-period has 0.221 ms left after a millisecond. -/
theorem test_wave_timer : (after .clockMillisecond State.reset).mlm.waveTimer = some 904 := by rfl

theorem test_horn_step_in_continuous : (after .hornPatternStep State.reset).mlm = State.reset.mlm := by rfl

/-! ## Valve drive (09) -/

/-- 09: the output +500 is 740 mA, code 94. -/
theorem test_drive_setpoint :
    ((after (.driveUpdate (.all ⟨740, 0⟩)) (withSection .rotate (driven 500 500))).vdr.sections.rotate).setpoint
        = ⟨740, 0⟩
      ∧ ((after (.driveUpdate (.all ⟨740, 0⟩)) (withSection .rotate (driven 500 500))).vdr.sections.rotate).duty
        = ⟨94, 0⟩ := by decide +kernel

/-- 09, reaching out: update 1 at factor 733. -/
theorem test_drive_factor :
    ((after (.driveUpdate lowCurrents) (withSection .tele (driven 800 0))).vdr.sections.tele).composed = 586
      ∧ ((after (.driveUpdate lowCurrents) (withSection .tele (driven 800 0))).vdr.sections.tele).setpoint
        = ⟨327, 0⟩ := by decide

/-- R173: at code 94 the 2nd and the 4th pulse period of a group have the extra. -/
theorem test_pulses_of_94 :
    { driven 500 500 with driven := ⟨94, 0⟩ }.pulses = ([23, 24, 23, 24], [0, 0, 0, 0]) := by decide

/-- R173: a code handed at a drive update waits for the end of the group in progress. -/
theorem test_code_waits_for_the_group :
    let s := after (.driveUpdate (.all ⟨740, 0⟩)) (withSection .rotate (driven 500 500))
    let t := after .clockMillisecond s
    s.vdr.sections.rotate.driven = ⟨0, 0⟩ ∧ t.vdr.sections.rotate.driven = ⟨0, 0⟩
      ∧ (after .clockMillisecond t).vdr.sections.rotate.driven = ⟨94, 0⟩ := by decide +kernel

/-- 09, reversal: from +30 toward −400 the output stops at 0. -/
theorem test_drive_stops_at_zero :
    ((after (.driveUpdate lowCurrents)
      (withSection .rotate (driven (-400) 30))).vdr.sections.rotate).output = 0 := by rfl

/-- 09, open coil: at an open count of 10 the coil is open. -/
theorem test_drive_open_coil :
    ((after (.driveUpdate lowCurrents)
      (withSection .jib { driven 500 500 with setpoint := ⟨740, 0⟩, openCount := ⟨10, 0⟩ })).vdr.sections.jib).coil
      = .disabled .openA := by rfl

theorem test_coil_short :
    ((after (.coilShort .boom .b) State.reset).vdr.sections.boom).coil = .disabled .shortB := by rfl

/-- 09, silent line: a record at +30 clears the latch. -/
theorem test_lever_clears_latch :
    ((after (.lever [0, 30, 0, 0, 0, 0]) State.reset).vdr.sections.boom).target = 30
      ∧ ((after (.lever [0, 680, 0, 0, 0, 0]) State.reset).vdr.sections.boom).latch = true := by decide

theorem test_lever_timer : (after .leverTimerExpiry State.reset).clp.isLive .leverStale = true := by rfl

theorem test_set_section_all :
    ((after (.setSection 6 ⟨250, 250, 20, 50, 100⟩) State.reset).vdr.sections.toList.map fun x =>
      x.settings.iMax) = [250, 250, 250, 250, 250, 250] := by rfl

/-! ## Profile and store (10) -/

/-- 10: the five named fields of the reduction; the tilt limit of 300 is ignored. -/
def reduced : ProfileFields := ⟨9000, 300, 0, 14000, ⟨0, 250, 0, 1000, 0, 0⟩⟩

/-- 10: the mask that names M_base, tilt, payload, BOOM and TELE. -/
def reducedMask : Nat := 171

theorem test_profile_set :
    (after (.profileSet reducedMask reduced) State.reset).sto.working
      = ⟨9000, 250, true, 14000, ⟨2000, 250, 2000, 1000, 2000, 2000⟩⟩ := by rfl

theorem test_profile_set_currents :
    ((after (.profileSet reducedMask reduced) State.reset).vdr.sections.boom).settings
      = ⟨250, 250, 20, 50, 100⟩ := by rfl

/-- 10: after a PROFILE FREEZE a PROFILE SET is refused FROZEN. -/
theorem test_frozen :
    refusedWith (.profileSet reducedMask reduced) 0x51 .frozen
      { State.reset with sto := { State.reset.sto with freeze := .frozen } } := by rfl

theorem test_profile_freeze : (after .profileFreeze State.reset).sto.freeze = .frozen := by rfl

theorem test_restart_busy : refusedWith .restart 0x5B .busy (after .profileFreeze State.reset) := by rfl

theorem test_save_busy : refusedWith .saveSettings 0x50 .busy (after .profileFreeze State.reset) := by rfl

theorem test_store_done :
    .notice (.storeDone .profileFreeze)
      ∈ (after .storeWritePart (after .profileFreeze State.reset)).clp.queue := by decide

theorem test_profile_restore_refused_busy :
    refusedWith .profileRestore 0x52 .busy
      { State.reset with
        sto := { State.reset.sto with write := some (.profile .set .factory) } } := by rfl

theorem test_loss_of_supply : (after .lossOfSupply State.reset).powered = false := by rfl

/-- State.reset is what POWER-ON leaves of a module whose store was never written (log 2). -/
theorem test_power_on_blank : (after (.powerOn (.all ⟨0, 0⟩)) dark).clp.queue = State.reset.clp.queue := by rfl

theorem test_restart_performed :
    (after (.restartPerformed (.all ⟨0, 0⟩)) (after .restart State.reset)).clp.queue
      = [.notice (.started .restart false ⟨.failed, .failed, .failed⟩ .opened)] := by rfl

/-! ## Cab line (11) -/

/-- The CRC of R193 over "123456789" is that of its polynomial and initial value. -/
theorem test_crc : crc16 [0x31, 0x32, 0x33, 0x34, 0x35, 0x36, 0x37, 0x38, 0x39] = 0x29B1 := by
  decide +kernel

/-- 11: TIP_DOWN under RISE: the loss sends CONDITION 0, live 1, latched 1. -/
theorem test_condition_rise :
    .notice (.condition 0 1 true) ∈ (after .lossTimerExpiry up).clp.queue := by decide

/-- 11: CLEAR CONDITIONS leaves a latch whose live state is set. -/
theorem test_clear_conditions_live :
    (after (.clearConditions 1) State.reset).clp.isLatched .tipDown = true
      ∧ (after (.clearConditions 0x2000000) State.reset).clp.isLatched .tallyLost = false := by decide

theorem test_unknown_kind : refusedWith (.unknownKind 0x06) 0x06 .badKind State.reset := by rfl

theorem test_set_cab_line_off :
    (after (.setCabLine 0 (List.replicate 30 0)) State.reset).clp.liveTimer = none := by rfl

theorem test_frame_transmitted : (after .frameTransmitted State.reset).clp.queue = [] := by rfl

/-- R203's LIVE layout at reset: nothing present, source NONE, IDLE, UNKNOWN, HOLD, all figures 0. -/
theorem test_live_payload :
    (Notice.live (liveReport State.reset)).payload
      = [0, 0, 0, 0, 0, 0, 0, 3, 0, 0, 0, 0, 0, 0, 2, 0, 0, 0, 0] := by decide

theorem test_live_replaces_live :
    (after .liveReportTimerExpiry (after .liveReportTimerExpiry State.reset)).clp.queue.length = 2 := by rfl

/-- The bytes of READ CLOCK's frame, one after another, are answered. -/
theorem test_bytes_perform_read_clock :
    (outcomeState State.reset (receiveAll (cabFrame 0x39 []) State.reset)).clp.queue
      = State.reset.clp.queue ++ [.reply 0x39 .ok 0 true [0, 0, 0, 0, 0, 0]] := by
  decide +kernel

theorem test_byte_gap :
    (after .byteGapExpiry (after (.cabLineByteReceived 0xA5) State.reset)).clp.receiver = .idle := by rfl

theorem test_stop_error :
    (after .cabFrameDiscarded (after (.cabLineByteReceived 0xA5) State.reset)).clp.receiver.state = .hunt := by
  rfl

/-- R193: a stop-bit error 6 ms after the last byte finds the kept bytes discarded by the gap; within 5 ms the
SYNC kept behind the first is found. -/
theorem test_stop_error_after_gap :
    let s (n : Nat) : State := { State.reset with
      clp := { State.reset.clp with receiver := ⟨.body, [0xA5, 3, 0xA5], some n⟩ } }
    (after .cabFrameDiscarded (s 6)).clp.receiver = .idle
      ∧ (after .cabFrameDiscarded (s 5)).clp.receiver = ⟨.length, [0xA5], some 5⟩ := by decide

/-- R195: a request whose reply finds no room is lost. -/
theorem test_no_room : (after .readClock (queued 64)).clp.lost = 1 := by rfl

/-- IDENTIFY answers with the names of R190. -/
theorem test_identify_answers : (after .identify State.reset).clp.queue.length = 2 := by rfl

theorem test_step_takes_front :
    step { State.reset with pending := [.holdTally, .releaseTally] }
      = exec .holdTally { State.reset with pending := [.releaseTally] } := by rfl

/-! ## Witnesses: the machine and its queues -/

/-- A sequence of requests is served from reset. -/
theorem serves_reset : State.reset.serves 16 := ⟨by decide, by decide⟩

theorem serves_one {s : State} (h : s.serves 16) : s.serves 1 := ⟨h.1, by have := h.2; omega⟩

theorem witness_StepPerformsTheFrontCommand : State.reset.pending = [] := by rfl

theorem witness_EveryCommandCompletes : dark.powered = false ∧ ∀ m, Instr.hail ≠ .powerOn m :=
  ⟨by rfl, fun _ => nofun⟩

/-- Not dispatched; a request and a LEVER of five demands; READ WEIGH's two parts behind 62 frames and
behind 63. -/
theorem witness_RequestsWithoutRoomAreLost :
    let parts := replyFrames 0x1A .ok (readWeighData State.reset)
    encodeRequest .readWeigh = some (0x1A, []) ∧ dark.dispatching = false
      ∧ (queued 63).dispatching = true ∧ (∀ d, Instr.readWeigh = .lever d → d.length ≠ 6)
      ∧ parts.length = 2 ∧ 64 < (queued 63).clp.queue.length + parts.length
      ∧ (queued 62).clp.queue.length + parts.length ≤ 64
      ∧ (encodeRequest (.lever [0, 0, 0, 0, 0])).isSome
      ∧ ∀ d, Instr.lever [0, 0, 0, 0, 0] = .lever d → d.length ≠ 6 :=
  ⟨by rfl, by rfl, by rfl, fun _ => nofun, by rfl, by decide +kernel, by decide +kernel, by rfl, fun _ h => by
    cases h
    decide⟩

/-- 61 bytes of data are two parts. -/
theorem witness_ReplyPartsCarryTheData :
    2 ≤ [List.replicate 60 (0 : Byte), [0]].length := by decide

/-- Requests of fields at the ends of their ranges. -/
theorem witness_EncodedRequestsDecode :
    (Instr.setChannel 0 ⟨65535, -32768, 0, 32767, 65535, 0⟩).wellFormed = true
      ∧ (encodeRequest (.setChannel 0 ⟨65535, -32768, 0, 32767, 65535, 0⟩)).isSome
      ∧ (Instr.setCalibration ⟨65535, -32768, -128, 65535, 0⟩).wellFormed = true
      ∧ (encodeRequest (.setCalibration ⟨65535, -32768, -128, 65535, 0⟩)).isSome
      ∧ (Instr.defineAssortment 255 (List.replicate 8 0xFF)).wellFormed = true
      ∧ (encodeRequest (.defineAssortment 255 (List.replicate 8 0xFF))).isSome := by decide

theorem witness_ReceivedFramesPerformTheirRequests :
    State.reset.powered = true ∧ State.reset.clp.started = true ∧ State.reset.clp.receiver = .idle
      ∧ (Instr.setClock 0xFFFFFFFF).wellFormed = true
      ∧ encodeRequest (.setClock 0xFFFFFFFF) = some (0x38, [0xFF, 0xFF, 0xFF, 0xFF])
      ∧ (List.replicate 63 (0 : Byte)).length ≤ 63 ∧ (requestForm (0x06 : Byte).toNat).isNone
      ∧ (requestForm (0x38 : Byte).toNat).map (fun f => f.suits 3) = some false
      ∧ State.reset.serves 1 :=
  ⟨by rfl, by rfl, by rfl, by decide, by decide, by decide, by rfl, by rfl, serves_one serves_reset⟩

/-- The receiver with a frame in progress, a gap of `gap` ms behind it. -/
def receiving (gap : Nat) : State :=
  { State.reset with clp := { State.reset.clp with receiver := ⟨.length, [0xA5], some gap⟩ } }

/-- Nothing kept; a gap of 6 ms and one of 5 ms; a LENGTH of 0 and of 65; a CRC that does not match; not
STARTED. -/
theorem witness_ReceiverHuntsAndRescans :
    let s : State := { State.reset with
      clp := { State.reset.clp with receiver := ⟨.check, [0xA5, 1, 0x39, 0], some 5⟩ } }
    State.reset.powered = true ∧ State.reset.clp.started = true
      ∧ State.reset.clp.receiver.kept = [] ∧ State.reset.clp.receiver.state = .hunt
      ∧ ((receiving 6).clp.receiver.sinceByte = some 6 ∧ 5 < 6)
      ∧ (∀ n, (receiving 5).clp.receiver.sinceByte = some n → n ≤ 5)
      ∧ (receiving 5).clp.receiver.kept = 0xA5 :: [] ∧ (receiving 5).clp.receiver.state = .length
      ∧ 64 < (65 : Byte).toNat
      ∧ (∀ n, s.clp.receiver.sinceByte = some n → n ≤ 5)
      ∧ s.clp.receiver.kept = 0xA5 :: ((1 : Byte) :: [0x39] ++ [0]) ∧ s.clp.receiver.state = .check
      ∧ [(0x39 : Byte)].length = (1 : Byte).toNat
      ∧ (crc16 [1, 0x39]).toNat ≠ (0 : Byte).toNat * 256 + (0 : Byte).toNat
      ∧ { State.reset with clp := { State.reset.clp with started := false } }.clp.started = false := by
  refine ⟨by rfl, by rfl, by rfl, by rfl, by decide, ?_, by rfl, by rfl, by decide, ?_, by rfl, by rfl,
    by decide, by decide +kernel, by rfl⟩ <;>
    (intro n h; cases h; decide)

/-- A LIVE waiting; no LIVE waiting with 31 and with 32 frames; an empty queue; the timer not running; a notice
other than LIVE. -/
theorem witness_QueueIsFirstInFirstOut :
    (queued 1).powered = true ∧ (queued 1).clp.queue = .notice (.tipErrors 1) :: [] ∧ (queued 0).clp.queue = []
      ∧ (queued 0).clp.liveTimer.isSome = true
      ∧ (after .liveReportTimerExpiry (queued 1)).clp.queue
        = [.notice (.tipErrors 1)] ++ .notice (.live (liveReport (queued 1))) :: []
      ∧ (queued 31).clp.queue.all (fun f => !f.isLive) = true ∧ (queued 31).clp.queue.length < 32
      ∧ (queued 32).clp.queue.all (fun f => !f.isLive) = true ∧ 32 ≤ (queued 32).clp.queue.length
      ∧ (after (.setCabLine 0 (List.replicate 30 0)) State.reset).clp.liveTimer = none
      ∧ ∀ r, Notice.tipErrors 1 ≠ .live r :=
  ⟨by rfl, by rfl, by rfl, by rfl, by rfl, by rfl, by decide, by rfl, by decide, by rfl, fun _ => nofun⟩

theorem witness_TipFramesStandForTheirCommands :
    tipIntact [] = false ∧ tipIntact [0x48, 0xB9] = false
      ∧ TipFrame.hail.bytes = [] ++ 0x48 :: [0xB8] ∧ (0x48 : Byte) ≠ 0x68 := by decide

/-! ## Witnesses: inputs and geometry -/

/-- A frame with one TELE code under the band 200..3,895. -/
def narrow : State :=
  { scaled with
    iau :=
      { scaled.iau with
        channels := { scaled.iau.channels with tele := .afterReset ⟨0, 0, 4000, 4000, 200, 3895⟩ } } }

/-- The codes at both ends of the band and just outside it, on a channel in NONE and on one that has been
GOOD. -/
theorem witness_FrameJudgesChannels :
    narrow.powered = true
      ∧ (let o := narrow.iau.channels.get .tele
        o.settings.bandLo ≤ 200 ∧ 3895 ≤ o.settings.bandHi ∧ 199 < o.settings.bandLo
          ∧ o.settings.bandHi < 3896 ∧ o.status = .none)
      ∧ (after (frame { positionA with tele := 200 }) narrow).iau.channels.tele.status ≠ .none
      ∧ (after (frame { positionA with tele := 200 }) narrow).iau.channels.tele.lastGood = some 200 := by
  decide +kernel

theorem witness_ScaledValueFollowsTheScale :
    (let o := (narrow.iau.channels.get .tele).settings;
      o.rawHi ≠ o.rawLo ∧ o.bandLo ≤ 200 ∧ 200 ≤ o.bandHi ∧ o.bandLo ≤ 3895 ∧ 3895 ≤ o.bandHi)
      ∧ (after (frame positionA) scaled).iau.channels.tele.value = some 1300
      ∧ (after (frame positionA) scaled).iau.channels.slew.value = some 450 := by
  decide +kernel

/-- DL3 with its settings, its debounced level and its candidate, at 450 ms. -/
def button (t : LineSettings) (d : Option Level) (c : Option LineCandidate) : State :=
  { scaled with
    iau :=
      { scaled.iau with lines := { scaled.iau.lines with dl3 := ⟨t, .low, none, d, c⟩ } }
    log := { scaled.log with clock := ⟨0, 450⟩ } }

/-- Every row of the debounce: absent, equal, a new candidate, one of the other level, one held 20 ms and one
held 19 ms; an output; and the events of an input and of the mark button. -/
theorem witness_FrameDebouncesLines :
    let press : PerLine Level := ⟨.high, .high, .high, .low⟩
    let input : LineSettings := ⟨.input, .both⟩
    let mark : LineSettings := ⟨.function, .falling⟩
    let line (s : State) := s.iau.lines.get .dl3
    (button input none none).powered = true ∧ outputClass .dl3 LineMode.output = true
      ∧ outputClass .dl3 input.mode = false ∧ outputClass .dl3 mark.mode = false
      ∧ (line (button input none none)).debounced = none
      ∧ (line (button input (some .low) none)).debounced = some (press.get .dl3)
      ∧ (line (button input (some .high) none)).candidate = none
      ∧ Level.high ≠ press.get .dl3
      ∧ (∀ c, (line (button input (some .high) (some ⟨.high, ⟨0, 440⟩⟩))).candidate = some c →
        c.level ≠ press.get .dl3)
      ∧ (line (button input (some .high) (some ⟨.low, ⟨0, 430⟩⟩))).candidate = some ⟨.low, ⟨0, 430⟩⟩
      ∧ 20 ≤ (⟨0, 450⟩ : Stamp).since ⟨0, 430⟩ ∧ (⟨0, 450⟩ : Stamp).since ⟨0, 431⟩ < 20
      ∧ input.edge.selects .low = true ∧ mark.edge.selects .low = true
      ∧ (button input (some .high) (some ⟨.low, ⟨0, 430⟩⟩)).clp.queue.length ≤ 16
      ∧ (button mark (some .high) (some ⟨.low, ⟨0, 430⟩⟩)).log.enables.mark = true
      ∧ FrameOrder.standard.markAt = 2 := by
  refine ⟨by rfl, by rfl, by rfl, by rfl, by rfl, by rfl, by rfl, by decide, ?_, by rfl, by decide +kernel,
    by decide +kernel, by rfl, by rfl, by decide, by rfl, by rfl⟩
  intro c hc
  cases hc
  decide

/-- A line in a mode, its written level high, the horn's and the lamp's signals high. -/
def lineIn (l : Line) (m : LineMode) : State :=
  { scaled with
    iau :=
      { scaled.iau with
        lines :=
          scaled.iau.lines.set l
            { scaled.iau.lines.get l with settings := ⟨m, .both⟩, written := .high } } }

/-- The ends of each range of a channel, of a line, of the geometry, of the zones and of a lift's settings; and
a value past each. Lines in OUTPUT, in FUNCTION and as an input, and a line without supply. -/
theorem witness_SettingsAreTakenWhole :
    State.reset.serves 1
      ∧ (let x : ChannelSettings := ⟨0, -3600, 4095, 7199, 4094, 4095⟩
        x.rawLo ≤ 4095 ∧ x.rawHi ≤ 4095 ∧ x.rawHi ≠ x.rawLo
          ∧ (Channel.slew).settingRange.1 ≤ x.valueLo ∧ x.valueLo ≤ (Channel.slew).settingRange.2
          ∧ (Channel.slew).settingRange.1 ≤ x.valueHi ∧ x.valueHi ≤ (Channel.slew).settingRange.2
          ∧ x.bandLo ≤ 4094 ∧ x.bandLo < x.bandHi ∧ x.bandHi ≤ 4095)
      ∧ (let x : ChannelSettings := ⟨4096, -3601, 4096, 7200, 4095, 4095⟩
        x.rawHi = x.rawLo ∧ x.bandHi ≤ x.bandLo ∧ 4095 < x.rawLo
          ∧ x.valueLo < (Channel.slew).settingRange.1 ∧ (Channel.slew).settingRange.2 < x.valueHi)
      ∧ outputClass .dl0 .function = true ∧ outputClass .dl0 .inputPullup = false
      ∧ ((5000 : Nat) ≤ 8000 ∧ ¬(1000 ≤ 999 ∧ 999 ≤ 8000))
      ∧ (let x : GeometrySettings := ⟨1000, 8000, 4000, 4000⟩
        1000 ≤ x.l1 ∧ x.l1 ≤ 8000 ∧ 1000 ≤ x.l2 ∧ x.l2 ≤ 8000 ∧ x.h0 ≤ 4000 ∧ x.eMax ≤ 4000)
      ∧ (let x : ZoneSettings := ⟨3599, 0, 20000, 20000, 3599, 0, 20000⟩
        x.bunkFrom ≤ 3599 ∧ x.bunkMin ≤ 20000 ∧ x.bunkMin ≤ x.bunkMax ∧ x.bunkMax ≤ 20000
          ∧ x.cabFrom ≤ 3599 ∧ x.cabRadius ≤ 20000)
      ∧ (let x : LiftSettings := ⟨40000, 39999, 50, 1000, 10000, 9999, 100, 2000⟩
        x.gripThreshold ≤ 40000 ∧ x.releaseThreshold ≤ 39999 ∧ x.releaseThreshold < x.gripThreshold
          ∧ 50 ≤ x.gripTime ∧ x.releaseTime ≤ 1000 ∧ x.liftOffThreshold ≤ 10000 ∧ x.dropThreshold ≤ 9999
          ∧ x.dropThreshold < x.liftOffThreshold ∧ 100 ≤ x.liftOffTime ∧ x.dropTime ≤ 2000)
      ∧ (let mode (l : Line) (m : LineMode) := ((lineIn l m).iau.lines.get l).settings.mode
        (lineIn .dl3 .output).powered = true ∧ mode .dl3 .output = .output
          ∧ lineDrive (lineIn .dl3 .output) .dl3 = some .high
          ∧ mode .dl0 .function = .function ∧ lineDrive (lineIn .dl0 .function) .dl0 = some .high
          ∧ mode .dl1 .function = .function ∧ lineDrive (lineIn .dl1 .function) .dl1 = some .high
          ∧ mode .dl2 .function = .function ∧ lineDrive (lineIn .dl2 .function) .dl2 = none
          ∧ mode .dl0 .inputPullup = .inputPullup ∧ lineDrive (lineIn .dl0 .inputPullup) .dl0 = none
          ∧ (State.unpowered .blank []).powered = false) :=
  ⟨serves_one serves_reset, by decide, by decide, by decide, by decide, by decide, by decide, by decide,
    by decide, by decide⟩

/-- Position A with SLEW at `phi`. -/
def facing (phi : RawCode) : PerChannel RawCode := { positionA with slew := phi }

/-- All four channels delivering, and none; the slew angles 0, 900 and 1,800; a faulted tilt and slew. -/
theorem witness_PositionAndTiltFollowTheCrane :
    let good := after (frame (facing 0)) scaled
    let bad := after (frame (.all 4095)) scaled
    good.iau.channels.slew.value = some 0 ∧ good.iau.channels.boom.value = some 300
      ∧ good.iau.channels.jib.value = some 1500 ∧ good.iau.channels.tele.value = some 1300
      ∧ scaled.geo.geometry.accepted = true ∧ bad.iau.channels.slew.value = none
      ∧ good.iau.channels.pitch.status = .good ∧ good.iau.channels.pitch.value = some 120
      ∧ good.iau.channels.roll.status = .good ∧ good.iau.channels.roll.value = some (-80)
      ∧ good.iau.channels.slew.status = .good
      ∧ (after (frame (facing 900)) scaled).iau.channels.slew.value = some 900
      ∧ (after (frame (facing 1800)) scaled).iau.channels.slew.value = some 1800
      ∧ bad.iau.channels.pitch.status ≠ .good ∧ bad.iau.channels.slew.status ≠ .good := by
  decide +kernel

/-- BUNK, GROUND and CAB; invalid; and every row of the zone debounce. -/
theorem witness_FrameDebouncesTheZone :
    let bunk := after (frame positionB) scaled
    let ground := after (frame positionA) scaled
    let near := after (frame { positionA with slew := 0, boom := 1150, jib := 0, tele := 0 }) scaled
    bunk.geo.valid = true ∧ bunk.geo.rawZone = .bunk ∧ ground.geo.rawZone = .ground
      ∧ near.geo.rawZone = .cab ∧ (after (frame (.all 4095)) scaled).geo.valid = false
      ∧ scaled.geo.zone ≠ bunk.geo.rawZone ∧ scaled.geo.candidate = none
      ∧ { scaled.geo with candidate := some ⟨.bunk, 1⟩ }.candidate = some ⟨.bunk, 1⟩
      ∧ (after (frame positionB) { scaled with geo := { scaled.geo with candidate := some ⟨.bunk, 2⟩ } }).geo.zone
        = .bunk
      ∧ (after (frame positionB) { scaled with geo := { scaled.geo with zone := .bunk } }).geo.rawZone
        = .bunk := by
  decide +kernel

/-! ## Witnesses: tip link -/

/-- A link state, on the reset state. -/
def linked (l : LinkState) : State :=
  { State.reset with tlc := { State.reset.tlc with link := l, hailTimer := none } }

theorem witness_FreshBringUpsBeginAgain :
    State.reset.powered = true ∧ State.reset.serves 1 ∧ (linked .failed).tlc.link = .failed
      ∧ State.reset.tlc.link ≠ .failed := ⟨by rfl, serves_one serves_reset, by rfl, by decide⟩

/-- The hail count at 9 and at 10; the echo numbers at 1 and 5, and at 0 and 6; the resends at their last. -/
theorem witness_LinkStatesFollowTheExchanges :
    State.reset.powered = true ∧ 10 ≤ { State.reset.tlc with hailCount := 10 }.hailCount
      ∧ { State.reset.tlc with hailCount := 9 }.hailCount < 10
      ∧ State.reset.tlc.link = .hailing ∧ (linked .probing).tlc.link = .probing
      ∧ (linked .starting).tlc.link = .starting ∧ up.tlc.link = .up
      ∧ (0 : Byte).toNat = (linked .probing).tlc.rate ∧ 1 ≤ (1 : Byte).toNat ∧ (5 : Byte).toNat ≤ 5
      ∧ (0 : Byte).toNat < 1 ∧ 5 < (6 : Byte).toNat ∧ (1 : Byte).toNat ≠ (linked .probing).tlc.rate
      ∧ { (linked .probing).tlc with probesSent := 4 }.probesSent < 5
      ∧ 5 ≤ { (linked .probing).tlc with probesSent := 5 }.probesSent
      ∧ { (linked .starting).tlc with gosSent := 2 }.gosSent < 3
      ∧ 3 ≤ { (linked .starting).tlc with gosSent := 3 }.gosSent := by
  decide

/-- Steps of 1 and 128 are accepted, of 0 and 129 dropped; noise counts at 24 and 25; rates 2 and 3. -/
theorem witness_DataFramesAreAcceptedOrDropped :
    up.powered = true ∧ (linked .starting).tlc.link = .starting ∧ up.tlc.link = .up
      ∧ { up.tlc with sequenceRef := none }.sequenceRef = none ∧ up.tlc.sequenceRef = some 17
      ∧ ((18 : Byte) - 17).toNat = 1 ∧ ((145 : Byte) - 17).toNat = 128 ∧ ((17 : Byte) - 17).toNat = 0
      ∧ ((146 : Byte) - 17).toNat = 129 ∧ State.reset.tlc.link ≠ .up ∧ State.reset.tlc.link ≠ .starting
      ∧ { up.tlc with noiseCount := 23 }.noiseCount + 1 < 25
      ∧ 25 ≤ { up.tlc with noiseCount := 24 }.noiseCount + 1
      ∧ { up.tlc with rate := 2 }.rate < 3 ∧ 3 ≤ { up.tlc with rate := 3 }.rate
      ∧ { up.tlc with noiseCount := 23 }.noiseCount < 24 ∧ 24 ≤ { up.tlc with noiseCount := 24 }.noiseCount
      ∧ 65534 ≤ { up.tlc with errorCounter := 65534 }.errorCounter := by
  decide

/-- The stuck reference absent, another and the same; a stuck rule unchanged and changed; values past the
sets. -/
theorem witness_StuckRuleCountsEqualForces :
    up.tlc.link = .up ∧ up.tlc.sequenceRef = some 17 ∧ up.tlc.stuckRef = none
      ∧ { up.tlc with stuckRef := some 99 }.stuckRef = some 99 ∧ 99 ≠ (100 : BitVec 16).toNat
      ∧ { up.tlc with stuckRef := some 100 }.stuckRef = some (100 : BitVec 16).toNat
      ∧ State.reset.serves 1 ∧ StuckRule.lenient = State.reset.tlc.settings.stuckRule
      ∧ StuckRule.strict ≠ State.reset.tlc.settings.stuckRule :=
  ⟨by rfl, by rfl, by rfl, by rfl, by decide, by rfl, serves_one serves_reset, by rfl, by decide⟩

theorem witness_ErrorsAreTransferred :
    up.powered = true ∧ up.tlc.settings.errorMode = .auto ∧ up.tlc.errorCounter ≠ 0
      ∧ up.clp.queue.length ≤ 30 ∧ State.reset.tlc.errorCounter = 0
      ∧ State.reset.clp.isLive .tipErrOverflow = false ∧ State.reset.serves 1
      ∧ { up with tlc := { up.tlc with settings := ⟨.manual, .lenient⟩ } }.tlc.settings.errorMode
        = .manual :=
  ⟨by rfl, by rfl, by decide, by decide, by rfl, by rfl, serves_one serves_reset, by rfl⟩

/-! ## Witnesses: weighing -/

/-- The source of the worked cases is the one that R65 judges. -/
theorem sourced_onTip : onTip.sourced := ⟨by decide, by decide⟩

theorem sourced_gripped : gripped.sourced := ⟨by decide, by decide⟩

theorem sourced_lifted : lifted.sourced := ⟨by decide, by decide⟩

/-- A frame with no stuck reference leaves TIP_STUCK not live. -/
theorem unstuck {s : State} {c : BitVec 16} (h : s.clp.isLive .tipStuck = false)
    (k : s.tlc.stuckRef = none) : s.unstuckBy c :=
  .inr ⟨h, fun e => by rw [k] at e; cases e⟩

/-- A repeated count below the threshold, and another count while TIP_STUCK is live. -/
theorem unstuck_boundaries :
    { onTip with tlc := { onTip.tlc with stuckRef := some 31527, stuckCount := 118 } }.unstuckBy 31527
      ∧ { onTip with
          tlc := { onTip.tlc with stuckRef := some 31526, stuckCount := 120 }
          clp := onTip.clp.putLive .tipStuck true }.unstuckBy 31527 :=
  ⟨.inr ⟨by decide, fun _ => by decide⟩, .inl ⟨31526, by rfl, by decide⟩⟩

/-- A live history of four; the flag clear and set. -/
theorem witness_TipSamplesAreCorrected :
    onTip.powered = true ∧ onTip.tlc.link = .up ∧ onTip.tlc.sequenceRef = some 17 ∧ onTip.sourced
      ∧ onTip.wen.source = .tip ∧ onTip.unstuckBy 31527
      ∧ 4 ≤ onTip.wen.history.length ∧ (1 : Byte).getLsbD 0 = true ∧ (0 : Byte).getLsbD 0 = false :=
  ⟨by rfl, by rfl, by rfl, sourced_onTip, by rfl, unstuck (by decide) (by rfl), by decide, by rfl, by rfl⟩

/-- A window of 8 with 7 and with 6 samples; a swing at the limit and past it. -/
theorem witness_LiftWindowsGatherAcceptedSamples :
    lifted.sourced ∧ lifted.unstuckBy 31527
      ∧ (let y := correctedValue lifted.wen (tipSampleOf 31527 50 0xEE 0)
        lifted.powered = true ∧ lifted.tlc.link = .up ∧ lifted.tlc.sequenceRef = some 17
          ∧ lifted.wen.source = .tip ∧ lifted.ltr.state = .lifted ∧ lifted.ltr.dropStart = none
          ∧ lifted.wen.capture = none ∧ lifted.wen.liftSource = some .tip
          ∧ lifted.wen.liftWindow = some ⟨.tip, 8, 7, 63776, some 9090, some 9131⟩
          ∧ lifted.wen.previousCorrected = some 9114
          ∧ (min (50 : BitVec 16).toNat 900 ≤ lifted.wen.settings.swing ∧ (0 : Byte).getLsbD 0 = false
            ∧ (y - 9114).natAbs ≤ lifted.wen.settings.jitter)
          ∧ ¬min (51 : BitVec 16).toNat 900 ≤ lifted.wen.settings.swing
          ∧ 7 + 1 = (8 : Nat) ∧ 6 + 1 < (8 : Nat)) :=
  ⟨sourced_lifted, unstuck (by decide) (by rfl), by decide +kernel⟩

/-- No empty window; one of 14 and of 15; a spread at the limit and past it; an offset at the tracking limit and
past it. -/
theorem witness_AutoZeroFollowsTheDrift :
    onTip.sourced ∧ onTip.unstuckBy 31527
      ∧ (let y := correctedValue onTip.wen (tipSampleOf 31527 20 0xEE 0)
        onTip.powered = true ∧ onTip.tlc.link = .up ∧ onTip.tlc.sequenceRef = some 17
          ∧ onTip.wen.source = .tip ∧ onTip.ltr.state = .idle ∧ onTip.wen.settings.autoZero = true
          ∧ onTip.wen.capture = none
          ∧ onTip.wen.previousCorrected = some 9114 ∧ onTip.wen.emptyWindow = none
          ∧ (min (20 : BitVec 16).toNat 900 ≤ onTip.wen.settings.swing ∧ (0 : Byte).getLsbD 0 = false
            ∧ (y - 9114).natAbs ≤ onTip.wen.settings.jitter)
          ∧ y = 9128
          ∧ (150 : Int) < max y 9128 - min y 8977 ∧ max y 9128 - min y 8978 ≤ 150
          ∧ (roundDiv (24472 + y) 16 - onTip.wen.calibration.tare).natAbs ≤ onTip.wen.settings.tracking
          ∧ onTip.wen.settings.tracking
            < (roundDiv (24488 + y) 16 - onTip.wen.calibration.tare).natAbs) :=
  ⟨sourced_onTip, unstuck (by decide) (by rfl), by decide +kernel⟩

theorem witness_CompensationFollowsTheTemperature :
    onTip.powered = true ∧ State.reset.wen.latestTemperature = none
      ∧ { onTip.wen with latestTemperature := some 127 }.latestTemperature = some 127
      ∧ onTip.wen.latestTemperature = some (-18) ∧ (-18 : Int) ≠ 127 := by
  decide

/-- The module with the areas of 04's cylinder case and every band calibrated. -/
def cylinder (b : Band) : State :=
  { scaled with
    wen :=
      { scaled.wen with
        calibration :=
          { Calibration.default with
            areaHead := 7854, areaRod := 4700, bands := Vector.replicate 8 b } }
    sto := { scaled.sto with working := { scaled.sto.working with fallback := false } } }

/-- A lift in LIFTED on the cylinder with n of 8 values, before a frame at position A. -/
def cylinderLift (n : Nat) : State :=
  let s := cylinder ⟨69758, true, 57543, true⟩
  { s with
    sto := scaled.sto
    ltr :=
      { s.ltr with
        state := .lifted, number := 7, gripTime := some ⟨0, 0⟩, liftOffTime := some ⟨0, 0⟩
        fromZone := some .ground, source := some .cylinder }
    wen :=
      { s.wen with
        source := .cylinder, liftSource := some .cylinder, previousCylinder := some 300
        frameForce := some ⟨69758, 7⟩
        liftWindow := some ⟨.cylinder, 8, n, 0, some 0, some 0⟩ } }

/-- A calibrated band and one that is not; pressures GOOD and faulted; the source CYLINDER; a window of 8 with 6
and with 7 values, at the jitter limit of 300. -/
theorem witness_FramesFormTheCylinderForce :
    let good := after (frame positionA) (cylinderLift 7)
    let bad := after (frame (.all 4095)) (cylinderLift 7)
    let s := cylinderLift 7
    s.powered = true ∧ good.iau.channels.pHead.status = .good ∧ good.iau.channels.pHead.value = some 9600
      ∧ good.iau.channels.pRod.status = .good ∧ good.iau.channels.pRod.value = some 1200
      ∧ good.geo.valid = true ∧ good.geo.position.isSome
      ∧ bad.iau.channels.pHead.status ≠ .good ∧ bad.geo.valid = false
      ∧ (cylinder ⟨0, false, 1, false⟩).wen.calibration.bands[7].emptyCaptured = false
      ∧ s.wen.calibration.bands[7].emptyCaptured = true ∧ s.wen.calibration.bands[7].gainCaptured = true
      ∧ good.wen.previousCylinder = some 0 ∧ good.wen.source = .cylinder ∧ s.ltr.state = .lifted
      ∧ s.ltr.releaseStart = none ∧ s.ltr.dropStart = none ∧ s.sto.working.fallback = true
      ∧ s.wen.liftSource = some .cylinder
      ∧ s.wen.liftWindow = some ⟨.cylinder, 8, 7, 0, some 0, some 0⟩
      ∧ (s.vdr.sections.boom.output = 0 ∧ s.wen.previousCylinder = some 300
        ∧ ((0 : Int) - 300).natAbs ≤ s.wen.settings.jitter)
      ∧ 7 + 1 = (8 : Nat) ∧ 6 + 1 < (8 : Nat) := by
  decide +kernel

/-- The pressures good and a force formed, with no capture in flight. -/
def forced (e : Bool) : State :=
  let s := after (frame positionA) (cylinder ⟨69758, e, 57543, false⟩)
  { s with clp := { s.clp with queue := [] } }

/-- A mass at each end of its range and past it; a capture in flight; each kind's conditions. -/
theorem witness_CaptureRequestsAreJudgedInOrder :
    (onTip.dispatching = true ∧ onTip.clp.queue.length + 1 ≤ 64)
      ∧ (499 < 500 ∧ (30000 : Nat) < 30001 ∧ 500 ≤ 30000)
      ∧ { onTip.wen with capture := some ⟨.zero, none, 0, 0, 0⟩ }.capture.isSome = true
      ∧ onTip.wen.capture = none ∧ onTip.ltr.state = .idle
      ∧ (onTip.tlc.link = .up ∧ onTip.clp.isLive .tipStuck = false)
      ∧ ¬(State.reset.tlc.link = .up) ∧ lifted.ltr.state = .lifted
      ∧ lifted.wen.calibration.zeroValid = true ∧ State.reset.wen.calibration.zeroValid = false
      ∧ ((forced true).dispatching = true ∧ (forced true).clp.queue.length + 1 ≤ 64)
      ∧ ((forced true).iau.channels.pHead.status = .good ∧ (forced true).iau.channels.pRod.status = .good
        ∧ (forced true).geo.valid = true)
      ∧ (forced true).wen.frameForce = some ⟨69758, 7⟩ ∧ (forced true).vdr.sections.boom.output = 0
      ∧ (forced true).wen.capture = none ∧ (forced true).ltr.state = .idle
      ∧ (forced true).wen.calibration.bands[7].emptyCaptured = true
      ∧ (forced false).wen.calibration.bands[7].emptyCaptured = false
      ∧ (forced false).clp.queue.length ≤ 30 := by
  decide +kernel

/-- A tip capture before its 32nd count, with a ring that holds an entry. -/
def capturing (s : State) (k : CaptureKind) (sum : Int) : State :=
  { s with
    wen :=
      { s.wen with
        capture := some ⟨k, none, 10000, 31, sum⟩, previousCount := some 8200, emptyWindow := none }
    log := { s.log with ring := [⟨1, ⟨0, 0⟩, false, .mark ⟨none, none, .cab, .idle⟩⟩] } }

/-- A cylinder capture in band 7 before its 32nd force. -/
def capturingCylinder (k : CaptureKind) (b : Fin 8) (empty : Int) : State :=
  let s := cylinder ⟨empty, true, 1, false⟩
  { s with
    wen :=
      { s.wen with
        capture := some ⟨k, some b, 10000, 31, 31 * 69758⟩, frameForce := some ⟨69758, 7⟩ } }

/-- Each kind at its 32nd quantity, a span in LIFTED too; a gate failed; a mean of 999 and of 1,000 past Z; a
force of 499 and of 500 N past the empty force; a gain past its range and within it; another band. -/
theorem witness_CapturesComplete :
    (capturing onTip .zero 254200).unstuckBy 8203
      ∧ (let s := capturing onTip .zero 254200
        let c := capturingCylinder .cylEmpty 7 69758
        let t := after (.acquisitionFrame positionA allHigh ⟨false, 0, 0⟩) c
        (s.powered = true ∧ s.tlc.link = .up ∧ s.tlc.sequenceRef = some 17
            ∧ s.clp.isLive .tipStuck = false
            ∧ s.wen.capture = some ⟨.zero, none, 10000, 31, 254200⟩
            ∧ s.wen.previousCount = some 8200 ∧ s.wen.emptyWindow = none ∧ s.ltr.liftOffStart = none
            ∧ s.ltr.dropStart = none
            ∧ s.log.enables.system = true ∧ s.log.ring ≠ [] ∧ s.clp.queue.length ≤ 16)
          ∧ s.ltr.state = .idle ∧ (capturing lifted .span 1194740).ltr.state ≠ .idle
          ∧ (min (50 : BitVec 16).toNat 900 ≤ s.wen.settings.swing
            ∧ (((8500 : BitVec 16).toNat : Int) - 8200).natAbs ≤ s.wen.settings.jitter)
          ∧ ¬(((8501 : BitVec 16).toNat : Int) - 8200).natAbs ≤ s.wen.settings.jitter
          ∧ (9199 : Int) - s.wen.calibration.zero < 1000 ∧ 1000 ≤ (9200 : Int) - s.wen.calibration.zero
          ∧ (c.powered = true ∧ c.ltr.state ≠ .lifted ∧ c.ltr.gripStart = none
            ∧ c.ltr.releaseStart = none ∧ c.ltr.liftOffStart = none ∧ c.ltr.dropStart = none
            ∧ c.wen.capture = some ⟨.cylEmpty, some 7, 10000, 31, 31 * 69758⟩
            ∧ c.wen.frameForce = some ⟨69758, 7⟩ ∧ c.vdr.sections.boom.output = 0
            ∧ c.clp.queue.length ≤ 8 ∧ c.log.enables.system = true
            ∧ c.iau.lines.dl3.settings.mode ≠ .function)
          ∧ t.wen.frameForce = some ⟨69758, 7⟩ ∧ (7 : Fin 8) ≠ 6
          ∧ ((69758 : Int) - 69758).natAbs ≤ c.wen.settings.jitter
          ∧ (69758 : Int) - 69259 < 500 ∧ (500 : Int) ≤ 69758 - 69258
          ∧ 65535 < roundDiv (10000 * 65536) 500 ∧ 1 ≤ roundDiv (10000 * 65536) 11389
          ∧ roundDiv (10000 * 65536) 11389 ≤ 65535) :=
  ⟨unstuck (by decide) (by rfl), by decide +kernel⟩

/-- Every setting at an end of its range and one past it; a calibration taken, refused and busy; room for five
entries in the ring. -/
theorem witness_WeighAndCalibrationAreSet :
    (let f : WeighFields := ⟨10, 2000, 64, 20, 200, 30000, 1, 1000⟩;
      10 ≤ f.swing ∧ f.swing ≤ 300 ∧ 50 ≤ f.jitter ∧ f.jitter ≤ 2000 ∧ 8 ≤ f.windowSize
        ∧ f.windowSize ≤ 64 ∧ 20 ≤ f.spread ∧ f.spread ≤ 1000 ∧ 5 ≤ f.minLift ∧ f.minLift ≤ 200
        ∧ (f.period = 500 ∨ f.period = 2000 ∨ f.period = 10000 ∨ f.period = 30000) ∧ f.autoZero ≤ 1
        ∧ f.tracking ≤ 1000)
      ∧ ¬(10 ≤ 9)
      ∧ (let f : CalibrationFields := ⟨10000, -200, 85, 50000, 0⟩
        f.tare ≤ 10000 ∧ -200 ≤ f.kt ∧ f.kt ≤ 200 ∧ -40 ≤ f.tref ∧ f.tref ≤ 85 ∧ f.areaHead ≤ 50000
          ∧ f.areaRod ≤ 50000)
      ∧ ¬((10001 : Nat) ≤ 10000)
      ∧ (capturing onTip .zero 0).wen.capture.isSome = true ∧ onTip.wen.capture = none
      ∧ 7854 = onTip.wen.calibration.areaHead ∧ 7853 ≠ onTip.wen.calibration.areaHead
      ∧ onTip.log.enables.system = true ∧ onTip.log.ring.length ≤ 123 := by
  decide

/-! ## Witnesses: lift tracking and tally -/

/-- A start stamp `held` ms before the frame, in IDLE. -/
def gripping (held : Nat) : State :=
  { scaled with
    ltr := { scaled.ltr with gripStart := some ⟨1, Fin.ofNat 1000 (500 - held)⟩ }
    log := { scaled.log with clock := ⟨1, 500⟩ } }

/-- A pressure at the grip threshold and under it, a faulted channel, a stamp held 199 and 200 ms; a pressure at
the release threshold and under it, held 149 and 150 ms. -/
theorem witness_GripAndReleaseAreQualified :
    let s := scaled.ltr.settings
    let at9000 := after (frame { positionA with grip := 900 }) scaled
    scaled.powered = true ∧ scaled.ltr.state = .idle ∧ gripped.ltr.state = .gripped
      ∧ gripped.ltr.liftOffStart = none ∧ gripped.ltr.releaseStart = none
      ∧ at9000.iau.channels.grip.status = .good ∧ at9000.iau.channels.grip.value = some 9000
      ∧ (s.gripThreshold : Int) ≤ 9000 ∧ (8990 : Int) < s.gripThreshold
      ∧ (after (frame (.all 4095)) scaled).iau.channels.grip.status ≠ .good
      ∧ (gripping 199).log.clock.since ⟨1, 301⟩ < s.gripTime ∧ s.gripTime ≤ (gripping 200).log.clock.since ⟨1, 300⟩
      ∧ (gripping 200).ltr.gripStart = some ⟨1, 300⟩
      ∧ (s.releaseThreshold : Int) ≤ 4000 ∧ (3990 : Int) < s.releaseThreshold
      ∧ (gripping 0).log.clock.since ⟨1, 351⟩ < s.releaseTime
      ∧ s.releaseTime ≤ (gripping 0).log.clock.since ⟨1, 350⟩ := by
  decide +kernel

/-- A live estimate at and over the threshold; a stamp held 299 and 300 ms. -/
theorem witness_LiftOffBeginsALift :
    gripped.sourced ∧ gripped.unstuckBy 31527
      ∧ (gripped.powered = true ∧ gripped.tlc.link = .up ∧ gripped.tlc.sequenceRef = some 17
        ∧ gripped.wen.source = .tip ∧ gripped.ltr.state = .gripped
        ∧ (after (.dataFrame 18 31527 20 0xEE 0) gripped).wen.liveEstimate = some 7241
        ∧ (gripped.ltr.settings.liftOffThreshold : Int) ≤ 7241
        ∧ (299 : Int) < gripped.ltr.settings.liftOffThreshold ∧ gripped.ltr.liftOffStart = none
        ∧ gripped.log.clock.since ⟨0, 481⟩ < gripped.ltr.settings.liftOffTime
        ∧ gripped.ltr.settings.liftOffTime ≤ gripped.log.clock.since ⟨0, 480⟩) :=
  ⟨sourced_gripped, unstuck (by decide) (by rfl), by decide +kernel⟩

/-- The lift in WEIGHED or in LIFTED with n of 32 samples, its DROP running for 200 ms, no load on the link. -/
def dropping (x : LiftState) (n : Nat) : State :=
  { lifted with
    ltr :=
      { lifted.ltr with
        state := x, dropStart := some ⟨0, 690⟩
        result := if x = .weighed then some ⟨7240, 724, .good, false⟩ else none }
    wen :=
      { lifted.wen with
        history := [], liveEstimate := none, previousCorrected := some 1900
        liftWindow := some ⟨.tip, 32, n, 0, none, none⟩ } }

/-- In WEIGHED, and in LIFTED; a sample that joins the window and one of too much swing; a window that this
sample brings to 7, to 8 and to its 32. -/
theorem witness_DropEndsTheLiftUntallied :
    (dropping .lifted 6).sourced ∧ (dropping .weighed 32).sourced ∧ (dropping .lifted 6).unstuckBy 13000
      ∧ (let s := dropping .lifted 6
        let t := after (.dataFrame 18 13000 20 0xEE 0) s
        s.powered = true ∧ s.tlc.link = .up ∧ s.tlc.sequenceRef = some 17 ∧ s.wen.source = .tip
          ∧ s.ltr.dropStart = some ⟨0, 690⟩ ∧ s.ltr.settings.dropTime ≤ s.log.clock.since ⟨0, 690⟩
          ∧ s.wen.capture = none ∧ s.ltr.state = .lifted ∧ (dropping .weighed 32).ltr.state = .weighed
          ∧ (t.wen.liveEstimate.map fun v => decide (v < (s.ltr.settings.dropThreshold : Int))) = some true
          ∧ (s.wen.liftSource = some .tip ∧ min (20 : BitVec 16).toNat 900 ≤ s.wen.settings.swing
            ∧ (0 : Byte).getLsbD 0 = false ∧ s.wen.previousCorrected = some 1900
            ∧ (correctedValue s.wen (tipSampleOf 13000 20 0xEE 0) - 1900).natAbs ≤ s.wen.settings.jitter)
          ∧ ¬min (51 : BitVec 16).toNat 900 ≤ s.wen.settings.swing
          ∧ s.wen.liftWindow = some ⟨.tip, 32, 6, 0, none, none⟩ ∧ 6 + 1 < (8 : Nat) ∧ 7 + 1 = (8 : Nat)
          ∧ 31 + 1 = (32 : Nat) ∧ (dropping .weighed 32).ltr.result.isSome
          ∧ s.log.enables.dropped = true) :=
  ⟨⟨by decide, by decide⟩, ⟨by decide, by decide⟩, unstuck (by decide) (by rfl), by decide +kernel⟩

/-- The module with both lift enables on. -/
def allLogged (s : State) : State :=
  { s with log := { s.log with enables := ⟨true, true, true, true, true⟩ } }

/-- The lift in LIFTED with n of 32 samples over the bunk, its RELEASE held 150 ms. -/
def releasing (n : Nat) : State :=
  let s := allLogged weighed
  { s with
    ltr := { s.ltr with state := .lifted, result := none }
    wen := { s.wen with liftWindow := some ⟨.tip, 32, n, 72904, some 9090, some 9131⟩ } }

/-- A release held 150 ms in WEIGHED, and in LIFTED with 7 and with 8 samples in either order; the zones of the
outcomes. -/
theorem witness_ReleaseDecidesTheOutcome :
    (releasing 7).sourced ∧ (∀ w : Window, (releasing 8).wen.liftWindow = some w → w.count < w.size)
      ∧ (let s := allLogged weighed
        let u := releasing 8
        let t := after (frame { positionB with grip := 25 }) s
        s.powered = true ∧ s.ltr.state = .weighed ∧ s.ltr.result = some ⟨7240, 724, .good, false⟩
          ∧ s.ltr.fromZone = some .ground ∧ s.ltr.source = some .tip ∧ s.ltr.releaseStart = some ⟨3, 100⟩
          ∧ s.ltr.settings.releaseTime ≤ s.log.clock.since ⟨3, 100⟩ ∧ s.ltr.dropStart = none
          ∧ s.iau.lines.dl3.settings.mode ≠ .function ∧ s.wen.capture = none
          ∧ s.log.enables.tallied = true ∧ s.log.enables.untallied = true
          ∧ t.iau.channels.grip.status = .good ∧ t.iau.channels.grip.value = some 250
          ∧ (250 : Int) < s.ltr.settings.releaseThreshold ∧ t.geo.zone = .bunk
          ∧ u.ltr.state = .lifted ∧ u.wen.source = .tip ∧ u.wen.liftSource = some .tip
          ∧ u.ltr.fromZone = some .ground ∧ u.ltr.source = some .tip ∧ u.ltr.releaseStart = some ⟨3, 100⟩
          ∧ u.iau.lines.dl3.settings.mode ≠ .function ∧ u.wen.capture = none
          ∧ u.log.enables.tallied = true ∧ u.log.enables.untallied = true
          ∧ u.wen.liftWindow = some ⟨.tip, 32, 8, 72904, some 9090, some 9131⟩ ∧ (7 : Nat) < 8) :=
  ⟨⟨by decide, by decide⟩, fun _ h => by cases h; decide, by decide +kernel⟩

/-- A lift in WEIGHED and one in LIFTED that is released, and one that is held; GRIPPED; IDLE. -/
theorem witness_ReleasesCommitOnce :
    let s := allLogged weighed
    let open25 := frame { positionB with grip := 25 }
    s.powered = true ∧ s.iau.lines.dl3.settings.mode ≠ .function ∧ s.ltr.state = .weighed
      ∧ s.ltr.dropStart = none ∧ s.ltr.result.isSome ∧ s.ltr.fromZone = some .ground
      ∧ (after open25 s).ltr.state = .idle
      ∧ (after (frame { positionB with grip := 400 }) s).ltr.state ≠ .idle
      ∧ (releasing 8).ltr.state = .lifted ∧ (releasing 8).ltr.dropStart = none
      ∧ (after open25 (releasing 8)).ltr.state = .idle ∧ (releasing 8).wen.capture = none
      ∧ s.wen.capture = none ∧ s.log.enables.tallied = true ∧ s.log.enables.untallied = true
      ∧ gripped.ltr.state = .gripped ∧ (after open25 gripped).ltr.number = gripped.ltr.number
      ∧ scaled.ltr.state = .idle := by
  decide +kernel

/-- The open load of weighed with assortment 3 at a mass. -/
def holding (mass : Nat) : Tal :=
  { weighed.tal with
    load := some { load41 with figures := (Vector.replicate 16 ⟨0, 0, 0⟩).set 3 ⟨mass, 7, 0⟩ } }

/-- A held commit; a rise to 60,000 kg and past it; a fall to 0, past 0 and short of it; no load open; a target
met at 740 kg more and not at 739, its flag clear and set. -/
theorem witness_CommitsChangeTheTally :
    { weighed.tal with commandedHold := true }.holdActive = true ∧ weighed.tal.holdActive = false
      ∧ weighed.tal.load = some load41 ∧ load41.figures[3].mass ≤ 60000
      ∧ 60000 < (60000 : Nat) + 1 ∧ ¬60000 < (59999 : Nat) + 1
      ∧ ((holding 724).load.map Load.total) = some 724 ∧ 723 < (724 : Nat)
      ∧ State.reset.tal.load = none ∧ State.reset.tal.holdActive = false
      ∧ LiftOutcome.moved ≠ .loaded ∧ LiftOutcome.moved ≠ .unloaded
      ∧ (let g := weighed.tal.target
        g.totalOn = true ∧ g.liftsOn = false ∧ g.assortmentOn = true ∧ g.total ≤ load41.total + 740
          ∧ g.mass ≤ load41.figures[g.index].mass + 740 ∧ ¬g.total ≤ load41.total + 739)
      ∧ load41.targetReached = false ∧ { load41 with targetReached := true }.targetReached = true
      ∧ weighed.clp.queue.length ≤ 30 := by
  decide +kernel

/-- Indexes 15 and 16; labels of 8 and 9 characters; the ends of a target's ranges; a load to close. -/
theorem witness_TallyRequestsAct :
    State.reset.serves 1
      ∧ State.reset.tal.labels[(0 : Fin 16)] ≠ [] ∧ State.reset.tal.labels[(15 : Fin 16)] = []
      ∧ 8 < (List.replicate 9 (0x41 : Byte)).length ∧ (List.replicate 8 (0x41 : Byte)).length ≤ 8
      ∧ (∀ b ∈ [(0x20 : Byte), 0x7E], 0x20 ≤ b.toNat ∧ b.toNat ≤ 0x7E)
      ∧ ¬(∀ b ∈ [(0x7F : Byte)], 0x20 ≤ b.toNat ∧ b.toNat ≤ 0x7E)
      ∧ (∃ l, weighed.tal.load = some l ∧ l.figures[(3 : Fin 16)].lifts ≠ 0)
      ∧ (let f : TargetFields := ⟨0, 1, 0, 960000, 65535, 15, 60000⟩
        f.totalEnable ≤ 1 ∧ f.liftsEnable ≤ 1 ∧ f.assortmentEnable ≤ 1 ∧ 1 ≤ f.total ∧ f.total ≤ 960000
          ∧ 1 ≤ f.lifts ∧ f.lifts ≤ 65535 ∧ f.index ≤ 15 ∧ 1 ≤ f.mass ∧ f.mass ≤ 60000)
      ∧ State.reset.tal.load = none ∧ weighed.tal.load = some load41 ∧ weighed.log.enables.system = true :=
  ⟨serves_one serves_reset, by decide, by decide, by decide, by decide, by decide, by decide,
    ⟨load41, by rfl, by decide⟩, by decide, by rfl, by rfl, by rfl⟩

/-! ## Witnesses: lift log, time base and moment limiting -/

/-- The clock at 998 and at 999 ms; a stamp held for the longest time that a SET CLOCK keeps. -/
theorem witness_ClockRunsAndIsSet :
    State.reset.powered = true ∧ State.reset.log.clock.ms.val < 999
      ∧ (⟨0, 999⟩ : Stamp).ms.val = 999 ∧ State.reset.serves 1
      ∧ 0 ≤ (⟨1000, 550⟩ : Stamp).since ⟨1000, 400⟩ ∧ (⟨1000, 550⟩ : Stamp).since ⟨1000, 400⟩ < 4294967294000 :=
  ⟨by rfl, by decide, by rfl, serves_one serves_reset, by decide, by decide +kernel⟩

/-- Counts 1 and 4, 0 and 5; the MARK enable on and off; an empty ring and one that holds an entry. -/
theorem witness_LogRequestsActOnTheRing :
    State.reset.serves 3 ∧ State.reset.log.enables.mark = true ∧ State.reset.log.ring = []
      ∧ (capturing onTip .zero 0).log.ring ≠ []
      ∧ { State.reset.log with enables := ⟨true, true, true, false, true⟩ }.enables.mark = false
      ∧ (1 ≤ 1 ∧ (4 : Nat) ≤ 4 ∧ (5 : Nat) ≤ 5)
      ∧ (let f : EnableFields := ⟨0, 1, 0, 1, 0⟩
        f.tallied ≤ 1 ∧ f.untallied ≤ 1 ∧ f.dropped ≤ 1 ∧ f.mark ≤ 1 ∧ f.system ≤ 1) :=
  ⟨⟨by decide, by decide⟩, by rfl, by rfl, by decide, by rfl, by decide, by decide⟩

/-- The ends of the limiter's ranges, and a value past one; a stage that becomes HOLD; every pattern that an
evaluation can begin. -/
theorem witness_LimiterSettingsAreEvaluated :
    State.reset.serves 1
      ∧ (let x : LimiterSettings := ⟨100, 1000, 700⟩
        x.kd ≤ 100 ∧ 100 ≤ x.dMin ∧ x.dMin ≤ 1000 ∧ 700 ≤ x.warn ∧ x.warn ≤ 950)
      ∧ ¬((101 : Nat) ≤ 100)
      ∧ { State.reset.mlm with stage := .free }.stage ≠ .hold
      ∧ (after (.setLimiter .default)
        { State.reset with mlm := { State.reset.mlm with stage := .free } }).mlm.stage = .hold
      ∧ (after (.setLimiter .default) State.reset).mlm.pattern = State.reset.mlm.pattern
      ∧ (after (.setLimiter .default)
        { State.reset with mlm := { State.reset.mlm with stage := .free, pattern := .silent } }).mlm.pattern
        ≠ .silent
      ∧ (let level (b : Stage) (l : LinkState) := (after (.setLimiter .default)
          { State.reset with
            tlc := { State.reset.tlc with link := l }
            geo := { State.reset.geo with tilt := some 0 }
            mlm := { State.reset.mlm with stage := b } }).mlm.pattern
        level .hold .hailing = .derate ∧ level .derate .failed = .link ∧ level .derate .hailing = .silent) :=
  ⟨serves_one serves_reset, by decide, by decide, by decide, by decide +kernel, by decide +kernel,
    by decide +kernel, by decide +kernel⟩

theorem witness_EvaluationsFollowTheirInputs :
    onTip.sourced ∧ onTip.unstuckBy 31527 ∧ State.reset.serves 1
      ∧ (∀ w : Window, onTip.wen.liftWindow = some w → w.count < w.size)
      ∧ (onTip.powered = true ∧ FrameOrder.standard.evaluationAt = 3 ∧ onTip.tlc.link = .up
        ∧ onTip.tlc.sequenceRef = some 17 ∧ onTip.wen.source = .tip ∧ onTip.wen.liftSource ≠ some .cylinder
        ∧ onTip.ltr.gripStart = none ∧ onTip.ltr.releaseStart = none ∧ onTip.ltr.liftOffStart = none
        ∧ onTip.ltr.dropStart = none ∧ onTip.ltr.state ≠ .lifted
        ∧ State.reset.sto.freeze = .opened ∧ State.reset.sto.write = none
        ∧ (after .profileRestore State.reset).wen.source = State.reset.wen.source) :=
  ⟨sourced_onTip, unstuck (by decide) (by rfl), serves_one serves_reset, fun _ => nofun, by decide +kernel⟩

/-- A pattern at a segment of its cycle. -/
def sounding (p : HornPattern) (i : Nat) : Mlm :=
  { State.reset.mlm with pattern := p, segment := i, stage := .free }

theorem witness_HornAndLampFollowTheirCycles :
    State.reset.powered = true ∧ State.reset.serves 1
      ∧ (sounding .continuous 0).segment < (sounding .continuous 0).pattern.segments.length
      ∧ (sounding .silent 0).segment < (sounding .silent 0).pattern.segments.length
      ∧ (sounding .derate 1).segment < (sounding .derate 1).pattern.segments.length
      ∧ (sounding .link 3).segment < (sounding .link 3).pattern.segments.length
      ∧ (let x : HornSettings := ⟨8, 63⟩
        (x.p = 1 ∨ x.p = 2 ∨ x.p = 4 ∨ x.p = 8) ∧ x.n ≤ 63)
      ∧ ¬((64 : Nat) ≤ 63)
      ∧ State.reset.mlm.stage = .hold ∧ (sounding .silent 0).stage ≠ .hold :=
  ⟨by rfl, serves_one serves_reset, by decide, by decide, by decide, by decide, by decide, by decide, by rfl,
    by decide⟩

/-! ## Witnesses: valve drive -/

/-- A coil that fails the open test at 184 mA of 740 and passes it at 185; an open count of 9; every case of the
target and of the ramp. -/
theorem witness_DriveUpdatesRampTheOutputs :
    let x := { driven 800 500 with setpoint := ⟨740, 0⟩, openCount := ⟨9, 0⟩ }
    (withSection .tele x).powered = true ∧ x.coil = .enabled
      ∧ (x.setpoint.a ≠ 0 ∧ 4 * 184 < x.setpoint.a) ∧ ¬4 * 185 < x.setpoint.a ∧ x.openCount.a < 10
      ∧ 0 < x.target ∧ Section.tele ≠ .rotate ∧ Section.tele ≠ .grapple ∧ (driven (-800) 0).target < 0
      ∧ (driven 0 0).target = 0
      ∧ (let n := (after (.driveUpdate (.all ⟨740, 0⟩)) (withSection .tele x)).vdr.sections.tele
        0 ≤ x.output ∧ x.output < n.composed ∧ 0 < n.output)
      ∧ (let n := (after (.driveUpdate (.all ⟨0, 0⟩)) (withSection .tele (driven (-400) 30))).vdr.sections.tele
        n.composed < 0 ∧ 0 < (driven (-400) 30).output ∧ n.output ≤ 0)
      ∧ (let n := (after (.driveUpdate (.all ⟨0, 0⟩)) (withSection .tele (driven 0 600))).vdr.sections.tele
        0 ≤ n.composed ∧ n.composed < (driven 0 600).output)
      ∧ (let n := (after (.driveUpdate (.all ⟨0, 0⟩)) (withSection .tele (driven 0 (-600)))).vdr.sections.tele
        n.composed ≤ 0 ∧ (driven 0 (-600)).output < n.composed) := by
  decide +kernel

/-- Both coils at an open count of 10; ENABLED and DISABLED; two modules with one section alike; a group with 2
and with 1 ms left, and no group; a code of each remainder. -/
theorem witness_CoilsAreDrivenAndDisabled :
    let x := { driven 500 500 with setpoint := ⟨740, 740⟩, openCount := ⟨10, 10⟩ }
    State.reset.powered = true ∧ x.coil = .enabled
      ∧ (x.setpoint.a ≠ 0 ∧ 4 * 12 < x.setpoint.a ∧ x.openCount.a = 10)
      ∧ (x.setpoint.b ≠ 0 ∧ 4 * 12 < x.setpoint.b ∧ x.openCount.b = 10) ∧ ¬4 * 185 < x.setpoint.a
      ∧ (x.disable .openA).coil = .disabled .openA ∧ Section.boom ≠ .jib
      ∧ (withSection .boom x).vdr.sections.get .jib = (withSection .tele x).vdr.sections.get .jib
      ∧ (withSection .boom x).vdr.factors.get .jib = (withSection .tele x).vdr.factors.get .jib
      ∧ State.reset.vdr.groupTimer = some 2 ∧ (after .clockMillisecond State.reset).vdr.groupTimer = some 1
      ∧ (Vdr.afterReset (.all .default)).groupTimer = none
      ∧ (94 = 4 * 23 + 2 ∧ 255 = 4 * 63 + 3 ∧ 93 = 4 * 23 + 1 ∧ 92 = 4 * 23 + 0) := by
  decide

/-- TELE extending at +586 when the stage becomes HOLD (09, reaching out). -/
def extending : State :=
  { withSection .tele (driven 800 586) with
    mlm := State.reset.mlm
    vdr := { (withSection .tele (driven 800 586)).vdr with factors := State.reset.vdr.factors } }

theorem witness_HoldNeverGrowsTheMoment :
    extending.powered = true ∧ extending.withholds ∧ extending.mlm.stage = .hold
      ∧ extending.vdr.sections.tele.output = 586 :=
  ⟨by rfl, fun _ => ⟨by rfl, by rfl, by rfl⟩, by rfl, by rfl⟩

/-- Demands past both ends and at the neutral limit; a running and a silent lever timer. -/
theorem witness_LeversObeyTheNeutralLatch :
    State.reset.dispatching = true ∧ (PerSection.toList (⟨1001, -1001, 50, 51, -50, -51⟩ : PerSection Int)).length = 6
      ∧ State.reset.vdr.sections.slew.latch = true ∧ (driven 0 0).latch = false
      ∧ (50 : Int).natAbs ≤ 50 ∧ 50 < (51 : Int).natAbs ∧ [(0 : Int)].length ≠ 6
      ∧ State.reset.vdr.leverTimer.isSome = true
      ∧ (after .leverTimerExpiry State.reset).vdr.leverTimer = none := by
  decide

/-- The current at the cap and past it; the section numbers 5, 6 and 7. -/
theorem witness_SectionSettingsObeyTheCaps :
    State.reset.serves 1
      ∧ (let x : SectionSettings := ⟨2000, 2000, 200, 1000, 1⟩
        x.iMin ≤ x.iMax ∧ x.iMax ≤ 2000 ∧ x.deadband ≤ 200 ∧ 1 ≤ x.up ∧ x.up ≤ 1000 ∧ 1 ≤ x.down
          ∧ x.down ≤ 1000)
      ∧ (∀ v, 2000 ≤ State.reset.sto.working.caps.get v)
      ∧ ¬((2001 : Nat) ≤ 2000)
      ∧ (after (.profileSet reducedMask reduced) State.reset).sto.working.caps.get .boom < 251 :=
  ⟨serves_one serves_reset, by decide, fun v => by cases v <;> decide, by decide, by decide⟩

/-! ## Witnesses: profile, store and resets -/

/-- 10's reduction, which names a field past its factory value; a mask of no field; FROZEN and a write. -/
theorem witness_ProfileSetStaysWithinFactory :
    State.reset.serves 1 ∧ reducedMask.testBit 0 = true ∧ reducedMask.testBit 1 = true
      ∧ reduced.mBase ≤ 11000 ∧ 250 < reduced.tilt ∧ reduced.tilt ≤ 450 ∧ reduced.payload ≤ 16000
      ∧ (∀ v : Section, reducedMask.testBit (4 + v.code) = true → reduced.caps.get v ≤ 2000)
      ∧ reducedMask.testBit 4 = false ∧ (1024 : Nat).testBit 9 = false
      ∧ ¬((451 : Nat) ≤ 450)
      ∧ State.reset.sto.freeze = .opened ∧ State.reset.sto.write = none
      ∧ (after .profileFreeze State.reset).sto.freeze = .frozen
      ∧ (after .saveSettings State.reset).sto.write.isSome = true :=
  ⟨serves_one serves_reset, by decide, by decide, by decide, by decide, by decide, by decide,
    fun v => by cases v <;> decide, by decide, by decide, by decide, by rfl, by rfl, by rfl, by rfl⟩

theorem witness_ProfileRestoreAndFreeze :
    State.reset.serves 1 ∧ State.reset.sto.freeze = .opened ∧ State.reset.sto.write = none
      ∧ (after .saveSettings State.reset).sto.freeze = .opened
      ∧ (after .saveSettings State.reset).sto.write.isSome = true
      ∧ (after .profileFreeze State.reset).sto.freeze = .frozen
      ∧ (step { after .profileFreeze State.reset with pending := [.lossOfSupply] }
        = .next { after .lossOfSupply (after .profileFreeze State.reset) with pending := [] })
      ∧ ∀ m rest, [Instr.lossOfSupply] ≠ .powerOn m :: rest :=
  ⟨serves_one serves_reset, by rfl, by rfl, by rfl, by rfl, by rfl, by rfl, fun _ _ => nofun⟩

/-- No write, both parts of a save, and a profile write; 31 and 32 frames waiting. -/
theorem witness_StoreWritesRunByParts :
    let saving := after .saveSettings State.reset
    State.reset.serves 1 ∧ State.reset.sto.write = none ∧ saving.sto.write.isSome = true
      ∧ saving.sto.write
        = some (.save (currentSettings State.reset) State.reset.wen.calibration .settings)
      ∧ (after .storeWritePart saving).sto.write
        = some (.save (currentSettings State.reset) State.reset.wen.calibration .calibration)
      ∧ (after .profileFreeze State.reset).sto.write = some (.profile .freeze .factory)
      ∧ (queued 31).clp.queue.length < 32 ∧ 32 ≤ (queued 32).clp.queue.length :=
  ⟨serves_one serves_reset, by rfl, by rfl, by rfl, by rfl, by rfl, by decide, by decide⟩

theorem witness_SavedSettingsComeBack :
    State.reset.serves 1 ∧ State.reset.sto.write = none ∧ State.reset.clp.queue.length ≤ 30
      ∧ (currentSettings State.reset).accepted = true
      ∧ { tipCalibration with span := 65535 }.accepted = true :=
  ⟨serves_one serves_reset, by rfl, by decide, by decide +kernel, by decide +kernel⟩

/-- A record of each kind that passes, one of a wrong sum, one of another kind and one of a value past its range;
nothing written; a write in flight in each record. -/
theorem witness_PowerOnStartsEveryBlock :
    let slot (p : Profile) (k : RecordKind) (n : Byte) : Sto := { Sto.blank with profileSlot := .record p (some k) n }
    let saved := after .storeWritePart (after .saveSettings State.reset)
    (slot ⟨11000, 250, true, 16000, .all 2000⟩ .profile 0).write = none
      ∧ Profile.withinFactory ⟨11000, 250, true, 16000, .all 2000⟩ = true
      ∧ Profile.withinFactory ⟨11001, 250, true, 16000, .all 2000⟩ = false
      ∧ (slot .factory .profile 1).profileSlot = .record .factory (some .profile) 1 ∧ (1 : Byte) ≠ 0
      ∧ some RecordKind.settings ≠ some .profile ∧ Sto.blank.profileSlot = .unreadable
      ∧ Sto.blank.settingsSlot = .unreadable ∧ Sto.blank.calibrationSlot = .unreadable
      ∧ (after .storeWritePart saved).sto.write = none
      ∧ (after .storeWritePart saved).sto.settingsSlot = .record .default (some .settings) 0
      ∧ SettingsRecord.default.accepted = true
      ∧ { SettingsRecord.default with limiter := ⟨30, 300, 699⟩ }.accepted = false
      ∧ (after .storeWritePart saved).sto.calibrationSlot = .record .default (some .calibration) 0
      ∧ Calibration.default.accepted = true ∧ { Calibration.default with span := 0 }.accepted = false
      ∧ (after .saveSettings State.reset).sto.write = some (.save .default .default .settings)
      ∧ saved.sto.write = some (.save .default .default .calibration)
      ∧ (after .profileFreeze State.reset).sto.write = some (.profile .freeze .factory) := by
  decide +kernel

theorem witness_RestartKeepsWhatIsKept :
    State.reset.serves 1 ∧ State.reset.sto.write = none ∧ State.reset.powered = true
      ∧ (after .saveSettings State.reset).sto.write.isSome = true
      ∧ State.reset.clp.restarting = false ∧ (after .restart State.reset).clp.restarting = true
      ∧ (after .restart State.reset).powered = true :=
  ⟨serves_one serves_reset, by rfl, by rfl, by rfl, by rfl, by rfl, by rfl⟩

/-! ## Witnesses: the cab line -/

/-- A mask of bit 29 and one of bit 30; a DISABLED section; mode and period numbers at and past their last. -/
theorem witness_ConditionRequestsActOnTheLatches :
    State.reset.serves 1 ∧ (0x3FFFFFFF : BitVec 32).toNat < 2 ^ 30 ∧ 2 ^ 30 ≤ (0x40000000 : BitVec 32).toNat
      ∧ ((after (.coilShort .boom .a) State.reset).vdr.sections.get .boom).coil = .disabled .shortA
      ∧ ((after (.coilShort .boom .a) State.reset).vdr.sections.get .jib).coil = .enabled
      ∧ (Condition.tipDown ≠ .coilFault .slew)
      ∧ (List.replicate 30 3).length = 30 ∧ (∃ x ∈ List.replicate 30 3, 3 ≤ x) ∧ (5 : Nat) ≤ 5
      ∧ (List.replicate 29 0).length ≠ 30 :=
  ⟨serves_one serves_reset, by decide, by decide, by rfl, by rfl, by decide, by decide,
    ⟨3, by decide, by decide⟩, by decide, by decide⟩

/-- A condition live and not live under each mode; 31 and 32 frames waiting; before STARTED. -/
theorem witness_ConditionChangesAreNoticed :
    let both : Clp := { (queued 31).clp with settings := ⟨.off, Vector.replicate 30 .both⟩ }
    both.queue.length < 32 ∧ both.started = true ∧ both.mode .tipDown = .both ∧ both.isLive .tipDown = true
      ∧ both.isLive .tipStuck = false ∧ (queued 31).clp.mode .tipDown = .rise
      ∧ { both with settings := ⟨.off, Vector.replicate 30 .off⟩ }.mode .tipDown = .off
      ∧ { both with started := false }.started = false ∧ Condition.tipStuck ≠ .tipDown
      ∧ 32 ≤ (queued 32).clp.queue.length := by
  decide

/-- Positions 0 and 7 of a history of one and of none, offsets 15 and 16. -/
theorem witness_ReadsChangeNothing :
    State.reset.serves 16 ∧ State.reset.tal.labelled
      ∧ (after .closeLoad weighed).tal.history.length = 1 ∧ State.reset.tal.history.length ≤ 7
      ∧ ((after .closeLoad weighed).tal.history[0]?).isSome = true
      ∧ (7 ≤ 7 ∧ (15 : Nat) ≤ 15 ∧ (7 : Nat) < 8 ∧ (15 : Nat) < 16) :=
  ⟨serves_reset, ⟨by rfl, by decide, by rfl⟩, by rfl, by decide, by rfl, by decide⟩

/-- The lift of cylinderLift with its pressures GOOD and geometry valid, DROP's start stamp running, and the tip
link in STARTING after a re-probe that kept its stuck reference. -/
def returning : State :=
  let s := after (frame positionA) (cylinderLift 6)
  { s with
    tlc :=
      { s.tlc with
        link := .starting, hailTimer := none, startWindow := some 30, stuckRef := some 20000
        stuckCount := 119 }
    wen := { s.wen with calibration := { s.wen.calibration with zeroValid := true, spanValid := true } } }

/-- A lift on the tip in LIFTED and in WEIGHED, its link UP; TIP_STUCK at its threshold under each rule; a lift on
the cylinder before a frame that faults it; one whose tip link returns. -/
theorem witness_LiftSourcesOnlyFall :
    lifted.serves 1 ∧ returning.unstuckBy 31527
      ∧ (∀ w : Window, returning.wen.liftWindow = some w → w.count < w.size ∨ returning.ltr.state = .weighed)
      ∧ (let stuck := { lifted with tlc := { lifted.tlc with stuckRef := some 31527, stuckCount := 119 } }
        let c := cylinderLift 6
        let u := after (frame (.all 4095)) c
        lifted.powered = true ∧ lifted.tlc.link = .up ∧ lifted.wen.liftSource = some .tip
          ∧ lifted.ltr.state = .lifted ∧ weighed.ltr.state = .weighed ∧ weighed.wen.liftSource = some .tip
          ∧ 1 ≤ lifted.wen.settings.windowSize ∧ stuck.tlc.sequenceRef = some 17
          ∧ stuck.clp.isLive .tipStuck = false ∧ stuck.tlc.stuckRef = some (31527 : BitVec 16).toNat
          ∧ stuck.tlc.settings.stuckRule ≠ .strict ∧ 120 ≤ stuck.tlc.stuckCount + 1
          ∧ lifted.sto.working.fallback = true ∧ lifted.geo.valid = false ∧ lifted.wen.source ≠ .none
          ∧ c.powered = true ∧ c.wen.liftSource = some .cylinder ∧ c.ltr.state = .lifted
          ∧ c.ltr.releaseStart = none ∧ 1 ≤ c.wen.settings.windowSize
          ∧ u.iau.channels.pHead.status ≠ .good ∧ u.wen.liftSource = some .none
          ∧ (returning.powered = true ∧ returning.tlc.link = .starting
            ∧ returning.wen.liftSource = some .cylinder ∧ returning.sto.working.fallback = true
            ∧ returning.iau.channels.pHead.status = .good ∧ returning.iau.channels.pRod.status = .good
            ∧ returning.geo.valid = true ∧ returning.ltr.state = .lifted ∧ returning.ltr.dropStart ≠ none
            ∧ returning.wen.source ≠ .tip
            ∧ returning.wen.calibration.zeroValid = true ∧ returning.wen.calibration.spanValid = true)
          ∧ (after (.dataFrame 1 31527 20 0xEE 0) returning).wen.source = .tip
          ∧ (after (.dataFrame 1 31527 20 0xEE 0) returning).wen.liftSource = some .cylinder) := by
  refine ⟨⟨by decide, by decide⟩, .inl ⟨20000, by rfl, by decide⟩, fun w h => ?_, by decide +kernel⟩
  have e : (returning.wen.liftWindow.map fun w => decide (w.count < w.size)) = some true := by
    decide +kernel
  rw [h] at e
  exact .inl (of_decide_eq_true (Option.some.inj e))

/-! ## Witnesses: what every step keeps -/

theorem covered_of_mask {c : Clp} (h : c.live &&& c.latched = c.live) : c.covered := by
  intro i hi
  have hx : (c.live &&& c.latched).getLsbD i = true := by rw [h]; exact hi
  rw [BitVec.getLsbD_and, Bool.and_eq_true] at hx
  exact hx.2

/-- The lift in WEIGHED with a ring of one entry, a command waiting. -/
def busy : State :=
  { weighed with
    log := { weighed.log with ring := [⟨4, ⟨0, 0⟩, false, .mark (markPart weighed)⟩], nextSequence := 5 }
    pending := [.mark] }

theorem witness_LogTallyAndQueueAreKept :
    busy.clp.covered ∧ busy.clp.bounded ∧ busy.log.numbered ∧ busy.tal.bounded ∧ busy.tal.labelled
      ∧ busy.wen.tracked ∧ busy.sto.working.withinFactory = true
      ∧ step busy = .next (after .mark { busy with pending := [] }) := by
  refine ⟨covered_of_mask (by decide), ⟨by decide, by decide⟩, ⟨by decide, ?_⟩, ⟨?_, by decide⟩,
    ⟨by rfl, by decide, by rfl⟩, by unfold Wen.tracked; decide, by decide, by rfl⟩
  · intro i h
    match i with
    | 0 => rfl
  · intro l hl
    cases hl
    decide

theorem witness_LiftSourceAndCaptureAreKeptConsistent :
    busy.ltr.consistent ∧ busy.liftWindowed ∧ busy.sourced
      ∧ (capturing onTip .zero 0).capturing ∧ (capturing onTip .zero 0).wen.capture.isSome = true
      ∧ step busy = .next (after .mark { busy with pending := [] }) := by
  refine ⟨by unfold Ltr.consistent; decide, by unfold State.liftWindowed; decide, ⟨by decide, by decide⟩,
    ?_, by rfl, by rfl⟩
  intro c hc
  cases hc
  decide

theorem witness_ValveSectionsAreKeptSafe :
    extending.vdr.safe ∧ extending.withholds
      ∧ step { extending with pending := [.driveUpdate lowCurrents] }
        = .next (after (.driveUpdate lowCurrents) extending) := by
  refine ⟨fun v => ?_, fun _ => ⟨by rfl, by rfl, by rfl⟩, by rfl⟩
  cases v <;> (unfold SectionState.safe; decide)

theorem witness_TipLinkAndConditionsAreKept :
    onTip.powered = true ∧ onTip.tlc.orderly ∧ onTip.tipConditions
      ∧ onTip.holdCondition ∧ onTip.payloadCondition ∧ onTip.noCalCondition
      ∧ onTip.coilConditions ∧ onTip.leverCondition
      ∧ step { onTip with pending := [.lossTimerExpiry] } = .next (after .lossTimerExpiry onTip) := by
  refine ⟨by rfl, by unfold Tlc.orderly; decide, ⟨by decide, by decide⟩, ?_, ?_, ?_, ?_, ?_, by rfl⟩
  · unfold State.holdCondition
    decide
  · unfold State.payloadCondition
    decide
  · unfold State.noCalCondition
    decide
  · intro v
    cases v <;> decide
  · unfold State.leverCondition
    decide

end Sys2Proof.Tests
end

section
/-! PROOF. Inputs (01): what an acquisition frame leaves in IAU, and the scaled value it delivers on every
channel (R5, R6). -/

namespace Sys2Proof.Machine

/-! ## The acquisition frame on IAU -/

theorem exec_acquisitionFrame {s : State} (codes : PerChannel RawCode) (levels : PerLine Level)
    (order : FrameOrder) (h : s.powered = true) :
    exec (.acquisitionFrame codes levels order) s = .next (takeFrame codes levels order s) := by
  simp [exec, execAcquisitionFrame, whenPowered, h]

/-- What follows the samples inside `acquire` leaves IAU alone. -/
theorem acquire_iau (codes : PerChannel RawCode) (levels : PerLine Level) (s : State) :
    (acquire codes levels s).iau = (sampleInputs codes levels s).iau := by
  simp [acquire, Line.list]

theorem foldl_performTask_iau (marked : Bool) (ts : List FrameTask) (s : State) :
    (ts.foldl (fun u t => performTask marked t u) s).iau = s.iau := by
  induction ts generalizing s with
  | nil => rfl
  | cons t ts ih => simp [ih]

/-- The consumers' tasks leave IAU alone: after a frame it holds the frame's samples, judged. -/
theorem takeFrame_iau (codes : PerChannel RawCode) (levels : PerLine Level) (order : FrameOrder)
    (s : State) : (takeFrame codes levels order s).iau = (sampleInputs codes levels s).iau := by
  unfold takeFrame
  rw [foldl_performTask_iau, acquire_iau]

/-- A frame judges each channel on its own code (R2, R6). -/
theorem takeFrame_channel (codes : PerChannel RawCode) (levels : PerLine Level) (order : FrameOrder)
    (s : State) (c : Channel) :
    (takeFrame codes levels order s).iau.channels.get c
      = (s.iau.channels.get c).judge c (codes.get c) := by
  simp [takeFrame_iau, sampleInputs]

/-! ## The judged channel (R6) -/

theorem inBand_iff (t : ChannelSettings) (r : RawCode) :
    inBand t r = true ↔ t.bandLo ≤ r.val ∧ r.val ≤ t.bandHi := by
  simp [inBand, Nat.inRange]

theorem ChannelState.judge_of_inBand {x : ChannelState} {r : RawCode} (c : Channel)
    (h : inBand x.settings r = true) :
    x.judge c r = { x with
      raw := some r, status := .good, lastGood := some r, value := some (scaledValue c x.settings r) } := by
  simp [judge, h]

/-- In every row of R6's table the value delivered is the scaled value of the last good code, and none
where there is no such code. -/
theorem ChannelState.judge_value (c : Channel) (x : ChannelState) (r : RawCode) :
    (x.judge c r).value = (x.judge c r).lastGood.map (scaledValue c x.settings) := by
  by_cases h : inBand x.settings r = true
  · simp [judge_of_inBand c h]
  · cases hs : x.status <;> cases hg : x.lastGood <;> simp [judge, h, hs, hg]

/-! ## The scaled value (R5) -/

theorem channelRange_ordered (c : Channel) : c.range.1 ≤ c.range.2 := by
  cases c <;> decide

theorem scaledValue_slew (t : ChannelSettings) (r : RawCode) :
    scaledValue .slew t r
      = (t.valueLo + roundDiv (((r.val : Int) - t.rawLo) * (t.valueHi - t.valueLo))
          ((t.rawHi : Int) - t.rawLo)) % 3600 := rfl

theorem scaledValue_of_ne_slew {c : Channel} (h : c ≠ .slew) (t : ChannelSettings) (r : RawCode) :
    scaledValue c t r
      = clamp c.range.1 c.range.2 (t.valueLo + roundDiv (((r.val : Int) - t.rawLo)
          * (t.valueHi - t.valueLo)) ((t.rawHi : Int) - t.rawLo)) := by
  cases c
  case slew => exact absurd rfl h
  all_goals rfl

/-- A remainder modulo 3,600 lies on the circle and differs from its number by whole turns. -/
theorem emod_turn (v : Int) : 0 ≤ v % 3600 ∧ v % 3600 ≤ 3599 ∧ ∃ k : Int, v = v % 3600 + 3600 * k :=
  ⟨by omega, by omega, v / 3600, (Int.emod_add_mul_ediv v 3600).symm⟩

/-- Settles O11: `judge_value` makes a delivered value the scaled value of the last good code; its first
step is the quotient that `roundDiv` rounds, its second the remainder of SLEW or the clamp. -/
theorem scaledValueFollowsTheScale : Obligations.ScaledValueFollowsTheScale := by
  intro codes levels order s c o hp hraw
  refine ⟨_, exec_acquisitionFrame codes levels order hp, ?_⟩
  rw [takeFrame_channel]
  refine ⟨fun hlo hhi => ?_, fun x hx => ?_⟩
  · simp [ChannelState.judge_of_inBand c ((inBand_iff o _).mpr ⟨hlo, hhi⟩)]
  · rw [ChannelState.judge_value, Option.map_eq_some_iff] at hx
    obtain ⟨r, hr, rfl⟩ := hx
    refine ⟨r, _, hr, roundDiv_isRounded _ _ (by omega), ?_, fun hc => ?_⟩
    · rintro rfl
      rw [scaledValue_slew]
      exact emod_turn _
    · rw [scaledValue_of_ne_slew hc]
      exact clamp_isClamped _ _ _ (channelRange_ordered c)

end Sys2Proof.Machine
end

section
/-! PROOF. Crane geometry and working zones (03): what an acquisition frame leaves in GEO, and the live
state of GEOMETRY_INVALID (R41 to R52). -/

namespace Sys2Proof.Machine

/-! ## The acquisition frame on GEO (R41) -/

/-- The samples are judged before the geometry update, which works on their results. -/
theorem acquire_geo (codes : PerChannel RawCode) (levels : PerLine Level) (s : State) :
    (acquire codes levels s).geo = s.geo.update (acquire codes levels s).iau.channels := by
  rw [acquire_iau]
  simp [acquire, updateGeometry, Line.list]

theorem foldl_performTask_geo (marked : Bool) (ts : List FrameTask) (s : State) :
    (ts.foldl (fun u t => performTask marked t u) s).geo = s.geo := by
  induction ts generalizing s with
  | nil => rfl
  | cons t ts ih => simp [ih]

/-- The consumers' tasks leave GEO alone: after a frame it holds the update by the frame's channels. -/
theorem takeFrame_geo (codes : PerChannel RawCode) (levels : PerLine Level) (order : FrameOrder)
    (s : State) : (takeFrame codes levels order s).geo
      = s.geo.update (takeFrame codes levels order s).iau.channels := by
  unfold takeFrame
  rw [foldl_performTask_geo, foldl_performTask_iau, acquire_geo]

/-! ## GEOMETRY_INVALID (R49) -/

theorem acquire_geometryInvalid (codes : PerChannel RawCode) (levels : PerLine Level) (s : State) :
    (acquire codes levels s).clp.isLive .geometryInvalid = !(acquire codes levels s).geo.valid := by
  rw [acquire_geo, acquire_iau]
  simp [acquire, updateGeometry, Geo.update, Line.list]

/-- No task of the consumers reports GEOMETRY_INVALID. -/
theorem foldl_performTask_reports (marked : Bool) (ts : List FrameTask) (s : State) :
    Reports (· ≠ .geometryInvalid) s.clp (ts.foldl (fun u t => performTask marked t u) s).clp := by
  induction ts generalizing s with
  | nil => exact .refl
  | cons t ts ih =>
    exact (reports_performTask nofun nofun nofun nofun .refl).trans (ih _)

theorem takeFrame_geometryInvalid (codes : PerChannel RawCode) (levels : PerLine Level)
    (order : FrameOrder) (s : State) :
    (takeFrame codes levels order s).clp.isLive .geometryInvalid
      = !(takeFrame codes levels order s).geo.valid := by
  unfold takeFrame
  rw [(foldl_performTask_reports _ _ _).isLive _ (fun h => h rfl), acquire_geometryInvalid,
    foldl_performTask_geo]

/-! ## The delivered values (R5, R6) -/

theorem scaledValue_mem (c : Channel) (t : ChannelSettings) (r : RawCode) :
    c.range.1 ≤ scaledValue c t r ∧ scaledValue c t r ≤ c.range.2 := by
  by_cases h : c = .slew
  · subst h
    rw [scaledValue_slew]
    obtain ⟨h0, h1, -⟩ := emod_turn (t.valueLo + roundDiv (((r.val : Int) - t.rawLo)
      * (t.valueHi - t.valueLo)) ((t.rawHi : Int) - t.rawLo))
    exact ⟨h0, h1⟩
  · rw [scaledValue_of_ne_slew h]
    exact clamp_mem _ _ _ (channelRange_ordered c)

/-- What a frame delivers on a channel lies in the channel's range (R3). -/
theorem takeFrame_value_mem {codes : PerChannel RawCode} {levels : PerLine Level} {order : FrameOrder}
    {s : State} (c : Channel) {x : Int}
    (h : ((takeFrame codes levels order s).iau.channels.get c).value = some x) :
    c.range.1 ≤ x ∧ x ≤ c.range.2 := by
  rw [takeFrame_channel, ChannelState.judge_value, Option.map_eq_some_iff] at h
  obtain ⟨r, -, rfl⟩ := h
  exact scaledValue_mem _ _ _

theorem ChannelState.liveValue_of_good {c : ChannelState} (h : c.status = .good) :
    c.liveValue = c.value := by simp [liveValue, h]

theorem ChannelState.liveValue_of_ne_good {c : ChannelState} (h : c.status ≠ .good) :
    c.liveValue = none := by
  unfold liveValue
  split
  · contradiction
  · rfl

/-! ## The cosine (R43) -/

theorem cosTable_le : ∀ x ∈ cosTable, x ≤ 16384 := by decide +kernel

theorem cosEntry_mem (i : Nat) : 0 ≤ cosEntry i ∧ cosEntry i ≤ 16384 := by
  have h : cosTable.getD i 0 ≤ 16384 := by
    rw [List.getD_eq_getElem?_getD]
    cases hx : cosTable[i]? with
    | none => simp
    | some x => exact cosTable_le x (List.mem_of_getElem? hx)
  unfold cosEntry
  omega

/-- In each quarter of the circle the cosine is an entry of the table or its opposite. -/
theorem cosine_mem (a : Int) : -16384 ≤ cosine a ∧ cosine a ≤ 16384 := by
  have entry := cosEntry_mem
  unfold cosine
  dsimp only
  generalize (a % 3600).toNat = r
  split
  · have := entry r
    omega
  · split
    · have := entry (1800 - r)
      omega
    · split
      · have := entry (r - 1800)
        omega
      · have := entry (3600 - r)
        omega

/-- A length times a cosine is at most the length times one. -/
theorem mul_cosine_le (l : Nat) (a : Int) : (l : Int) * cosine a ≤ l * 16384 :=
  Int.mul_le_mul_of_nonneg_left (cosine_mem a).2 (by omega)

/-! ## Extension and reach (R44, R45) -/

theorem extensionInUse_eq (g : GeometrySettings) (tele : Int) :
    (extensionInUse g tele : Int) = clamp 0 g.eMax tele :=
  Int.toNat_of_nonneg (clamp_mem 0 g.eMax tele (by omega)).1

theorem extensionInUse_isClamped (g : GeometrySettings) (tele : Int) :
    isClamped 0 g.eMax tele (extensionInUse g tele) := by
  rw [extensionInUse_eq]
  exact clamp_isClamped _ _ _ (by omega)

theorem extensionInUse_le (g : GeometrySettings) (tele : Int) : extensionInUse g tele ≤ g.eMax := by
  have h := extensionInUse_eq g tele
  have := clamp_mem 0 g.eMax tele (by omega)
  omega

theorem geometry_le_of_accepted {g : GeometrySettings} (h : g.accepted = true) :
    g.l1 ≤ 8000 ∧ g.l2 ≤ 8000 ∧ g.eMax ≤ 4000 := by
  simp only [GeometrySettings.accepted, Nat.inRange, Bool.and_eq_true, decide_eq_true_eq] at h
  omega

theorem roundDiv_le {n d k : Int} (hd : 0 < d) (h : n ≤ k * d) : roundDiv n d ≤ k := by
  by_contra hk
  have hq := (roundDiv_isRounded n d (by omega)).1
  have : (k + 1) * d ≤ roundDiv n d * d := Int.mul_le_mul_of_nonneg_right (by omega) (by omega)
  rw [Int.add_mul, Int.one_mul] at this
  omega

/-- The reach is at most the sum of the three lengths: boom, jib and longest extension. -/
theorem reachOf_le {g : GeometrySettings} {e : Nat} (hg : g.accepted = true) (he : e ≤ g.eMax)
    (boom direction : Int) : reachOf g boom direction e ≤ 20000 := by
  obtain ⟨h1, h2, h3⟩ := geometry_le_of_accepted hg
  have hb := mul_cosine_le g.l1 boom
  have hj := mul_cosine_le (g.l2 + e) direction
  rw [Nat.cast_add] at hj
  have hq := roundDiv_le (n := g.l1 * cosine boom + ((g.l2 : Int) + e) * cosine direction)
    (d := 16384) (k := 20000) (by decide) (by omega)
  unfold reachOf
  omega

/-! ## The position of a frame (R49) -/

theorem framePosition_of_values {g : GeometrySettings} {c : PerChannel ChannelState} {f b j e : Int}
    (hf : c.slew.value = some f) (hb : c.boom.value = some b) (hj : c.jib.value = some j)
    (he : c.tele.value = some e) : framePosition g c = some (positionOf g f b j e) := by
  simp [framePosition, hf, hb, hj, he]

theorem framePosition_of_missing {g : GeometrySettings} {c : PerChannel ChannelState}
    (h : c.slew.value = none ∨ c.boom.value = none ∨ c.jib.value = none ∨ c.tele.value = none) :
    framePosition g c = none := by
  unfold framePosition
  split
  · next hf hb hj he => simp [hf, hb, hj, he] at h
  · rfl

/-! ## Downhill component and tilt (R47, R48) -/

theorem downhill_isRounded (p r f : Int) :
    isRounded (p * cosine f + r * sine f) 16384 (downhill p r f) :=
  roundDiv_isRounded _ _ (by decide)

/-- A multiple of the divisor is divided without rounding. -/
theorem roundDiv_mul_self (k : Int) {d : Int} (hd : d ≠ 0) : roundDiv (k * d) d = k := by
  refine isRounded_unique hd (roundDiv_isRounded _ _ hd) ?_
  unfold isRounded
  omega

/-- Toward the front the downhill component is the pitch. -/
theorem downhill_front (p r : Int) : downhill p r 0 = p := by
  have hc : cosine 0 = 16384 := by decide +kernel
  have hs : sine 0 = 0 := by decide +kernel
  rw [downhill, hc, hs, Int.mul_zero, Int.add_zero, roundDiv_mul_self p (by decide)]

/-- A quarter turn on it is the roll. -/
theorem downhill_side (p r : Int) : downhill p r 900 = r := by
  have hc : cosine 900 = 0 := by decide +kernel
  have hs : sine 900 = 16384 := by decide +kernel
  rw [downhill, hc, hs, Int.mul_zero, Int.zero_add, roundDiv_mul_self r (by decide)]

/-- Toward the rear it is the opposite of the pitch. -/
theorem downhill_rear (p r : Int) : downhill p r 1800 = -p := by
  have hc : cosine 1800 = -16384 := by decide +kernel
  have hs : sine 1800 = 0 := by decide +kernel
  rw [downhill, hc, hs, Int.mul_zero, Int.add_zero, Int.mul_neg, ← Int.neg_mul,
    roundDiv_mul_self (-p) (by decide)]

section
variable {c : PerChannel ChannelState} {p r f : Int}

theorem frameTilt_of_good (hp : c.pitch.status = .good) (vp : c.pitch.value = some p)
    (hr : c.roll.status = .good) (vr : c.roll.value = some r) :
    frameTilt c = some (max p.natAbs r.natAbs) := by
  simp [frameTilt, ChannelState.liveValue_of_good, hp, vp, hr, vr]

theorem frameTau_of_good (hp : c.pitch.status = .good) (vp : c.pitch.value = some p)
    (hr : c.roll.status = .good) (vr : c.roll.value = some r)
    (hf : c.slew.status = .good) (vf : c.slew.value = some f) :
    frameTau c = some (downhill p r f) := by
  simp [frameTau, ChannelState.liveValue_of_good, hp, vp, hr, vr, hf, vf]

theorem frameTilt_of_fault (h : c.pitch.status ≠ .good ∨ c.roll.status ≠ .good) :
    frameTilt c = none := by
  unfold frameTilt
  rcases h with h | h <;> simp [ChannelState.liveValue_of_ne_good h]

theorem frameTau_of_fault
    (h : c.pitch.status ≠ .good ∨ c.roll.status ≠ .good ∨ c.slew.status ≠ .good) :
    frameTau c = none := by
  unfold frameTau
  rcases h with h | h | h <;> simp [ChannelState.liveValue_of_ne_good h]

end

/-- Settles O14: GEO holds the update by the frame's own channels (`takeFrame_geo`), whose values lie in
their ranges (`takeFrame_value_mem`); `roundDiv` rounds each exact sum, and no cosine passes 1
(`reachOf_le`). -/
theorem positionAndTiltFollowTheCrane : Obligations.PositionAndTiltFollowTheCrane := by
  refine ⟨fun codes levels order s hp => ⟨_, exec_acquisitionFrame codes levels order hp, ?_⟩,
    fun codes levels order s hp => ⟨_, exec_acquisitionFrame codes levels order hp, ?_⟩⟩
  all_goals rw [takeFrame_geo]
  · refine ⟨fun f b j e hf hb hj he => ?_, framePosition_of_missing⟩
    have bRange : -300 ≤ b ∧ b ≤ 850 := takeFrame_value_mem .boom hb
    have jRange : 0 ≤ j ∧ j ≤ 1800 := takeFrame_value_mem .jib hj
    have hdir : -2100 ≤ b + j - 1800 ∧ b + j - 1800 ≤ 850 := by omega
    exact ⟨positionOf s.geo.geometry f b j e, _, _, framePosition_of_values hf hb hj he, rfl,
      hdir.1, hdir.2, extensionInUse_isClamped _ _, roundDiv_isRounded _ _ (by decide),
      Int.toNat_eq_max _, roundDiv_isRounded _ _ (by decide), rfl, rfl,
      fun hg => reachOf_le hg (extensionInUse_le _ _) _ _⟩
  · refine ⟨fun p r f hp vp hr vr => ⟨frameTilt_of_good hp vp hr vr, ?_, fun hf vf => ?_⟩,
      fun h => ⟨frameTilt_of_fault h, frameTau_of_fault ?_⟩,
      fun h => frameTau_of_fault (.inr (.inr h))⟩
    · have pRange : -450 ≤ p ∧ p ≤ 450 := takeFrame_value_mem .pitch vp
      have rRange : -450 ≤ r ∧ r ≤ 450 := takeFrame_value_mem .roll vr
      omega
    · refine ⟨_, frameTau_of_good hp vp hr vr hf vf, downhill_isRounded p r f, ?_, ?_, ?_⟩
      · rintro rfl
        exact downhill_front p r
      · rintro rfl
        exact downhill_side p r
      · rintro rfl
        exact downhill_rear p r
    · exact h.imp_right .inl

/-! ## Validity and the raw zone (R49, R51) -/

theorem frameValid_iff (c : PerChannel ChannelState) :
    frameValid c = true ↔ c.slew.status = .good ∧ c.boom.status = .good ∧ c.jib.status = .good
      ∧ c.tele.status = .good := by
  simp [frameValid, and_assoc]

section
variable {z : ZoneSettings} {p : Position}

theorem zoneOf_invalid (position : Option Position) : zoneOf z false position = .unknown := rfl

theorem zoneOf_cab (hc : inSector z.cabFrom z.cabTo p.slew = true ∧ p.reach < z.cabRadius) :
    zoneOf z true (some p) = .cab := by
  simp [zoneOf, hc]

theorem zoneOf_bunk (hc : ¬(inSector z.cabFrom z.cabTo p.slew = true ∧ p.reach < z.cabRadius))
    (hb : inSector z.bunkFrom z.bunkTo p.slew = true ∧ z.bunkMin ≤ p.reach
      ∧ p.reach ≤ z.bunkMax) : zoneOf z true (some p) = .bunk := by
  simp [zoneOf, Nat.inRange, hc, hb]

theorem zoneOf_ground (hc : ¬(inSector z.cabFrom z.cabTo p.slew = true ∧ p.reach < z.cabRadius))
    (hb : ¬(inSector z.bunkFrom z.bunkTo p.slew = true ∧ z.bunkMin ≤ p.reach
      ∧ p.reach ≤ z.bunkMax)) : zoneOf z true (some p) = .ground := by
  simp [zoneOf, Nat.inRange, hc, hb]

end

/-! ## The debounced zone (R52) -/

section
variable {raw zone : Zone} {candidate : Option ZoneCandidate}

theorem debounceZone_unknown (h : raw = .unknown) :
    debounceZone raw zone candidate = (.unknown, none) := by simp [debounceZone, h]

theorem debounceZone_same (hu : raw ≠ .unknown) (h : raw = zone) :
    debounceZone raw zone candidate = (raw, none) := by
  subst h
  simp [debounceZone, hu]

/-- Another zone than the candidate's begins its own count. -/
theorem debounceZone_begins (hu : raw ≠ .unknown) (hz : raw ≠ zone)
    (h : ∀ n, candidate ≠ some ⟨raw, n⟩) :
    debounceZone raw zone candidate = (zone, some ⟨raw, 1⟩) := by
  cases candidate with
  | none => simp [debounceZone, hu, hz]
  | some c =>
    have hc : c.zone ≠ raw := by
      rintro rfl
      exact h c.count rfl
    simp [debounceZone, hu, hz, hc]

theorem debounceZone_counts (hu : raw ≠ .unknown) (hz : raw ≠ zone) (n : Nat) :
    debounceZone raw zone (some ⟨raw, n⟩)
      = if n < 2 then (zone, some ⟨raw, n + 1⟩) else (raw, none) := by
  simp [debounceZone, hu, hz]

end

/-- Settles O15: GEO holds the update by the frame's own channels (`takeFrame_geo`), and no task after it
reports GEOMETRY_INVALID (`takeFrame_geometryInvalid`); the rest is R51's table and R52's cases. -/
theorem frameDebouncesTheZone : Obligations.FrameDebouncesTheZone := by
  intro codes levels order s hp
  refine ⟨_, exec_acquisitionFrame codes levels order hp, ?_, takeFrame_geometryInvalid _ _ _ _, ?_⟩
  all_goals rw [takeFrame_geo]
  · exact frameValid_iff _
  · generalize (takeFrame codes levels order s).iau.channels = c
    simp only [Geo.update]
    refine ⟨fun hv => by rw [hv, zoneOf_invalid], fun p hv hpos => ?_, ?_⟩
    · rw [hv, hpos]
      exact ⟨zoneOf_cab, zoneOf_bunk, zoneOf_ground⟩
    · generalize zoneOf s.geo.zones (frameValid c) (framePosition s.geo.geometry c) = raw
      refine ⟨fun hu => ?_, fun hu hz => ?_, fun hu hz hc => ?_, fun hu hz hc => ?_,
        fun hu hz hc => ?_⟩
      · simp [debounceZone_unknown hu]
      · simp [debounceZone_same hu hz]
      · simp [debounceZone_begins hu hz hc]
      · simp [hc, debounceZone_counts hu hz]
      · simp [hc, debounceZone_counts hu hz]

end Sys2Proof.Machine
end

section
/-! PROOF. Requests answered and refused: what every statement about a request starts from, and the statements of
the machine, its timers and its queue that follow at once. -/

namespace Sys2Proof.Machine

/-! ## Lengths of fields (R203) -/

@[simp] theorem u8_length (n : Nat) : (u8 n).length = 1 := rfl
@[simp] theorem u16_length (n : Nat) : (u16 n).length = 2 := rfl
@[simp] theorem u24_length (n : Nat) : (u24 n).length = 3 := rfl
@[simp] theorem u32_length (n : Nat) : (u32 n).length = 4 := rfl
@[simp] theorem i8_length (x : Int) : (i8 x).length = 1 := rfl
@[simp] theorem i16_length (x : Int) : (i16 x).length = 2 := rfl
@[simp] theorem i32_length (x : Int) : (i32 x).length = 4 := rfl
@[simp] theorem flag_length (b : Bool) : (flag b).length = 1 := rfl
@[simp] theorem stampBytes_length (t : Stamp) : (stampBytes t).length = 6 := rfl

/-! ## States that agree on every block -/

theorem State.ext_parts {s t : State} (h1 : s.powered = t.powered) (h2 : s.iau = t.iau) (h3 : s.tlc = t.tlc)
    (h4 : s.geo = t.geo) (h5 : s.wen = t.wen) (h6 : s.ltr = t.ltr) (h7 : s.tal = t.tal) (h8 : s.log = t.log)
    (h9 : s.mlm = t.mlm) (h10 : s.vdr = t.vdr) (h11 : s.sto = t.sto) (h12 : s.clp = t.clp)
    (h13 : s.pending = t.pending) : s = t := by
  cases s
  cases t
  simp_all

/-! ## Requests answered -/

theorem State.serves.powered {s : State} {n : Nat} (h : s.serves n) : s.powered = true := by
  have hd := h.1
  unfold State.dispatching at hd
  simp only [Bool.and_eq_true] at hd
  exact hd.1.1

theorem State.serves.mono {s : State} {n m : Nat} (h : s.serves n) (hm : m ≤ n) : s.serves m :=
  ⟨h.1, by have := h.2; omega⟩

/-- An answered request leaves every block but CLP as it was. -/
@[simp] theorem replied_frame (k : Byte) (x : Status) (d : List Byte) (s : State) :
    (s.replied k x d).powered = s.powered ∧ (s.replied k x d).iau = s.iau ∧ (s.replied k x d).tlc = s.tlc
      ∧ (s.replied k x d).geo = s.geo ∧ (s.replied k x d).wen = s.wen ∧ (s.replied k x d).ltr = s.ltr
      ∧ (s.replied k x d).tal = s.tal ∧ (s.replied k x d).log = s.log ∧ (s.replied k x d).mlm = s.mlm
      ∧ (s.replied k x d).vdr = s.vdr ∧ (s.replied k x d).sto = s.sto
      ∧ (s.replied k x d).pending = s.pending :=
  ⟨rfl, rfl, rfl, rfl, rfl, rfl, rfl, rfl, rfl, rfl, rfl, rfl⟩

/-- A command with supply does what its block does. -/
theorem whenPowered_eq {f : State → State} {s : State} (h : s.powered = true) : whenPowered f s = f s :=
  if_pos h

/-- A reply of one part finds room. -/
theorem answer_short {k : Byte} {x : Status} {d : List Byte} {e : State → State} {s : State}
    (h : s.serves 1) (hd : d.length ≤ 60) : answer k x d e s = e (s.replied k x d) :=
  answer_of_serves h (by rw [replyFrames_of_short hd]; exact Nat.le_refl 1)

theorem answer_ok {k : Byte} {x : Status} {e : State → State} {s : State} (h : s.serves 1) :
    answer k x [] e s = e (s.replied k x []) := answer_short h (Nat.zero_le _)

theorem refusedWith_of {i : Instr} {k : Byte} {x : Status} {s : State} (h : s.serves 1)
    (he : exec i s = .next (refuse k x s)) : refusedWith i k x s := by
  unfold refusedWith
  rw [he, refuse_of_serves h]

/-- A request that passes its judgement is answered and performed. -/
theorem answer_of_pos {c : Prop} [Decidable c] {k : Byte} {x : Status} {e : State → State} {s u : State}
    (h : s.serves 1) (hc : c) : (if c then answer k x [] e s else u) = e (s.replied k x []) :=
  (if_pos hc).trans (answer_ok h)

theorem answer_of_neg {c : Prop} [Decidable c] {k : Byte} {x : Status} {e : State → State} {s u : State}
    (h : s.serves 1) (hc : ¬c) : (if c then u else answer k x [] e s) = e (s.replied k x []) :=
  (if_neg hc).trans (answer_ok h)

/-- A short reply is its one part at the end of the queue. -/
theorem replied_short {k : Byte} {x : Status} {d : List Byte} {s : State} (hd : d.length ≤ 60) :
    s.replied k x d
      = { s with clp := { s.clp with queue := s.clp.queue ++ [.reply k x 0 true d] } } := by
  unfold State.replied Clp.enqueue
  rw [replyFrames_of_short hd]

/-- Only a LIVE notice can take the place of another frame. -/
theorem Clp.send_of_short {c : Clp} {n : Notice} (hn : (TxFrame.notice n).isLive = false)
    (h : c.queue.length < 32) : c.send n = { c with queue := c.queue ++ [.notice n] } := by
  rcases Clp.send_cases c n with ⟨hl, -⟩ | ⟨hq, -⟩ | ⟨-, he⟩
  · rw [hn] at hl
    cases hl
  · omega
  · exact he

theorem Clp.send_of_long {c : Clp} {n : Notice} (hn : (TxFrame.notice n).isLive = false)
    (h : 32 ≤ c.queue.length) : c.send n = { c with lost := min 255 (c.lost + 1) } := by
  rcases Clp.send_cases c n with ⟨hl, -⟩ | ⟨-, he⟩ | ⟨hq, -⟩
  · rw [hn] at hl
    cases hl
  · exact he
  · omega

theorem notice_isLive {n : Notice} (hn : ∀ r, n ≠ .live r) : (TxFrame.notice n).isLive = false := by
  cases n with
  | live r => exact absurd rfl (hn r)
  | _ => rfl

/-! ## The machine -/

/-- Settles O1. -/
theorem stepPerformsTheFrontCommand : Obligations.StepPerformsTheFrontCommand :=
  ⟨fun _ _ => rfl, fun s h => by unfold step; rw [h]⟩

/-! ## Replies in parts -/

/-- The data of a reply cut as its parts carry it. -/
def replyParts : Nat → List Byte → List (List Byte)
  | 0, d => [d]
  | n + 1, d => if d.length ≤ 60 then [d] else d.take 60 :: replyParts n (d.drop 60)

theorem replyParts_ne_nil (n : Nat) (d : List Byte) : replyParts n d ≠ [] := by
  cases n with
  | zero => simp [replyParts]
  | succ n => unfold replyParts; split <;> simp

theorem replyParts_flatten (n : Nat) (d : List Byte) : (replyParts n d).flatten = d := by
  induction n generalizing d with
  | zero => simp [replyParts]
  | succ n ih =>
    unfold replyParts
    split
    · simp
    · simp [ih]

theorem replyParts_length_le {n : Nat} {d : List Byte} (h : d.length ≤ n) :
    ∀ b ∈ replyParts n d, b.length ≤ 60 := by
  induction n generalizing d with
  | zero => simp_all [replyParts]
  | succ n ih =>
    unfold replyParts
    split
    · simpa
    · have := ih (show (d.drop 60).length ≤ n by simp; omega)
      simp_all

theorem replyParts_dropLast_length (n : Nat) (d : List Byte) :
    ∀ b ∈ (replyParts n d).dropLast, b.length = 60 := by
  induction n generalizing d with
  | zero => simp [replyParts]
  | succ n ih =>
    unfold replyParts
    split
    · simp
    · rw [List.dropLast_cons_of_ne_nil (replyParts_ne_nil _ _)]
      have := ih (d.drop 60)
      simp_all
      omega

theorem replyParts_getLast (n : Nat) {d : List Byte} (h : d ≠ []) :
    (replyParts n d).getLast? ≠ some [] := by
  induction n generalizing d with
  | zero => simpa [replyParts] using h
  | succ n ih =>
    unfold replyParts
    split
    · simpa using h
    · rw [List.getLast?_cons_of_ne_nil (replyParts_ne_nil _ _)]
      exact ih (by simp; omega)

theorem cutReply_eq (k : Byte) (x : Status) (n part : Nat) (d : List Byte) :
    cutReply k x n part d = (replyParts n d).mapIdx fun i b =>
      TxFrame.reply k x (part + i) (i + 1 == (replyParts n d).length) b := by
  induction n generalizing part d with
  | zero => simp [cutReply, replyParts]
  | succ n ih =>
    unfold cutReply replyParts
    split
    · simp
    · have he : (0 + 1 == (d.take 60 :: replyParts n (d.drop 60)).length) = false := by
        simpa using replyParts_ne_nil n (d.drop 60)
      rw [ih, List.mapIdx_cons, he]
      simp [Nat.add_assoc, Nat.add_comm 1]

/-- A reply of at most 60 bytes for each part that finds room. -/
theorem replyParts_length_of_le {m n : Nat} {d : List Byte} (hm : d.length ≤ 60 * (m + 1)) :
    (replyParts n d).length ≤ m + 1 := by
  induction n generalizing m d with
  | zero => simp [replyParts]
  | succ n ih =>
    unfold replyParts
    split
    · simp
    · cases m with
      | zero => omega
      | succ m =>
        have := ih (show (d.drop 60).length ≤ 60 * (m + 1) by simp; omega)
        simpa using this

theorem answer_parts {k : Byte} {x : Status} {d : List Byte} {e : State → State} {s : State} {n : Nat}
    (h : s.serves (n + 1)) (hd : d.length ≤ 60 * (n + 1)) : answer k x d e s = e (s.replied k x d) := by
  refine answer_of_serves h ?_
  unfold replyFrames
  rw [cutReply_eq, List.length_mapIdx]
  exact replyParts_length_of_le hd

/-- Settles O4: the parts are `replyParts`, by induction on their bound. -/
theorem replyPartsCarryTheData : Obligations.ReplyPartsCarryTheData := by
  intro k x d
  refine ⟨replyParts d.length d, replyParts_ne_nil _ _, replyParts_flatten _ _,
    replyParts_dropLast_length _ _, replyParts_length_le (Nat.le_refl _), fun h2 => ?_, ?_⟩
  · refine replyParts_getLast _ ?_
    rintro rfl
    exact absurd h2 (by decide)
  · unfold replyFrames
    simpa using cutReply_eq k x d.length 0 d

/-! ## Condition changes (R196, R197) -/

theorem Clp.putLive_queue (c : Clp) (d : Condition) (v : Bool) :
    (c.putLive d v).queue = c.queue ∧ (c.putLive d v).lost = c.lost := by
  unfold Clp.putLive
  split <;> exact ⟨rfl, rfl⟩

theorem Clp.isLatched_putLive (c : Clp) (d e : Condition) (v : Bool) :
    (c.putLive d v).isLatched e = (c.isLatched e || (v && decide (d = e))) := by
  have hi := e.index.isLt
  by_cases h : d = e
  · subst h
    cases v <;> simp [Clp.putLive, Clp.isLatched, Condition.bit, hi]
  · have h' : ¬ e.index.val = d.index.val := fun x => h (Condition.index_injective (Fin.ext x.symm))
    cases v <;> simp [Clp.putLive, Clp.isLatched, Condition.bit, h, h']

theorem Clp.setLive_of_same {c : Clp} {d : Condition} {v : Bool} (h : c.isLive d = v) :
    c.setLive d v = c := if_pos h

/-- A change of a live state: the table, and the notice that the mode lets through. -/
theorem Clp.setLive_of_change {c : Clp} {d : Condition} {v : Bool} (h : c.isLive d = !v) :
    c.setLive d v = if c.liveNotice d v then
        (c.putLive d v).send (.condition d.index (if v then 1 else 0) ((c.putLive d v).isLatched d))
      else c.putLive d v := by
  unfold Clp.setLive
  rw [if_neg (by rw [h]; cases v <;> decide)]

/-- A set live state has its latch: setting it latches its own condition and no other (R196). -/
theorem Clp.setLive_isLatched (c : Clp) (d e : Condition) (v : Bool) :
    (c.setLive d v).isLatched e
      = (c.isLatched e || (v && !c.isLive d && decide (d = e))) := by
  by_cases h : c.isLive d = v
  · rw [Clp.setLive_of_same h, h]
    cases v <;> simp
  · have h' : c.isLive d = !v := by cases v <;> simpa using h
    have hl : (c.setLive d v).isLatched e = (c.putLive d v).isLatched e := by
      rw [Clp.setLive_of_change h']
      split
      · simp [Clp.isLatched]
      · rfl
    rw [hl, Clp.isLatched_putLive, h']
    cases v <;> simp

theorem Clp.latch_isLatched (c : Clp) (d e : Condition) :
    (c.latch d).isLatched e = (c.isLatched e || decide (d = e)) := by
  have hl : (c.latch d).isLatched e = (c.putLive d true).isLatched e := by
    unfold Clp.latch
    dsimp only
    split
    · simp [Clp.isLatched, Clp.putLive]
    · simp [Clp.isLatched, Clp.putLive]
  rw [hl, Clp.isLatched_putLive]
  simp

/-- The notice of a latching, when the mode lets it through (R197). -/
theorem Clp.latch_of_mode {c : Clp} {d : Condition} (hs : c.started = true) (hm : c.mode d ≠ .off) :
    c.latch d = ({ c with latched := c.latched ||| d.bit } : Clp).send (.condition d.index 2 true) := by
  unfold Clp.latch
  simp [hs, hm]

theorem Clp.latch_silent {c : Clp} {d : Condition} (h : c.started = false ∨ c.mode d = .off) :
    (c.latch d).queue = c.queue := by
  unfold Clp.latch
  rcases h with h | h <;> simp [h]

theorem Clp.setLive_silent {c : Clp} {d : Condition} {v : Bool} (h : c.liveNotice d v = false) :
    (c.setLive d v).queue = c.queue := by
  unfold Clp.setLive
  rw [h]
  dsimp only
  split
  · rfl
  · exact (Clp.putLive_queue c d v).1

theorem Clp.liveNotice_true {c : Clp} {d : Condition} (hs : c.started = true) (hm : c.mode d ≠ .off) :
    c.liveNotice d true = true := by
  unfold Clp.liveNotice
  rw [hs]
  cases h : c.mode d
  · exact absurd h hm
  · rfl
  · rfl

theorem Clp.liveNotice_both {c : Clp} {d : Condition} (v : Bool) (hs : c.started = true)
    (hm : c.mode d = .both) : c.liveNotice d v = true := by
  unfold Clp.liveNotice
  rw [hs, hm]
  rfl

theorem Clp.liveNotice_off {c : Clp} {d : Condition} (v : Bool)
    (h : c.started = false ∨ c.mode d = .off) : c.liveNotice d v = false := by
  unfold Clp.liveNotice
  rcases h with h | h <;> simp [h]

/-- A noticed change behind fewer than 32 frames joins the queue; behind 32 it is lost (R195). -/
theorem Clp.setLive_noticed {c : Clp} {d : Condition} {v : Bool} (h : c.isLive d = !v)
    (hn : c.liveNotice d v = true) :
    (c.queue.length < 32 → (c.setLive d v).queue = c.queue
        ++ [.notice (.condition d.index (if v then 1 else 0) (c.isLatched d || v))])
      ∧ (32 ≤ c.queue.length →
        (c.setLive d v).queue = c.queue ∧ (c.setLive d v).lost = min 255 (c.lost + 1)) := by
  obtain ⟨hq, hl⟩ := Clp.putLive_queue c d v
  rw [Clp.setLive_of_change h, if_pos hn]
  refine ⟨fun hx => ?_, fun hx => ?_⟩
  · rw [Clp.send_of_short rfl (by rw [hq]; exact hx), hq, Clp.isLatched_putLive]
    simp
  · rw [Clp.send_of_long rfl (by rw [hq]; exact hx), hq, hl]
    exact ⟨rfl, rfl⟩

/-- Settles O53: a change is `putLive` followed by its notice, which is sent or lost. -/
theorem conditionChangesAreNoticed : Obligations.ConditionChangesAreNoticed := by
  intro c d
  dsimp only
  refine ⟨by simp, by simp, fun e he => ?_, by simp [Clp.latch_isLatched], by simp,
    ?_, Clp.setLive_of_same, Clp.setLive_of_same, fun h => by simp [Clp.setLive_isLatched, h],
    fun hq => ⟨fun h hs hm => ?_, fun h hs hm => ?_, fun hs hm => ?_⟩,
    fun hq => ⟨fun h hs hm => ?_, fun h hs hm => ?_, fun hs hm => ?_⟩, fun h => ⟨?_, ?_, ?_⟩, fun h => ?_⟩
  · have hd : d.index ≠ e.index := fun x => he (Condition.index_injective x).symm
    simp [Clp.setLive_isLive, Clp.setLive_isLatched, Clp.latch_isLatched, hd, Ne.symm he]
  · unfold Clp.setLive
    split
    · rfl
    · dsimp only
      split <;> simp [Clp.putLive]
  · simpa using (Clp.setLive_noticed h (Clp.liveNotice_true hs hm)).1 hq
  · simpa using (Clp.setLive_noticed h (Clp.liveNotice_both false hs hm)).1 hq
  · rw [Clp.latch_of_mode hs hm, Clp.send_of_short rfl (by exact hq)]
  · exact (Clp.setLive_noticed h (Clp.liveNotice_true hs hm)).2 hq
  · exact (Clp.setLive_noticed h (Clp.liveNotice_both false hs hm)).2 hq
  · rw [Clp.latch_of_mode hs hm, Clp.send_of_long rfl (by exact hq)]
    exact ⟨rfl, rfl⟩
  · exact Clp.setLive_silent (Clp.liveNotice_off true h)
  · exact Clp.setLive_silent (Clp.liveNotice_off false h)
  · exact Clp.latch_silent h
  · refine Clp.setLive_silent ?_
    unfold Clp.liveNotice
    simp [h]

end Sys2Proof.Machine
end

section
/-! PROOF. The timers, the clock, the horn and the lamp, and the requests of LOG. -/

namespace Sys2Proof.Machine

/-! ## Notices that are no LIVE join the end -/

/-- A notice that is no LIVE adds at most itself to the end of the queue. -/
theorem Clp.send_extends {n : Notice} (c : Clp) (hn : (TxFrame.notice n).isLive = false) :
    ∃ e : List TxFrame, (c.send n).queue = c.queue ++ e ∧ e.length ≤ 1 := by
  rcases Nat.lt_or_ge c.queue.length 32 with h | h
  · rw [Clp.send_of_short hn h]
    exact ⟨_, rfl, Nat.le_refl 1⟩
  · rw [Clp.send_of_long hn h]
    exact ⟨[], by simp, by simp⟩

theorem Clp.setLive_extends (c : Clp) (d : Condition) (v : Bool) :
    ∃ e : List TxFrame, (c.setLive d v).queue = c.queue ++ e ∧ e.length ≤ 1 := by
  by_cases h : c.isLive d = v
  · rw [Clp.setLive_of_same h]
    exact ⟨[], by simp, by simp⟩
  · rw [Clp.setLive_of_change (by cases v <;> simpa using h)]
    split
    · rw [← (Clp.putLive_queue c d v).1]
      exact Clp.send_extends _ rfl
    · exact ⟨[], by simp [Clp.putLive_queue], by simp⟩

theorem Clp.latch_extends (c : Clp) (d : Condition) :
    ∃ e : List TxFrame, (c.latch d).queue = c.queue ++ e ∧ e.length ≤ 1 := by
  unfold Clp.latch
  dsimp only
  split
  · exact Clp.send_extends { c with latched := c.latched ||| d.bit } rfl
  · exact ⟨[], by simp, by simp⟩

/-! ## The tip link's errors (R34 to R36) -/

/-- Settles O20: each is `transferErrors` on the state as the command finds it. -/
theorem errorsAreTransferred : Obligations.ErrorsAreTransferred := by
  intro s
  have hlive : ∀ u, (transferErrors u).clp.isLive .tipErrOverflow = false := fun u => Clp.setLive_self _ _ _
  dsimp only
  refine ⟨fun hp => ⟨congrArg _ (whenPowered_eq hp), fun hm => ?_, fun ha => ?_⟩,
    fun hs => ⟨fun hm => ?_, fun ha => refusedWith_of hs ?_⟩⟩
  · refine congrArg _ ((whenPowered_eq hp).trans ?_)
    unfold expireReport
    rw [hm]
  · refine ⟨expireReport s, congrArg _ (whenPowered_eq hp), ?_⟩
    unfold expireReport
    rw [ha]
    dsimp only
    split
    · rename_i h0
      refine ⟨⟨rfl, rfl, hlive _⟩, fun hne => absurd h0 hne, fun _ hl => ?_⟩
      unfold transferErrors setLive
      rw [Clp.setLive_of_same hl]
    · rename_i h0
      refine ⟨⟨rfl, rfl, ?_⟩, fun _ hq => ?_, fun h => absurd h h0⟩
      · simpa [notify, Clp.isLive] using hlive { s with tlc := { s.tlc with reportTimer := some 1000 } }
      · obtain ⟨e, he, hl⟩ := Clp.setLive_extends s.clp .tipErrOverflow false
        have hlen : (s.clp.setLive .tipErrOverflow false).queue.length < 32 := by
          rw [he, List.length_append]
          omega
        unfold notify transferErrors setLive
        rw [Clp.send_of_short rfl hlen]
        simp
  · refine ⟨transferErrors (s.replied 0x0B .ok (u16 s.tlc.errorCounter)), ?_, ⟨rfl, rfl, hlive _⟩, ?_⟩
    · show execReportTipErrors s = _
      unfold execReportTipErrors
      rw [hm]
      exact congrArg _ (answer_short hs (by simp))
    · obtain ⟨e, he, -⟩ := Clp.setLive_extends (s.replied 0x0B .ok (u16 s.tlc.errorCounter)).clp
        .tipErrOverflow false
      unfold transferErrors setLive
      dsimp only
      rw [he, replied_short (by simp)]
      simp
  · show execReportTipErrors s = _
    unfold execReportTipErrors
    rw [ha]

/-! ## Compensation (R61) -/

/-- Settles O24: `compensatedK` by the latest temperature. -/
theorem compensationFollowsTheTemperature : Obligations.CompensationFollowsTheTemperature := by
  intro s hp
  refine ⟨updateCompensation s, congrArg _ (whenPowered_eq hp), rfl, fun h => ?_, fun n hn hne =>
    ⟨clamp (-40) 85 n, clamp_isClamped _ _ _ (by decide), ?_⟩⟩
  · unfold updateCompensation compensatedK
    rcases h with h | h <;> simp [h]
  · unfold updateCompensation compensatedK
    simp [hn, hne]

/-! ## The clock (R130 to R133) -/

theorem Stamp.next_of_lt {t : Stamp} (h : t.ms.val < 999) :
    t.next.sec = t.sec ∧ t.next.ms.val = t.ms.val + 1 := by
  unfold Stamp.next
  rw [if_neg (by omega)]
  refine ⟨rfl, ?_⟩
  rw [Fin.val_add]
  exact Nat.mod_eq_of_lt (by show t.ms.val + 1 < 1000; omega)

theorem Stamp.next_of_last {t : Stamp} (h : t.ms.val = 999) :
    t.next.sec = t.sec + 1 ∧ t.next.ms.val = 0 := by
  unfold Stamp.next
  rw [if_pos h]
  exact ⟨rfl, rfl⟩

/-- A count of milliseconds as seconds modulo 2^32 and milliseconds (R132). -/
theorem Stamp.ofMs_sec (x : Int) : ((Stamp.ofMs x).sec.toNat : Int) = x / 1000 % 4294967296 := by
  unfold Stamp.ofMs
  rw [BitVec.toNat_ofInt]
  omega

theorem Stamp.ofMs_ms (x : Int) : ((Stamp.ofMs x).ms.val : Int) = x % 1000 := by
  show ((x % 1000).toNat % 1000 : Nat) = x % 1000
  omega

/-- The seconds' difference modulo 2^32 (R131). -/
theorem Stamp.since_eq (a b : Stamp) :
    a.since b = ((a.sec.toNat : Int) - b.sec.toNat) % 4294967296 * 1000 + a.ms.val - b.ms.val := by
  unfold Stamp.since
  rw [BitVec.toNat_sub]
  omega

/-- A running stamp moves by the exact step, modulo the seconds' range (R132). -/
theorem Stamp.toMs_shift (b : Stamp) (step : Int) :
    ((b.shift step).toMs - b.toMs - step) % 4294967296000 = 0 := by
  unfold Stamp.shift
  generalize hx : b.toMs + step = x
  have hs := Stamp.ofMs_sec x
  have hm := Stamp.ofMs_ms x
  show ((Stamp.ofMs x).sec.toNat * 1000 + (Stamp.ofMs x).ms.val - b.toMs - step) % 4294967296000 = 0
  omega

/-- The time a condition has held is the same after SET CLOCK as before it (R132). -/
theorem Stamp.since_shift (n : BitVec 32) (c b : Stamp) (h0 : 0 ≤ c.since b)
    (h1 : c.since b < 4294967294000) :
    (⟨n, 0⟩ : Stamp).since (b.shift (clockStep n c)) = c.since b := by
  rw [Stamp.since_eq] at h0 h1 ⊢
  rw [Stamp.since_eq]
  unfold Stamp.shift clockStep
  generalize hx : b.toMs + ((n.toNat : Int) * 1000 - c.toMs) = x
  have hs := Stamp.ofMs_sec x
  have hm := Stamp.ofMs_ms x
  have hn := n.isLt
  have hcb := c.ms.isLt
  have hbb := b.ms.isLt
  unfold Stamp.toMs at hx
  show ((n.toNat : Int) - (Stamp.ofMs x).sec.toNat) % 4294967296 * 1000 + (0 : Nat)
    - (Stamp.ofMs x).ms.val = _
  rw [hs, hm]
  omega

/-- A group that ends changes what a section's coils are driven with, and nothing else (R173). -/
theorem Vdr.passMillisecond_section (d : Vdr) (v : Section) :
    d.passMillisecond.sections.get v
      = { d.sections.get v with driven := (d.passMillisecond.sections.get v).driven } := by
  unfold Vdr.passMillisecond
  dsimp only
  split <;> split <;> simp [SectionState.beginGroup]

/-- Settles O36: `passMillisecond`, and `Stamp.shift` for the running stamps. -/
theorem clockRunsAndIsSet : Obligations.ClockRunsAndIsSet := by
  refine ⟨fun s hp => ⟨passMillisecond s, congrArg _ (whenPowered_eq hp), rfl, Stamp.next_of_lt,
    Stamp.next_of_last, rfl, Vdr.passMillisecond_section s.vdr⟩, fun n s hs =>
    ⟨takeClock n (s.replied 0x38 .ok []), fun b => b.shift (clockStep n s.log.clock),
      congrArg _ (answer_ok hs), rfl, fun l => ?_, fun b =>
        ⟨Stamp.toMs_shift b _, Stamp.since_shift n s.log.clock b⟩⟩,
    fun s hs => congrArg _ (answer_short hs (by simp))⟩
  show (s.iau.lines.map _).get l = _
  rw [PerLine.get_map]
  rfl

/-! ## Horn and lamp (R157 to R161) -/

/-- A tone is the first segment of a pattern with a tone, and the third of LINK (R158). -/
theorem Mlm.toneOn_iff {m : Mlm} (h : m.segment < m.pattern.segments.length) :
    m.toneOn = true ↔ m.pattern = .continuous ∨ (m.pattern = .derate ∧ m.segment = 0)
      ∨ (m.pattern = .link ∧ (m.segment = 0 ∨ m.segment = 2)) := by
  unfold Mlm.toneOn
  generalize m.segment = i at h ⊢
  cases hp : m.pattern <;> rw [hp] at h <;> simp only [HornPattern.segments, List.length] at h <;>
    interval_cases i <;> decide

theorem toggleHorn_of_tone {s : State} (h : s.mlm.toneOn = true) :
    toggleHorn s = { s with
      mlm := { s.mlm with hornHigh := !s.mlm.hornHigh, waveTimer := waveTime s.mlm.horn } } := if_pos h

theorem toggleHorn_of_silence {s : State} (h : ¬s.mlm.toneOn = true) : toggleHorn s = s := if_neg h

/-- A pattern with a cycle enters its next segment (R157). -/
theorem stepPattern_of_segment {s : State} {p : HornPattern} {i : Nat} (hp : s.mlm.pattern = p)
    (hi : s.mlm.segment = i) : stepPattern s = if (p.segmentAt i).2.isSome then
      { s with mlm := s.mlm.enterSegment p ((i + 1) % p.segments.length) } else s := by
  subst hp hi
  rfl

theorem Mlm.enterSegment_same {m : Mlm} {p : HornPattern} (hp : m.pattern = p) (i : Nat) :
    m.enterSegment p i = { m with
      segment := i, segmentTimer := (p.segmentAt i).2, hornHigh := (p.segmentAt i).1
      waveTimer := if (p.segmentAt i).1 then waveTime m.horn else none } := by
  subst hp
  rfl

theorem HornSettings.accepted_iff (x : HornSettings) :
    x.accepted = true ↔ (x.p = 1 ∨ x.p = 2 ∨ x.p = 4 ∨ x.p = 8) ∧ x.n ≤ 63 := by
  simp [HornSettings.accepted]

/-- Settles O40: each command by the segment of the pattern in force. -/
theorem hornAndLampFollowTheirCycles : Obligations.HornAndLampFollowTheirCycles := by
  intro s hp
  dsimp only
  refine ⟨fun hseg => ?_, fun h => congrArg _ ((whenPowered_eq hp).trans (if_pos h)), fun h =>
    congrArg _ ((whenPowered_eq hp).trans (if_neg h))⟩
  have step : ∀ {t : State}, stepPattern s = t → exec .hornPatternStep s = .next t := fun h =>
    congrArg _ ((whenPowered_eq hp).trans h)
  have enters : ∀ (p : HornPattern) (i n ms : Nat) (high : Bool), s.mlm.pattern = p → s.mlm.segment = i →
      (i + 1) % p.segments.length = n → p.segmentAt n = (high, some ms) → (p.segmentAt i).2.isSome = true →
      exec .hornPatternStep s = .next { s with mlm := { s.mlm with
        segment := n, segmentTimer := some ms, hornHigh := high
        waveTimer := if high then waveTime s.mlm.horn else none } } := by
    intro p i n ms high h hi hn hs ht
    rw [step (stepPattern_of_segment h hi), if_pos ht, hn, Mlm.enterSegment_same h, hs]
  refine ⟨fun ht => ?_, fun ht => ?_, fun h => ?_, fun h => ⟨fun h0 => ?_, fun h0 => ?_⟩,
    fun h => ⟨fun h0 => ?_, fun h0 => ?_, fun h0 => ?_, fun h0 => ?_⟩, fun hs x => ⟨fun hx => ?_, fun hx => ?_⟩⟩
  · exact congrArg _ ((whenPowered_eq hp).trans (toggleHorn_of_tone ((Mlm.toneOn_iff hseg).mpr ht)))
  · exact congrArg _ ((whenPowered_eq hp).trans
      (toggleHorn_of_silence fun hx => ht ((Mlm.toneOn_iff hseg).mp hx)))
  · refine step ?_
    have h0 : s.mlm.segment = 0 := by rcases h with h | h <;> rw [h] at hseg <;> exact Nat.lt_one_iff.mp hseg
    rcases h with h | h <;> rw [stepPattern_of_segment h h0] <;> rfl
  · exact enters .derate 0 1 600 false h h0 rfl rfl rfl
  · exact enters .derate 1 0 200 true h h0 rfl rfl rfl
  · exact enters .link 0 1 100 false h h0 rfl rfl rfl
  · exact enters .link 1 2 100 true h h0 rfl rfl rfl
  · exact enters .link 2 3 1700 false h h0 rfl rfl rfl
  · exact enters .link 3 0 100 true h h0 rfl rfl rfl
  · have he : exec (.setHorn x) s
        = .next { s.replied 0x41 .ok [] with mlm := s.mlm.takeHorn x } :=
      congrArg _ (answer_of_pos hs ((HornSettings.accepted_iff x).mpr hx))
    rw [he]
    unfold Mlm.takeHorn
    refine ⟨fun ht => ?_, fun ht => ?_⟩
    · rw [if_pos ((Mlm.toneOn_iff hseg).mpr ht)]
      rfl
    · rw [if_neg fun h => ht ((Mlm.toneOn_iff hseg).mp h)]
  · exact refusedWith_of hs (congrArg _ (if_neg fun ha => hx ((HornSettings.accepted_iff x).mp ha)))

end Sys2Proof.Machine
end

section
/-! PROOF. One evaluation of MLM: its figures, stage, factors and warnings on the inputs as they stand, said once
for SET LIMITER and for every command that ends with an evaluation. -/

namespace Sys2Proof.Machine

/-! ## Figures (R147 to R151) -/

theorem roundDiv_nonneg {n d : Int} (hn : 0 ≤ n) (hd : 0 < d) : 0 ≤ roundDiv n d := by
  unfold roundDiv
  rw [if_pos (by simp; omega)]
  exact Int.natCast_nonneg _

theorem loadMoment_isRounded (net : Int) (tare reach : Nat) :
    isRounded ((max net 0 + tare) * reach) 10000 (loadMoment net tare reach) := by
  have hn : 0 ≤ (max net 0 + tare) * (reach : Int) := Int.mul_nonneg (by omega) (by omega)
  unfold loadMoment
  rw [Int.toNat_of_nonneg (roundDiv_nonneg hn (by decide))]
  exact roundDiv_isRounded _ _ (by decide)

theorem derateFor_some (l : LimiterSettings) (x : Int) :
    (derateFor l (some x) : Int) = max (l.dMin : Int) ((10000 - l.kd * max x 0) / 10) := by
  unfold derateFor floorDiv
  dsimp only
  split <;> omega

/-- MLM after an evaluation's figures, stage and factors, before its warnings. -/
def unwarned (s : State) : Mlm :=
  let stage := nextStage s.mlm.stage (momentFigures s).utilisation (momentFigures s).tiltPass
    s.mlm.limiter.warn
  let factor := momentFactor stage (momentFigures s).utilisation s.mlm.limiter.warn
  { s.mlm with
    figures := momentFigures s
    stage := stage
    degraded := isDegraded s
    momentFactor := factor
    factors := factorsFor (if isDegraded s then min factor 300 else factor)
      (cabBlock s.geo.zonesUsed s.geo.position).2
    slewCase := (cabBlock s.geo.zonesUsed s.geo.position).1 }

theorem evaluatedMlm_eq (s : State) : evaluatedMlm s
    = ((unwarned s).setLamp s.mlm.stage (unwarned s).stage).selectPattern
      (patternFor (unwarned s).stage s.tlc.link) := rfl

/-- What an evaluation leaves in MLM beside the pattern and the lamp. -/
theorem evaluatedMlm_frame (s : State) :
    (evaluatedMlm s).figures = momentFigures s
      ∧ (evaluatedMlm s).stage = nextStage s.mlm.stage (momentFigures s).utilisation
          (momentFigures s).tiltPass s.mlm.limiter.warn
      ∧ (evaluatedMlm s).degraded = isDegraded s
      ∧ (evaluatedMlm s).momentFactor = momentFactor (evaluatedMlm s).stage (momentFigures s).utilisation
          s.mlm.limiter.warn
      ∧ (evaluatedMlm s).factors = factorsFor
          (if isDegraded s then min (evaluatedMlm s).momentFactor 300 else (evaluatedMlm s).momentFactor)
          (cabBlock s.geo.zonesUsed s.geo.position).2
      ∧ (evaluatedMlm s).slewCase = (cabBlock s.geo.zonesUsed s.geo.position).1
      ∧ (evaluatedMlm s).limiter = s.mlm.limiter ∧ (evaluatedMlm s).horn = s.mlm.horn := by
  unfold evaluatedMlm Mlm.selectPattern Mlm.setLamp Mlm.enterSegment
  dsimp only
  repeat' split
  all_goals simp

/-- The net value used and its basis by the lift state (R147). -/
theorem netUsed_cases (s : State) :
    (s.ltr.state = .weighed → ∀ q, s.ltr.result = some q → netUsed s = (q.net, .result))
      ∧ (∀ x, s.ltr.state ≠ .weighed → s.wen.liveEstimate = some x → netUsed s = (x, .live))
      ∧ (s.wen.liveEstimate = none → s.ltr.state = .idle ∨ s.ltr.state = .gripped →
        netUsed s = (0, .none))
      ∧ (s.wen.liveEstimate = none → s.ltr.state = .lifted →
        netUsed s = ((s.ltr.settings.liftOffThreshold : Int), Basis.threshold)) := by
  unfold netUsed
  refine ⟨fun h q hq => ?_, fun x h hx => ?_, fun hx h => ?_, fun hx h => ?_⟩
  · simp [h, hq]
  · cases hs : s.ltr.state <;> simp_all
  · rcases h with h | h <;> simp [h, hx]
  · simp [h, hx]

theorem evaluate_figured (s : State) : (evaluate s).figured := by
  have hf : (evaluate s).mlm.figures = momentFigures s := (evaluatedMlm_frame s).1
  have hl : (evaluate s).mlm.limiter = s.mlm.limiter := (evaluatedMlm_frame s).2.2.2.2.2.2.1
  obtain ⟨weighed, live, idle, lifted⟩ := netUsed_cases s
  unfold State.figured
  rw [hf, hl]
  refine ⟨fun h q hq => ?_, fun x h hx => ?_, fun hx h => ?_, fun hx h => ?_, rfl, fun p hp => ?_, fun hp => ?_,
    loadMoment_isRounded _ _ _, rfl, rfl, fun ht => ?_, fun x hx => ?_, rfl, rfl, fun hp => if_pos hp,
    fun hp => ?_, ?_⟩
  · exact Prod.mk.inj (weighed h q hq)
  · exact Prod.mk.inj (live x h hx)
  · exact Prod.mk.inj (idle hx h)
  · exact Prod.mk.inj (lifted hx h)
  · exact Prod.mk.inj (show reachUsed s.geo = _ by unfold reachUsed; rw [show s.geo.position = some p from hp])
  · exact Prod.mk.inj (show reachUsed s.geo = _ by unfold reachUsed; rw [show s.geo.position = none from hp]; rfl)
  · show derateFor _ s.geo.tau = _
    rw [show s.geo.tau = none from ht]
    rfl
  · show (derateFor _ s.geo.tau : Int) = _
    rw [show s.geo.tau = some x from hx, derateFor_some]
  · exact (if_neg hp).trans (Nat.min_comm _ _)
  · show tiltTest s.geo.tilt s.sto.working.tilt = true ↔ ∃ x, s.geo.tilt = some x ∧ x < s.sto.working.tilt
    unfold tiltTest
    cases s.geo.tilt <;> simp

/-! ## Stage and factors (R151 to R156) -/

theorem momentFactor_derate (u warn : Nat) :
    isClamped 0 1000 ((1000 - (u : Int)) * 1000 / (1000 - warn)) (momentFactor .derate u warn) := by
  have hc := clamp_mem 0 1000 (floorDiv ((1000 - (u : Int)) * 1000) (1000 - warn)) (by decide)
  unfold momentFactor
  dsimp only
  rw [Int.toNat_of_nonneg hc.1]
  exact clamp_isClamped _ _ _ (by decide)

/-- The 3° before a slew angle b reaches a, going clockwise (R155). -/
theorem clockwise_inRange (a b : Nat) :
    Nat.inRange 1 30 (clockwise a b) = true ↔ ∃ k : Int, 1 ≤ k ∧ k ≤ 30 ∧ ((a : Int) + k - b) % 3600 = 0 := by
  unfold Nat.inRange clockwise
  simp only [Bool.and_eq_true, decide_eq_true_eq]
  constructor
  · rintro ⟨h1, h2⟩
    exact ⟨((b : Int) - a) % 3600, by omega, by omega, by omega⟩
  · rintro ⟨k, h1, h2, h3⟩
    omega

theorem inSector_iff (a b phi : Nat) : inSector a b phi = true
    ↔ (a ≤ b ∧ a ≤ phi ∧ phi ≤ b) ∨ (b < a ∧ (a ≤ phi ∨ phi ≤ b)) := by
  unfold inSector
  split <;> simp <;> omega

/-- The cab-sector block is R155's table. -/
theorem cabBlock_sectored (m : Mlm) (z : ZoneSettings) (position : Option Position)
    (hf : m.factors.slew = (cabBlock z position).2) (hc : m.slewCase = (cabBlock z position).1) :
    m.sectored z position := by
  unfold Mlm.sectored
  rw [hf, hc]
  refine ⟨fun h => by rw [h]; exact ⟨rfl, rfl⟩, fun p hp => ?_⟩
  subst hp
  dsimp only
  rw [← inSector_iff]
  have hb := clockwise_inRange p.slew z.cabFrom
  have ha : Nat.inRange 1 30 (clockwise z.cabTo p.slew) = true
      ↔ ∃ k : Int, 1 ≤ k ∧ k ≤ 30 ∧ ((p.slew : Int) - k - z.cabTo) % 3600 = 0 := by
    rw [clockwise_inRange]
    exact exists_congr fun k => and_congr_right fun _ => and_congr_right fun _ => by omega
  rw [← hb, ← ha]
  have hd1 : ((clockwise z.cabFrom p.slew : Nat) : Int) = ((p.slew : Int) - z.cabFrom) % 3600 := by
    unfold clockwise; omega
  have hd2 : ((clockwise p.slew z.cabTo : Nat) : Int) = ((z.cabTo : Int) - p.slew) % 3600 := by
    unfold clockwise; omega
  rw [← hd1, ← hd2]
  unfold cabBlock
  refine ⟨fun h => by simp [h], fun h hs => ?_, fun h hs => ?_⟩
  · simp only [if_neg (Nat.not_le.mpr h), if_pos hs]
    by_cases hx : clockwise p.slew z.cabTo < clockwise z.cabFrom p.slew
    · simp only [if_pos hx]
      exact ⟨trivial, fun h1 => by omega, fun _ => trivial⟩
    · simp only [if_neg hx]
      exact ⟨trivial, fun _ => trivial, fun h1 => by omega⟩
  · simp only [if_neg (Nat.not_le.mpr h), if_neg hs]
    cases Nat.inRange 1 30 (clockwise p.slew z.cabFrom) <;>
      cases Nat.inRange 1 30 (clockwise z.cabTo p.slew) <;> simp

/-! ## Warnings (R157 to R159) -/

/-- The pattern in force runs on, and another begins its cycle. -/
theorem Mlm.selectPattern_of_eq {m : Mlm} {p : HornPattern} (h : m.pattern = p) :
    m.selectPattern p = m := if_pos h

theorem Mlm.selectPattern_of_ne {m : Mlm} {p : HornPattern} (h : m.pattern ≠ p) :
    m.selectPattern p = m.enterSegment p 0 := if_neg h

theorem Mlm.selectPattern_pattern (m : Mlm) (p : HornPattern) : (m.selectPattern p).pattern = p := by
  by_cases h : m.pattern = p
  · rw [Mlm.selectPattern_of_eq h, h]
  · rw [Mlm.selectPattern_of_ne h]
    rfl

theorem Mlm.setLamp_frame (m : Mlm) (a b : Stage) : (m.setLamp a b).pattern = m.pattern
    ∧ (m.setLamp a b).segment = m.segment ∧ (m.setLamp a b).hornHigh = m.hornHigh
    ∧ (m.setLamp a b).segmentTimer = m.segmentTimer ∧ (m.setLamp a b).waveTimer = m.waveTimer
    ∧ (m.setLamp a b).horn = m.horn := by
  unfold Mlm.setLamp
  repeat' split
  all_goals simp

/-- The horn after a stage change and a selection (R157, R158). -/
theorem Mlm.selectPattern_horn (m : Mlm) (before after : Stage) (p : HornPattern) :
    let x := (m.setLamp before after).selectPattern p
    (p = m.pattern → x.segment = m.segment ∧ x.hornHigh = m.hornHigh
        ∧ x.segmentTimer = m.segmentTimer ∧ x.waveTimer = m.waveTimer)
      ∧ (p ≠ m.pattern → x.segment = 0 ∧ x.hornHigh = (p.segmentAt 0).1
        ∧ x.segmentTimer = (p.segmentAt 0).2
        ∧ x.waveTimer = if (p.segmentAt 0).1 then waveTime m.horn else none) := by
  have lamp := m.setLamp_frame before after
  dsimp only
  refine ⟨fun h => ?_, fun h => ?_⟩
  · rw [Mlm.selectPattern_of_eq (lamp.1.trans h.symm)]
    simp [lamp]
  · rw [Mlm.selectPattern_of_ne fun he => h (he.symm.trans lamp.1)]
    simp [Mlm.enterSegment, lamp]

/-- An evaluation's horn: the pattern of its stage, run on when it was in force and begun otherwise. -/
theorem evaluatedMlm_horn (s : State) :
    (evaluatedMlm s).pattern = patternFor (evaluatedMlm s).stage s.tlc.link
      ∧ ((evaluatedMlm s).pattern = s.mlm.pattern → (evaluatedMlm s).segment = s.mlm.segment
        ∧ (evaluatedMlm s).hornHigh = s.mlm.hornHigh ∧ (evaluatedMlm s).segmentTimer = s.mlm.segmentTimer
        ∧ (evaluatedMlm s).waveTimer = s.mlm.waveTimer)
      ∧ ((evaluatedMlm s).pattern ≠ s.mlm.pattern → (evaluatedMlm s).segment = 0
        ∧ (evaluatedMlm s).hornHigh = ((evaluatedMlm s).pattern.segmentAt 0).1
        ∧ (evaluatedMlm s).segmentTimer = ((evaluatedMlm s).pattern.segmentAt 0).2
        ∧ (evaluatedMlm s).waveTimer
          = if ((evaluatedMlm s).pattern.segmentAt 0).1 then waveTime s.mlm.horn else none) := by
  have hs : (evaluatedMlm s).stage = (unwarned s).stage := (evaluatedMlm_frame s).2.1
  have hp : (evaluatedMlm s).pattern = patternFor (unwarned s).stage s.tlc.link :=
    Mlm.selectPattern_pattern _ _
  rw [hs, hp]
  exact ⟨rfl, Mlm.selectPattern_horn (unwarned s) _ _ _⟩

/-- An evaluation's lamp by its stage (R159). -/
theorem evaluatedMlm_lamp (s : State) :
    ((evaluatedMlm s).stage = .free → (evaluatedMlm s).lampHigh = false ∧ (evaluatedMlm s).flashTimer = none)
      ∧ ((evaluatedMlm s).stage = .derate →
        (evaluatedMlm s).lampHigh = true ∧ (evaluatedMlm s).flashTimer = none)
      ∧ (s.mlm.stage ≠ .hold → (evaluatedMlm s).stage = .hold →
        (evaluatedMlm s).lampHigh = true ∧ (evaluatedMlm s).flashTimer = some 250) := by
  rw [(evaluatedMlm_frame s).2.1]
  unfold evaluatedMlm
  dsimp only
  have pattern : ∀ (m : Mlm) (p : HornPattern), (m.selectPattern p).lampHigh = m.lampHigh
      ∧ (m.selectPattern p).flashTimer = m.flashTimer := fun m p => by
    by_cases h : m.pattern = p
    · rw [Mlm.selectPattern_of_eq h]
      exact ⟨rfl, rfl⟩
    · rw [Mlm.selectPattern_of_ne h]
      exact ⟨rfl, rfl⟩
  simp only [pattern]
  refine ⟨fun h => ?_, fun h => ?_, fun hb h => ?_⟩
  · rw [h]
    exact ⟨rfl, rfl⟩
  · rw [h]
    exact ⟨rfl, rfl⟩
  · rw [h]
    simp [Mlm.setLamp, hb]

/-! ## The evaluation -/

theorem evaluate_limited (s : State) : (evaluate s).limited s.mlm.stage := by
  obtain ⟨hf, hs, hd, hm, hx, hc, hl, -⟩ := evaluatedMlm_frame s
  obtain ⟨free, derate, -⟩ := evaluatedMlm_lamp s
  have hp := (evaluatedMlm_horn s).1
  have test : ∀ u : Nat, ∀ p : Bool, (1000 ≤ u || !p) = true ↔ 1000 ≤ u ∨ p = false := by simp
  unfold State.limited
  refine ⟨fun hb h => ?_, fun hb h => ?_, fun hb h => ?_, fun hb => ?_, fun h => ?_, fun h => ?_, fun h => ?_,
    ?_, cabBlock_sectored _ _ _ ?_ hc, ?_, rfl, ?_, fun h => ?_, fun h => ?_, fun h => ?_, free, derate⟩
  · show (evaluatedMlm s).stage = _
    rw [show (evaluate s).mlm.figures = _ from hf, ← test] at h
    rw [hs]
    cases hb' : s.mlm.stage <;> simp_all [nextStage]
  · show (evaluatedMlm s).stage = if (evaluatedMlm s).limiter.warn ≤ (evaluatedMlm s).figures.utilisation
      then _ else _
    rw [show (evaluate s).mlm.figures = _ from hf, ← test] at h
    rw [hs, hf, hl, hb]
    simp only [nextStage, if_neg h]
  · show (evaluatedMlm s).stage = if (evaluatedMlm s).figures.utilisation + 30 ≤ (evaluatedMlm s).limiter.warn
      then _ else _
    rw [show (evaluate s).mlm.figures = _ from hf, ← test] at h
    rw [hs, hf, hl, hb]
    simp only [nextStage, if_neg h]
  · show (evaluatedMlm s).stage = if (evaluatedMlm s).figures.utilisation ≤ 970
      ∧ (evaluatedMlm s).figures.tiltPass = true then _ else _
    rw [hs, hf, hb]
    simp [nextStage]
  · exact hm.trans (by rw [show (evaluatedMlm s).stage = _ from h]; rfl)
  · exact hm.trans (by rw [show (evaluatedMlm s).stage = _ from h]; rfl)
  · show isClamped 0 1000 ((1000 - ((evaluatedMlm s).figures.utilisation : Int)) * 1000
      / (1000 - (evaluatedMlm s).limiter.warn)) (evaluatedMlm s).momentFactor
    rw [hm, show (evaluatedMlm s).stage = _ from h, hf, hl]
    exact momentFactor_derate _ _
  · show (evaluatedMlm s).degraded = true ↔ s.wen.source = .none ∨ s.geo.valid = false
    rw [hd]
    simp [isDegraded]
  · exact (congrArg PerSection.slew hx).trans rfl
  · show (evaluatedMlm s).factors = ⟨(evaluatedMlm s).factors.slew, _, _, _, _, _⟩
    rw [show (evaluate s).mlm.degraded = _ from hd, show (evaluate s).mlm.momentFactor = (evaluatedMlm s).momentFactor
      from rfl, hx]
    rfl
  · show (s.clp.setLive .limitHold ((evaluatedMlm s).stage == .hold)).isLive .limitHold = true
      ↔ (evaluatedMlm s).stage = .hold
    rw [Clp.setLive_self]
    simp
  · exact hp.trans (by rw [show (evaluatedMlm s).stage = _ from h]; rfl)
  · exact hp.trans (by rw [show (evaluatedMlm s).stage = _ from h]; rfl)
  · exact hp.trans (by rw [show (evaluatedMlm s).stage = _ from h]; rfl)

theorem LimiterSettings.accepted_iff (x : LimiterSettings) : x.accepted = true
    ↔ x.kd ≤ 100 ∧ 100 ≤ x.dMin ∧ x.dMin ≤ 1000 ∧ 700 ≤ x.warn ∧ x.warn ≤ 950 := by
  simp [LimiterSettings.accepted, Nat.inRange, and_assoc]

/-- Settles O38: SET LIMITER is one evaluation under the new settings. -/
theorem limiterSettingsAreEvaluated : Obligations.LimiterSettingsAreEvaluated := by
  intro x s hs
  dsimp only
  rw [← LimiterSettings.accepted_iff]
  refine ⟨fun hx => ?_, fun hx => refusedWith_of hs (congrArg _ (if_neg hx))⟩
  let u : State := { s.replied 0x40 .ok [] with mlm := { s.mlm with limiter := x } }
  obtain ⟨-, -, -, -, -, -, hl, hh⟩ := evaluatedMlm_frame u
  obtain ⟨hp, same, other⟩ := evaluatedMlm_horn u
  refine ⟨evaluate u, congrArg _ (answer_of_pos hs hx), evaluate_figured u, evaluate_limited u, hl, hh, rfl, rfl,
    (evaluatedMlm_lamp u).2.2, same, fun hne => ?_⟩
  obtain ⟨hseg, hhigh, htimer, hwave⟩ := other hne
  refine ⟨hseg, fun h => ?_, fun h => ?_, fun h => ?_, fun h => ?_⟩
  · exact htimer.trans (by rw [show (evaluatedMlm u).pattern = _ from h]; rfl)
  · exact htimer.trans (by rw [show (evaluatedMlm u).pattern = _ from h]; rfl)
  · exact ⟨hhigh.trans (by rw [show (evaluatedMlm u).pattern = _ from h]; rfl),
      hwave.trans (by rw [show (evaluatedMlm u).pattern = _ from h]; rfl)⟩
  · have ht : ((evaluatedMlm u).pattern.segmentAt 0).1 = true := by
      cases hq : (evaluatedMlm u).pattern <;> first | rfl | exact absurd hq h
    exact ⟨hhigh.trans ht, hwave.trans (if_pos ht)⟩

end Sys2Proof.Machine
end

section
/-! PROOF. Requests of LOG, IAU, GEO, LTR and TAL that are taken whole or refused. -/

namespace Sys2Proof.Machine

/-! ## LOG (R138 to R143) -/

theorem Log.append_eq (l : Log) (p : EntryPart) : l.append p = { l with
    ring := (if 128 ≤ l.ring.length then l.ring.drop 1 else l.ring)
      ++ [⟨l.nextSequence, l.clock, decide (128 ≤ l.ring.length), p⟩]
    nextSequence := l.nextSequence + 1 } := by
  unfold Log.append
  simp

theorem onOff_eq {n : Nat} (h : n ≤ 1) : onOff n = some (n == 0) := by
  interval_cases n <;> rfl

theorem onOff_none {n : Nat} (h : 2 ≤ n) : onOff n = none := by
  unfold onOff
  split <;> first | omega | rfl

theorem Entry.bytes_length (e : Entry) : e.bytes.length ≤ 30 := by
  have hp : e.part.bytes.length ≤ 18 := by
    cases e.part <;> simp [EntryPart.bytes]
  simp [Entry.bytes]
  omega

theorem length_flatMap_entries (l : List Entry) : (l.flatMap Entry.bytes).length ≤ 30 * l.length := by
  induction l with
  | nil => simp
  | cons e l ih =>
    have := e.bytes_length
    simp only [List.flatMap_cons, List.length_append, List.length_cons]
    omega

/-- Settles O37: `record_cases` for MARK, and `enablesOfFields` for SET LOG. -/
theorem logRequestsActOnTheRing : Obligations.LogRequestsActOnTheRing := by
  intro s hs
  refine ⟨fun hm => ?_, fun hm => ?_, fun f => ⟨fun hf => ?_, fun hf => ?_⟩, fun n hn => ?_, fun n h1 h4 h3 => ?_⟩
  · let answered := s.replied 0x3A .ok (1 :: u32 s.log.nextSequence.toNat)
    have he : exec .mark s = .next (makeMark answered) := by
      show execMark s = _
      unfold execMark
      rw [hm]
      exact congrArg _ (answer_short hs (by simp [opt]))
    refine ⟨_, markPart s, he, rfl, rfl, rfl, rfl, ?_⟩
    dsimp only
    rw [← Log.append_eq]
    rcases record_cases (.mark (markPart answered)) answered with ⟨hg, -⟩ | ⟨-, hr, e⟩ | ⟨-, hr, e⟩
    · exact absurd (hg.symm.trans hm) (by decide)
    · exact ⟨fun _ => e, fun h => absurd h hr⟩
    · exact ⟨fun h => absurd hr h, fun _ => e⟩
  · have he : exec .mark s = .next (makeMark (s.replied 0x3A .ok [0])) := by
      show execMark s = _
      unfold execMark
      rw [hm]
      exact congrArg _ (answer_short hs (by simp [opt]))
    rw [he]
    rcases record_cases (.mark (markPart (s.replied 0x3A .ok [0]))) (s.replied 0x3A .ok [0]) with
      ⟨-, e⟩ | ⟨hg, -⟩ | ⟨hg, -⟩
    · exact congrArg _ e
    · exact absurd (hg.symm.trans hm) (by decide)
    · exact absurd (hg.symm.trans hm) (by decide)
  · show execSetLog f s = _
    unfold execSetLog enablesOfFields
    obtain ⟨ha, hb, hc, hd, he⟩ := hf
    rw [onOff_eq ha, onOff_eq hb, onOff_eq hc, onOff_eq hd, onOff_eq he]
    exact congrArg _ (answer_ok hs)
  · refine refusedWith_of hs ?_
    have hn : enablesOfFields f = none := by
      unfold enablesOfFields
      rcases hf with h | h | h | h | h <;> rw [onOff_none h] <;> split <;> first | rfl | simp_all
    show execSetLog f s = _
    unfold execSetLog
    rw [hn]
  · refine refusedWith_of hs (congrArg _ (if_neg ?_))
    simp [Nat.inRange]
    omega
  · have hr : Nat.inRange 1 4 n = true := by simp [Nat.inRange]; omega
    have hd : readLogData n s.log = u8 (min n s.log.ring.length) ++ u8 (s.log.ring.length - n)
        ++ (s.log.ring.take n).flatMap Entry.bytes := by
      unfold readLogData
      dsimp only
      rw [List.length_take]
      congr 2
      congr 1
      omega
    rw [← hd]
    refine congrArg _ ((if_pos hr).trans (answer_parts h3 ?_))
    have hl := length_flatMap_entries (s.log.ring.take n)
    have ht := List.length_take_le n s.log.ring
    simp [readLogData] at hl ⊢
    omega

end Sys2Proof.Machine
end

section
/-! PROOF. The codes of the places and enumerations, and the settings that are taken whole or refused. -/

namespace Sys2Proof

/-! ## Codes -/

theorem Channel.ofCode_code (c : Channel) : Channel.ofCode c.code = some c := by cases c <;> rfl
theorem Line.ofCode_code (l : Line) : Line.ofCode l.code = some l := by cases l <;> rfl
theorem Section.ofCode_code (v : Section) : Section.ofCode v.code = some v := by cases v <;> rfl

theorem Channel.ofCode_none {n : Nat} (h : 9 ≤ n) : Channel.ofCode n = none := by
  unfold Channel.ofCode
  split <;> first | omega | rfl

theorem Line.ofCode_none {n : Nat} (h : 4 ≤ n) : Line.ofCode n = none := by
  unfold Line.ofCode
  split <;> first | omega | rfl

theorem Section.ofCode_none {n : Nat} (h : 6 ≤ n) : Section.ofCode n = none := by
  unfold Section.ofCode
  split <;> first | omega | rfl

namespace Machine

theorem LineMode.ofCode_code (m : LineMode) : LineMode.ofCode m.code = some m := by cases m <;> rfl
theorem Edge.ofCode_code (e : Edge) : Edge.ofCode e.code = some e := by cases e <;> rfl
theorem ErrorMode.ofCode_code (e : ErrorMode) : ErrorMode.ofCode e.code = some e := by cases e <;> rfl
theorem StuckRule.ofCode_code (r : StuckRule) : StuckRule.ofCode r.code = some r := by cases r <;> rfl
theorem NoticeMode.ofCode_code (m : NoticeMode) : NoticeMode.ofCode m.code = some m := by cases m <;> rfl
theorem LivePeriod.ofCode_code (p : LivePeriod) : LivePeriod.ofCode p.code = some p := by cases p <;> rfl

theorem LineMode.ofCode_none {n : Nat} (h : 4 ≤ n) : LineMode.ofCode n = none := by
  unfold LineMode.ofCode
  split <;> first | omega | rfl

theorem Edge.ofCode_none {n : Nat} (h : 3 ≤ n) : Edge.ofCode n = none := by
  unfold Edge.ofCode
  split <;> first | omega | rfl

theorem ErrorMode.ofCode_none {n : Nat} (h : 2 ≤ n) : ErrorMode.ofCode n = none := by
  unfold ErrorMode.ofCode
  split <;> first | omega | rfl

theorem StuckRule.ofCode_none {n : Nat} (h : 2 ≤ n) : StuckRule.ofCode n = none := by
  unfold StuckRule.ofCode
  split <;> first | omega | rfl

theorem NoticeMode.ofCode_none {n : Nat} (h : 3 ≤ n) : NoticeMode.ofCode n = none := by
  unfold NoticeMode.ofCode
  split <;> first | omega | rfl

theorem LivePeriod.ofCode_none {n : Nat} (h : 5 ≤ n) : LivePeriod.ofCode n = none := by
  unfold LivePeriod.ofCode
  split <;> first | omega | rfl

end Machine

/-! ## Ranges -/

theorem ChannelSettings.accepted_iff (c : Channel) (x : ChannelSettings) : x.accepted c = true
    ↔ x.rawLo ≤ 4095 ∧ x.rawHi ≤ 4095 ∧ x.rawHi ≠ x.rawLo ∧ c.settingRange.1 ≤ x.valueLo
      ∧ x.valueLo ≤ c.settingRange.2 ∧ c.settingRange.1 ≤ x.valueHi ∧ x.valueHi ≤ c.settingRange.2
      ∧ x.bandLo ≤ 4094 ∧ x.bandLo < x.bandHi ∧ x.bandHi ≤ 4095 := by
  unfold ChannelSettings.accepted Nat.inRange Int.inRange
  simp only [Bool.and_eq_true, decide_eq_true_eq, bne_iff_ne, and_assoc]
  rfl

theorem GeometrySettings.accepted_iff (x : GeometrySettings) : x.accepted = true
    ↔ 1000 ≤ x.l1 ∧ x.l1 ≤ 8000 ∧ 1000 ≤ x.l2 ∧ x.l2 ≤ 8000 ∧ x.h0 ≤ 4000 ∧ x.eMax ≤ 4000 := by
  simp [GeometrySettings.accepted, Nat.inRange, and_assoc]

theorem ZoneSettings.accepted_iff (x : ZoneSettings) : x.accepted = true
    ↔ x.bunkFrom ≤ 3599 ∧ x.bunkTo ≤ 3599 ∧ x.bunkMin ≤ 20000 ∧ x.bunkMax ≤ 20000
      ∧ x.bunkMin ≤ x.bunkMax ∧ x.cabFrom ≤ 3599 ∧ x.cabTo ≤ 3599 ∧ x.cabRadius ≤ 20000 := by
  simp [ZoneSettings.accepted, and_assoc]

theorem LiftSettings.accepted_iff (x : LiftSettings) : x.accepted = true
    ↔ 1000 ≤ x.gripThreshold ∧ x.gripThreshold ≤ 40000 ∧ x.releaseThreshold ≤ 39999
      ∧ x.releaseThreshold < x.gripThreshold ∧ 50 ≤ x.gripTime ∧ x.gripTime ≤ 1000
      ∧ 50 ≤ x.releaseTime ∧ x.releaseTime ≤ 1000 ∧ 10 ≤ x.liftOffThreshold
      ∧ x.liftOffThreshold ≤ 10000 ∧ x.dropThreshold ≤ 9999 ∧ x.dropThreshold < x.liftOffThreshold
      ∧ 100 ≤ x.liftOffTime ∧ x.liftOffTime ≤ 2000 ∧ 100 ≤ x.dropTime ∧ x.dropTime ≤ 2000 := by
  simp [LiftSettings.accepted, Nat.inRange, and_assoc]

namespace Machine

/-! ## Lines (R12, R15, R16) -/

/-- A line under a new mode keeps its debounce between input-class modes (R15). -/
theorem LineState.reset_eq (l : Line) (x : LineState) (m : LineMode) (e : Edge) :
    x.reset l ⟨m, e⟩ = { x with
      settings := ⟨m, e⟩
      debounced := if !outputClass l x.settings.mode && !outputClass l m then x.debounced else none
      candidate := if !outputClass l x.settings.mode && !outputClass l m then x.candidate else none } := by
  unfold LineState.reset
  cases outputClass l x.settings.mode <;> cases outputClass l m <;> rfl

theorem takeLine_eq (l : Line) (m : LineMode) (e : Edge) (s : State) :
    takeLine l ⟨m, e⟩ s = handSwitch { s with
      iau := { s.iau with lines := s.iau.lines.set l ((s.iau.lines.get l).reset l ⟨m, e⟩) } } := rfl

theorem execSetLine_none {n m e : Nat} (h : 4 ≤ n ∨ 4 ≤ m ∨ 3 ≤ e) (s : State) :
    execSetLine n m e s = .next (refuse 0x03 .badValue s) := by
  have : Line.ofCode n = none ∨ LineMode.ofCode m = none ∨ Edge.ofCode e = none :=
    h.imp Line.ofCode_none (Or.imp LineMode.ofCode_none Edge.ofCode_none)
  unfold execSetLine
  split
  · simp_all
  · rfl

/-- What a line drives by its mode (R12). -/
theorem lineDrive_cases {s : State} {l : Line} (hp : s.powered = true) :
    ((s.iau.lines.get l).settings.mode = .output → lineDrive s l = some (s.iau.lines.get l).written)
      ∧ (l = .dl0 → (s.iau.lines.get l).settings.mode = .function →
        lineDrive s l = some (if s.mlm.hornHigh = true then .high else .low))
      ∧ (l = .dl1 → (s.iau.lines.get l).settings.mode = .function →
        lineDrive s l = some (if s.mlm.lampHigh = true then .high else .low))
      ∧ ((s.iau.lines.get l).settings.mode = .input ∨ (s.iau.lines.get l).settings.mode = .inputPullup
        ∨ ((s.iau.lines.get l).settings.mode = .function ∧ (l = .dl2 ∨ l = .dl3)) →
        lineDrive s l = none) := by
  unfold lineDrive
  rw [hp]
  refine ⟨fun h => by simp [h], fun hl h => ?_, fun hl h => ?_, fun h => ?_⟩
  · subst hl; simp [h]
  · subst hl; simp [h]
  · rcases h with h | h | ⟨h, rfl | rfl⟩
    · cases l <;> simp [h]
    · cases l <;> simp [h]
    · simp [h]
    · simp [h]

theorem pullUp_iff (l : Line) (m : LineMode) : pullUp l m = true
    ↔ m = .inputPullup ∨ (m = .function ∧ (l = .dl2 ∨ l = .dl3)) := by
  cases l <;> cases m <;> decide

/-- Settles O13: each request by its range test. -/
theorem settingsAreTakenWhole : Obligations.SettingsAreTakenWhole := by
  refine ⟨fun c x s hs => ⟨?_, fun h => ?_, fun n hn => ?_⟩, fun s hs => ⟨fun l m e => ?_, fun n m e h =>
      refusedWith_of hs (execSetLine_none h s), fun mask levels hm hl => ?_, fun mask levels h => ?_⟩,
    fun s hs => ⟨fun x => ?_, fun x => ?_, fun x => ?_⟩,
    fun s l => ⟨lineDrive_cases, fun hp => ?_, pullUp_iff l _⟩⟩
  · intro h1 h2 h3 h4 h5 h6 h7 h8 h9 h10
    show execSetChannel c.code x s = _
    unfold execSetChannel
    rw [Channel.ofCode_code]
    exact congrArg _ (answer_of_pos hs
      ((ChannelSettings.accepted_iff c x).mpr ⟨h1, h2, h3, h4, h5, h6, h7, h8, h9, h10⟩))
  · refine refusedWith_of hs ?_
    show execSetChannel c.code x s = _
    unfold execSetChannel
    rw [Channel.ofCode_code]
    refine congrArg _ (if_neg fun ha => ?_)
    rw [ChannelSettings.accepted_iff] at ha
    omega
  · refine refusedWith_of hs ?_
    show execSetChannel n x s = _
    unfold execSetChannel
    rw [Channel.ofCode_none hn]
  · show execSetLine l.code m.code e.code s = _
    unfold execSetLine
    rw [Line.ofCode_code, LineMode.ofCode_code, Edge.ofCode_code]
    refine congrArg _ ((answer_ok hs).trans ?_)
    rw [takeLine_eq, LineState.reset_eq]
    rfl
  · have hc : (mask < 16 && levels < 16) = true := by simp [hm, hl]
    refine ⟨takeLevels mask levels (s.replied 0x04 .ok []), congrArg _ (answer_of_pos hs hc), rfl, fun l => ?_⟩
    show (s.iau.lines.map _).get l = _
    rw [PerLine.get_map]
    split <;> rfl
  · refine refusedWith_of hs (congrArg _ (if_neg ?_))
    simp
    omega
  · dsimp only
    rw [← GeometrySettings.accepted_iff]
    exact ⟨fun h => congrArg _ (answer_of_pos hs h), fun h => refusedWith_of hs (congrArg _ (if_neg h))⟩
  · dsimp only
    rw [← ZoneSettings.accepted_iff]
    exact ⟨fun h => congrArg _ (answer_of_pos hs h), fun h => refusedWith_of hs (congrArg _ (if_neg h))⟩
  · dsimp only
    rw [← LiftSettings.accepted_iff]
    exact ⟨fun h => congrArg _ (answer_of_pos hs h), fun h => refusedWith_of hs (congrArg _ (if_neg h))⟩
  · unfold lineDrive
    rw [hp]
    rfl

end Machine

end Sys2Proof
end

section
/-! PROOF. The requests of TAL and the settings of WEN. -/

namespace Sys2Proof.Machine

/-! ## Handoffs to LOG -/

/-- LOG's ring and CLP's queue after a handoff: the entry is the newest, and the notice joins the end. -/
theorem record_log {p : EntryPart} {s : State} (h : s.log.enables.governs p = true) :
    (record p s).log = s.log.append p := if_pos h

theorem record_log_off {p : EntryPart} {s : State} (h : s.log.enables.governs p = false) :
    (record p s).log = s.log := by
  rcases record_cases p s with ⟨-, e⟩ | ⟨hg, -⟩ | ⟨hg, -⟩
  · rw [e]
  · rw [h] at hg
    cases hg
  · rw [h] at hg
    cases hg

theorem record_extends (p : EntryPart) (s : State) :
    ∃ e : List TxFrame, (record p s).clp.queue = s.clp.queue ++ e ∧ e.length ≤ 1 := by
  rcases record_cases p s with ⟨-, e⟩ | ⟨-, -, e⟩ | ⟨-, -, e⟩ <;> rw [e]
  · exact ⟨[], by simp, by simp⟩
  · exact ⟨[], by simp, by simp⟩
  · exact Clp.send_extends _ rfl

theorem Log.append_getLast (l : Log) (p : EntryPart) : (l.append p).ring.getLast?
    = some ⟨l.nextSequence, l.clock, decide (128 ≤ l.ring.length), p⟩ := by
  rw [Log.append_eq]
  simp

/-! ## Labels and targets -/

theorem Tal.defined_iff (t : Tal) (i : Fin 16) : t.defined i = true ↔ t.labels[i] ≠ [] := by
  simp [Tal.defined]

theorem Label.printable_iff (l : Label) :
    Label.printable l = true ↔ ∀ b ∈ l, 0x20 ≤ b.toNat ∧ b.toNat ≤ 0x7E := by
  simp [Label.printable]

theorem Tal.hasFigures_iff (t : Tal) (i : Fin 16) : t.hasFigures i = true ↔ ∃ l, t.load = some l
    ∧ (l.figures[i].mass ≠ 0 ∨ l.figures[i].lifts ≠ 0 ∨ l.figures[i].unweighed ≠ 0) := by
  unfold Tal.hasFigures
  cases t.load <;> simp [or_assoc]

theorem Target.accepted_iff (t : Target) : t.accepted = true
    ↔ 1 ≤ t.total ∧ t.total ≤ 960000 ∧ 1 ≤ t.lifts ∧ t.lifts ≤ 65535 ∧ 1 ≤ t.mass ∧ t.mass ≤ 60000 := by
  simp [Target.accepted, Nat.inRange, and_assoc]

/-- Every value of a SET TARGET lies in its range (R120). -/
def targetRanged (f : TargetFields) : Prop :=
  f.totalEnable ≤ 1 ∧ f.liftsEnable ≤ 1 ∧ f.assortmentEnable ≤ 1 ∧ 1 ≤ f.total
    ∧ f.total ≤ 960000 ∧ 1 ≤ f.lifts ∧ f.lifts ≤ 65535 ∧ f.index ≤ 15 ∧ 1 ≤ f.mass ∧ f.mass ≤ 60000

theorem targetOfFields_some {f : TargetFields} (h : targetRanged f) (i : Fin 16) (hi : f.index = i.val) :
    targetOfFields f = some ⟨f.totalEnable == 0, f.liftsEnable == 0, f.assortmentEnable == 0, f.total,
      f.lifts, i, f.mass⟩ := by
  obtain ⟨ha, hb, hc, h1, h2, h3, h4, hx, h5, h6⟩ := h
  unfold targetOfFields
  rw [onOff_eq ha, onOff_eq hb, onOff_eq hc]
  have hj : (⟨f.index, Nat.lt_succ_of_le hx⟩ : Fin 16) = i := Fin.ext hi
  simp only [dif_pos (Nat.lt_succ_of_le hx), hj]
  exact if_pos ((Target.accepted_iff _).mpr ⟨h1, h2, h3, h4, h5, h6⟩)

theorem targetOfFields_none {f : TargetFields} (h : ¬targetRanged f) : targetOfFields f = none := by
  unfold targetOfFields
  split
  · rename_i a b c ha hb hc
    have hn : ∀ {n : Nat} {x : Bool}, onOff n = some x → n ≤ 1 := fun {n x} hx => by
      by_contra hlt
      rw [onOff_none (by omega)] at hx
      cases hx
    split
    · refine if_neg fun hx => h ?_
      obtain ⟨h1, h2, h3, h4, h5, h6⟩ := (Target.accepted_iff _).mp hx
      exact ⟨hn ha, hn hb, hn hc, h1, h2, h3, h4, by omega, h5, h6⟩
    · rfl
  · rfl

/-! ## Closing a load (R123) -/

/-- A load closed: its summary in the history, the record NONE, its entry handed to LOG. -/
theorem closeLoad_tal {s : State} {l : Load} (reason : CloseReason) (h : s.tal.load = some l) :
    (closeLoad reason s).tal = { s.tal with
      load := none, history := appendSummary s.tal.history (l.summary reason s.log.clock) } := by
  unfold closeLoad
  rw [h]
  rfl

theorem closeLoad_eq (reason : CloseReason) (s : State) : closeLoad reason s = { s with
    tal := (closeLoad reason s).tal, log := (closeLoad reason s).log, clp := (closeLoad reason s).clp } := by
  unfold closeLoad
  split <;> rfl

theorem closeLoad_log {s : State} {l : Load} (reason : CloseReason) (h : s.tal.load = some l) :
    (closeLoad reason s).log
      = (record (.loadClosed ⟨l.number, reason, l.total, l.loadedLifts, l.unloadedLifts⟩) s).log := by
  unfold closeLoad
  rw [h]
  rfl

theorem closeLoad_extends (reason : CloseReason) (s : State) :
    ∃ e : List TxFrame, (closeLoad reason s).clp.queue = s.clp.queue ++ e ∧ e.length ≤ 2 := by
  unfold closeLoad
  split
  · exact ⟨[], by simp, by simp⟩
  · rename_i l hl
    obtain ⟨e, he, hn⟩ := record_extends
      (.loadClosed ⟨l.number, reason, l.total, l.loadedLifts, l.unloadedLifts⟩)
      { s with tal := { s.tal with
        history := appendSummary s.tal.history (l.summary reason s.log.clock) } }
    obtain ⟨e', he', hn'⟩ := Clp.setLive_extends (record
      (.loadClosed ⟨l.number, reason, l.total, l.loadedLifts, l.unloadedLifts⟩)
      { s with tal := { s.tal with
        history := appendSummary s.tal.history (l.summary reason s.log.clock) } }).clp .payload
        (decide (s.sto.working.payload ≤ 0))
    refine ⟨e ++ e', ?_, by simp; omega⟩
    rw [← List.append_assoc, ← show _ = s.clp.queue ++ e from he]
    exact he'

/-- Settles O35: each request by its judgement, and CLOSE LOAD by `closeLoad`. -/
theorem tallyRequestsAct : Obligations.TallyRequestsAct := by
  refine ⟨fun s hs => ⟨congrArg _ (answer_ok hs), congrArg _ (answer_ok hs), fun i => ⟨fun h => ?_, fun h => ?_⟩,
      fun n hn => refusedWith_of hs (congrArg _ (dif_neg (by omega)))⟩,
    fun n label s hs => ?_, fun s hs => ⟨fun f => ?_, fun h => refusedWith_of hs ?_, fun l hl => ?_⟩⟩
  · refine congrArg _ ((dif_pos i.isLt).trans (answer_of_pos hs ?_))
    exact (Tal.defined_iff _ _).mpr h
  · refine refusedWith_of hs (congrArg Host.Outcome.next ((dif_pos i.isLt).trans (if_neg fun hd => ?_)))
    exact (Tal.defined_iff _ _).mp hd h
  · dsimp only
    rw [← Label.printable_iff]
    refine ⟨fun h => refusedWith_of hs (congrArg _ (if_pos h)), fun h hn => refusedWith_of hs ?_,
      fun i hi h0 h hp => ?_⟩
    · refine congrArg _ ((if_neg (by omega)).trans ?_)
      by_cases h16 : n < 16
      · rw [dif_pos h16]
        by_cases h0 : n = 0
        · exact if_pos h0
        · have hp : ¬Label.printable label = true := by
            rcases hn with hn | hn | hn
            · exact absurd hn h0
            · omega
            · exact hn
          rw [if_neg h0]
          exact if_pos (by simpa using hp)
      · exact dif_neg h16
    · subst hi
      rw [← Tal.hasFigures_iff]
      have go : ∀ u : State, (if label.isEmpty && s.tal.hasFigures i then refuse 0x29 .state s
          else answer 0x29 .ok [] (takeLabel i label) s) = u →
          exec (.defineAssortment i.val label) s = .next u := fun u hu => by
        refine congrArg Host.Outcome.next (Eq.trans ?_ hu)
        rw [if_neg (by omega), dif_pos i.isLt, if_neg h0, if_neg (by simpa using hp)]
      refine ⟨fun he hf => refusedWith_of hs (go _ (if_pos (by simp [he, hf]))), fun hx => ?_⟩
      rw [go _ (answer_of_neg hs (by simpa [or_iff_not_imp_left] using hx))]
      simp [takeLabel, State.replied]
  · dsimp only
    refine ⟨fun h => refusedWith_of hs ?_, fun h i hi => ⟨fun h0 hl => refusedWith_of hs ?_, fun hx => ?_⟩⟩
    · show execSetTarget f s = _
      unfold execSetTarget
      rw [targetOfFields_none h]
    · show execSetTarget f s = _
      unfold execSetTarget
      rw [targetOfFields_some h i hi]
      exact congrArg _ (if_pos (by simp [h0, Tal.defined, hl]))
    · show execSetTarget f s = _
      unfold execSetTarget
      rw [targetOfFields_some h i hi]
      refine congrArg _ (answer_of_neg hs ?_)
      rcases hx with hx | hx
      · simp [hx]
      · simp [(Tal.defined_iff _ _).mpr hx]
  · show execCloseLoad s = _
    unfold execCloseLoad
    rw [h]
  · have he : exec .closeLoad s
        = .next (closeLoad .command (s.replied 0x2D .ok (u16 l.number ++ u32 l.total))) := by
      show execCloseLoad s = _
      unfold execCloseLoad
      rw [hl]
      exact congrArg _ (answer_short hs (by simp))
    obtain ⟨e, hq, -⟩ := closeLoad_extends .command (s.replied 0x2D .ok (u16 l.number ++ u32 l.total))
    refine ⟨_, he, ?_, closeLoad_tal .command hl, ?_, fun h => ?_, fun h => ?_⟩
    · exact closeLoad_eq _ _
    · rw [hq, replied_short (by simp)]
      simp
    · exact (closeLoad_log .command (show (s.replied _ _ _).tal.load = _ from hl)).trans (record_log_off h)
    · rw [(closeLoad_log .command (show (s.replied _ _ _).tal.load = _ from hl)).trans (record_log h)]
      exact ⟨_, Log.append_getLast _ _, rfl, rfl⟩

end Sys2Proof.Machine
end

section
/-! PROOF. The settings of WEN and its capture requests. -/

namespace Sys2Proof.Machine

/-! ## SET WEIGH and SET CALIBRATION (R81, R82) -/

theorem WeighSettings.accepted_iff (t : WeighSettings) : t.accepted = true
    ↔ 10 ≤ t.swing ∧ t.swing ≤ 300 ∧ 50 ≤ t.jitter ∧ t.jitter ≤ 2000 ∧ 8 ≤ t.windowSize
      ∧ t.windowSize ≤ 64 ∧ 20 ≤ t.spread ∧ t.spread ≤ 1000 ∧ 5 ≤ t.minLift ∧ t.minLift ≤ 200
      ∧ (t.period = 500 ∨ t.period = 2000 ∨ t.period = 10000 ∨ t.period = 30000)
      ∧ t.tracking ≤ 1000 := by
  simp [WeighSettings.accepted, Nat.inRange, and_assoc]

theorem CalibrationFields.accepted_iff (f : CalibrationFields) : f.accepted = true
    ↔ f.tare ≤ 10000 ∧ -200 ≤ f.kt ∧ f.kt ≤ 200 ∧ -40 ≤ f.tref ∧ f.tref ≤ 85
      ∧ f.areaHead ≤ 50000 ∧ f.areaRod ≤ 50000 := by
  simp [CalibrationFields.accepted, Int.inRange, and_assoc]

/-- Every value of a SET WEIGH lies in its range (R81). -/
def weighRanged (f : WeighFields) : Prop :=
  10 ≤ f.swing ∧ f.swing ≤ 300 ∧ 50 ≤ f.jitter ∧ f.jitter ≤ 2000 ∧ 8 ≤ f.windowSize
    ∧ f.windowSize ≤ 64 ∧ 20 ≤ f.spread ∧ f.spread ≤ 1000 ∧ 5 ≤ f.minLift ∧ f.minLift ≤ 200
    ∧ (f.period = 500 ∨ f.period = 2000 ∨ f.period = 10000 ∨ f.period = 30000) ∧ f.autoZero ≤ 1
    ∧ f.tracking ≤ 1000

theorem weighOfFields_some {f : WeighFields} (h : weighRanged f) : weighOfFields f
    = some ⟨f.swing, f.jitter, f.windowSize, f.spread, f.minLift, f.period, f.autoZero == 0, f.tracking⟩ := by
  obtain ⟨h1, h2, h3, h4, h5, h6, h7, h8, h9, h10, h11, ha, h12⟩ := h
  unfold weighOfFields
  rw [onOff_eq ha]
  exact if_pos ((WeighSettings.accepted_iff _).mpr ⟨h1, h2, h3, h4, h5, h6, h7, h8, h9, h10, h11, h12⟩)

theorem weighOfFields_none {f : WeighFields} (h : ¬weighRanged f) : weighOfFields f = none := by
  unfold weighOfFields
  by_cases ha : f.autoZero ≤ 1
  · rw [onOff_eq ha]
    refine if_neg fun hx => h ?_
    obtain ⟨h1, h2, h3, h4, h5, h6, h7, h8, h9, h10, h11, h12⟩ := (WeighSettings.accepted_iff _).mp hx
    exact ⟨h1, h2, h3, h4, h5, h6, h7, h8, h9, h10, h11, ha, h12⟩
  · rw [onOff_none (by omega)]

theorem clearBandMarks_get (bands : Vector Band 8) (b : Fin 8) :
    (clearBandMarks bands)[b] = { bands[b] with emptyCaptured := false, gainCaptured := false } := by
  unfold clearBandMarks
  simp

/-- The entries that a sequence of handoffs appends while the ring has room. -/
theorem record_ring_drop {p : EntryPart} {s : State} {n : Nat} (hg : s.log.enables.governs p = true)
    (hl : s.log.ring.length < 128) (hn : n ≤ s.log.ring.length) :
    ((record p s).log.ring.drop n).map Entry.part = (s.log.ring.drop n).map Entry.part ++ [p]
      ∧ (record p s).log.ring.length = s.log.ring.length + 1
      ∧ (record p s).log.enables = s.log.enables := by
  rw [record_log hg, Log.append_eq]
  simp only [if_neg (Nat.not_le.mpr hl)]
  rw [List.drop_append_of_le_length hn]
  simp

/-- One value of SET CALIBRATION: its CAL entry, when it changes (R82). -/
theorem recordChange_ring {name : CalName} {old new : Int} {s : State} {n k : Nat}
    (hg : s.log.enables.system = true) (hl : s.log.ring.length ≤ k) (hk : k < 128) (hn : n ≤ s.log.ring.length) :
    ((recordChange name old new s).log.ring.drop n).map Entry.part = (s.log.ring.drop n).map Entry.part
        ++ (if old != new then [.cal ⟨name, none, old, new⟩] else [])
      ∧ (recordChange name old new s).log.ring.length ≤ k + 1
      ∧ n ≤ (recordChange name old new s).log.ring.length
      ∧ (recordChange name old new s).log.enables.system = true := by
  unfold recordChange
  by_cases h : old = new
  · simp only [if_pos h]
    refine ⟨by simp [h], by omega, hn, hg⟩
  · simp only [if_neg h]
    obtain ⟨h1, h2, h3⟩ := record_ring_drop
      (show s.log.enables.governs (.cal ⟨name, none, old, new⟩) = true from hg) (by omega) hn
    exact ⟨by rw [h1]; simp [h], by omega, by omega, by rw [h3]; exact hg⟩

theorem map_filter_eq_flatMap {α β : Type} (p : α → Bool) (f : α → β) (l : List α) :
    (l.filter p).map f = l.flatMap fun v => if p v then [f v] else [] := by
  induction l with
  | nil => rfl
  | cons v l ih =>
    rw [List.flatMap_cons, ← ih, List.filter_cons]
    split <;> rfl

theorem takeCalibration_wen (f : CalibrationFields) (s : State) : (takeCalibration f s).wen
    = { s.wen with calibration := s.wen.calibration.afterSet f } := by
  unfold takeCalibration
  simp

/-- The CAL entries of a SET CALIBRATION: one for each changed value, in the order of R137. -/
theorem takeCalibration_entries (f : CalibrationFields) {s : State} (hg : s.log.enables.system = true)
    (hl : s.log.ring.length ≤ 123) :
    ((takeCalibration f s).log.ring.drop s.log.ring.length).map Entry.part
      = ([(CalName.t, (s.wen.calibration.tare : Int), (f.tare : Int)), (.kt, s.wen.calibration.kt, f.kt),
          (.tref, s.wen.calibration.tref, f.tref), (.ah, s.wen.calibration.areaHead, f.areaHead),
          (.ar, s.wen.calibration.areaRod, f.areaRod)].filter fun v => v.2.1 != v.2.2).map
            fun v => .cal ⟨v.1, none, v.2.1, v.2.2⟩ := by
  let s0 : State := { s with wen := { s.wen with calibration := s.wen.calibration.afterSet f } }
  obtain ⟨e1, l1, n1, g1⟩ := recordChange_ring (show s0.log.enables.system = true from hg) hl (by decide) (Nat.le_refl _)
  obtain ⟨e2, l2, n2, g2⟩ := recordChange_ring g1 l1 (by decide) n1
  obtain ⟨e3, l3, n3, g3⟩ := recordChange_ring g2 l2 (by decide) n2
  obtain ⟨e4, l4, n4, g4⟩ := recordChange_ring g3 l3 (by decide) n3
  obtain ⟨e5, -, -, -⟩ := recordChange_ring g4 l4 (by decide) n4
  unfold takeCalibration
  refine e5.trans ?_
  rw [e4, e3, e2, e1, map_filter_eq_flatMap]
  simp [s0]

/-- Settles O28: `takeWeigh` and `takeCalibration`, the changed values handed to LOG one after another. -/
theorem weighAndCalibrationAreSet : Obligations.WeighAndCalibrationAreSet := by
  refine ⟨fun f s hs => ⟨fun h => ⟨f.autoZero == 0, clamp (-f.tracking) f.tracking s.wen.zeroOffset, by simp,
      clamp_isClamped _ _ _ (by omega), ?_⟩, fun h => refusedWith_of hs ?_⟩, fun f s hs => ?_⟩
  · show execSetWeigh f s = _
    unfold execSetWeigh
    rw [weighOfFields_some h]
    exact congrArg _ (answer_ok hs)
  · show execSetWeigh f s = _
    unfold execSetWeigh
    rw [weighOfFields_none h]
  · dsimp only
    rw [← CalibrationFields.accepted_iff]
    refine ⟨fun h => refusedWith_of hs (congrArg _ (if_neg h)), fun h hc =>
      refusedWith_of hs (congrArg _ ((if_pos h).trans (if_pos hc))), fun h hc => ?_⟩
    refine ⟨takeCalibration f (s.replied 0x19 .ok []), ?_, ?_, ?_, fun h1 h2 => ?_, fun hd b => ?_, fun hg hl => ?_⟩
    · exact congrArg _ ((if_pos h).trans (answer_of_neg hs (by simp [hc])))
    · exact State.ext_parts (by simp) (by simp) (by simp) (by simp) (by rw [takeCalibration_wen]; rfl) (by simp)
        (by simp) rfl (by simp) (by simp) (by simp) rfl (by simp)
    · rw [takeCalibration_wen]
      rfl
    · rw [takeCalibration_wen]
      exact if_pos ⟨h1, h2⟩
    · rw [takeCalibration_wen]
      show (if _ then _ else clearBandMarks s.wen.calibration.bands)[b] = _
      rw [if_neg (by tauto)]
      exact clearBandMarks_get _ b
    · exact takeCalibration_entries f (show (s.replied 0x19 .ok []).log.enables.system = true from hg) hl

/-! ## Capture requests (R74 to R80) -/

theorem tipReadable_iff (s : State) :
    tipReadable s = true ↔ s.tlc.link = .up ∧ s.clp.isLive .tipStuck = false := by
  simp [tipReadable]

theorem massInGrapple_iff (s : State) : massInGrapple s = true ↔ s.ltr.state = .lifted ∨ s.ltr.state = .weighed
    ∨ (s.ltr.state = .gripped ∧ s.wen.liveEstimate = none) := by
  unfold massInGrapple
  cases s.ltr.state <;> simp

theorem cylinderReadable_iff (s : State) : cylinderReadable s = true ↔ s.iau.channels.pHead.status = .good
    ∧ s.iau.channels.pRod.status = .good ∧ s.geo.valid = true := by
  simp [cylinderReadable, ChannelState.isGood, and_assoc]

theorem boomStill_iff (s : State) : boomStill s = true ↔ s.vdr.sections.boom.output = 0 := by
  simp [boomStill]

theorem knownMass_iff (m : Nat) : knownMass m = true ↔ 500 ≤ m ∧ m ≤ 30000 := by
  simp [knownMass, Nat.inRange]

/-- Settles O26: each request by its judgements in order. -/
theorem captureRequestsAreJudgedInOrder : Obligations.CaptureRequestsAreJudgedInOrder := by
  intro s hs
  dsimp only
  rw [← tipReadable_iff, ← massInGrapple_iff, ← cylinderReadable_iff, ← boomStill_iff]
  have absent : s.wen.capture = none → ¬s.wen.capture.isSome = true := fun h => by simp [h]
  refine ⟨fun m hm => ?_, fun hc => ⟨refusedWith_of hs ?_, refusedWith_of hs ?_, fun m h1 h2 => ?_⟩, fun hc =>
    ⟨fun hi hr => ?_, fun h => ?_, fun m h1 h2 => ⟨fun hg hr hz => ?_, fun h => ?_⟩, fun h => ?_,
      fun m h1 h2 h => ?_, fun f hf hp => ⟨fun hi hb => ?_, fun m h1 h2 hg => ⟨fun he => ?_, fun he hq => ?_⟩⟩, ?_⟩,
    fun c hc hq => ?_⟩
  · have hk : ¬knownMass m = true := by rw [knownMass_iff]; omega
    exact ⟨refusedWith_of hs (congrArg _ (if_neg hk)), refusedWith_of hs (congrArg _ (if_neg hk))⟩
  · exact congrArg _ (if_pos hc)
  · exact congrArg _ (if_pos hc)
  · have hk := (knownMass_iff m).mpr ⟨h1, h2⟩
    exact ⟨refusedWith_of hs (congrArg _ ((if_pos hk).trans (if_pos hc))),
      refusedWith_of hs (congrArg _ ((if_pos hk).trans (if_pos hc)))⟩
  · exact congrArg _ ((if_neg (absent hc)).trans (answer_of_pos hs (by simp [hi, hr])))
  · refine refusedWith_of hs (congrArg _ ((if_neg (absent hc)).trans (if_neg ?_)))
    simpa [or_iff_not_imp_left] using h
  · exact congrArg _ ((if_pos ((knownMass_iff m).mpr ⟨h1, h2⟩)).trans
      ((if_neg (absent hc)).trans (answer_of_pos hs (by simp [hg, hr, hz]))))
  · refine refusedWith_of hs (congrArg _ ((if_pos ((knownMass_iff m).mpr ⟨h1, h2⟩)).trans
      ((if_neg (absent hc)).trans (if_neg ?_))))
    rcases h with h | h | h <;> simp [h]
  · refine refusedWith_of hs (congrArg _ ((if_neg (absent hc)).trans ?_))
    split
    · rfl
    · refine if_neg ?_
      have hb : s.vdr.sections.boom.output ≠ 0 → boomStill s = false := fun hx => by simpa [boomStill] using hx
      rcases h with h | h | h
      · simp [h]
      · simp [hb h]
      · simp [h]
  · refine refusedWith_of hs (congrArg _ ((if_pos ((knownMass_iff m).mpr ⟨h1, h2⟩)).trans
      ((if_neg (absent hc)).trans ?_)))
    split
    · rfl
    · exact if_neg (by rcases h with h | h <;> simp [h])
  · refine congrArg _ ((if_neg (absent hc)).trans ?_)
    conv_lhs => rw [hf]
    exact answer_of_pos hs (by simp [hi, hb, hp])
  · refine congrArg _ ((if_pos ((knownMass_iff m).mpr ⟨h1, h2⟩)).trans ((if_neg (absent hc)).trans ?_))
    conv_lhs => rw [hf]
    refine (answer_of_pos hs (by simp [hg, hp])).trans ?_
    exact if_pos he
  · refine congrArg _ ((if_pos ((knownMass_iff m).mpr ⟨h1, h2⟩)).trans ((if_neg (absent hc)).trans ?_))
    conv_lhs => rw [hf]
    refine (answer_of_pos hs (by simp [hg, hp])).trans ((if_neg (by simpa using he)).trans ?_)
    have hw : ({ s.wen with capture := none } : Wen) = s.wen := by rw [← hc]
    unfold failCapture startCapture
    rw [replied_short (Nat.zero_le _)]
    dsimp only
    rw [hw, Clp.send_of_short rfl (by simp; omega)]
    simp
  · exact refusedWith_of hs (congrArg _ (if_neg (absent hc)))
  · refine congrArg _ ((answer_of_pos hs (by simp [hc])).trans ?_)
    unfold failCapture
    rw [replied_short (Nat.zero_le _)]
    dsimp only
    rw [hc]
    dsimp only
    rw [Clp.send_of_short rfl (by simp; omega)]
    simp

end Sys2Proof.Machine
end

section
/-! PROOF. Valve Drive: the ramp, the currents and duty codes, the coil tests and the lever intake. -/

namespace Sys2Proof.Machine

/-! ## The ramp (R171) -/

theorem rampOutput_self (up down : Nat) (o : Int) : rampOutput up down o o = o := if_pos rfl

theorem rampOutput_neg (up down : Nat) (o t : Int) :
    rampOutput up down (-o) (-t) = -rampOutput up down o t := by
  unfold rampOutput sameSign
  simp only [Int.natAbs_neg, Int.sign_neg, neg_inj, Left.neg_pos_iff, Left.neg_neg_iff, Bool.or_comm,
    Int.neg_mul]
  have hz : ∀ x : Int, (-x == 0) = (x == 0) := fun x => by simp
  simp only [hz]
  split
  · rfl
  · split
    · rfl
    · split <;> rfl

/-- Away from 0, by at most the ramp up. -/
theorem rampOutput_up (up down : Nat) {o t : Int} (ho : 0 ≤ o) (ht : o < t) :
    rampOutput up down o t = min t (o + up) := by
  unfold rampOutput sameSign
  have hs : t.sign = 1 := Int.sign_eq_one_of_pos (by omega)
  rw [if_neg (by omega), if_pos (by simp; omega), hs]
  omega

/-- Toward 0, by at most the ramp down. -/
theorem rampOutput_down (up down : Nat) {o t : Int} (ht : 0 ≤ t) (ho : t < o) :
    rampOutput up down o t = max t (o - down) := by
  unfold rampOutput sameSign
  have hs : o.sign = 1 := Int.sign_eq_one_of_pos (by omega)
  rw [if_neg (by omega), if_neg (by simp; omega), if_pos (by simp; omega), hs]
  omega

/-- Through 0 not in one update. -/
theorem rampOutput_cross (up down : Nat) {o t : Int} (ht : t < 0) (ho : 0 < o) :
    rampOutput up down o t = max 0 (o - down) := by
  unfold rampOutput sameSign
  have hs : o.sign = 1 := Int.sign_eq_one_of_pos (by omega)
  rw [if_neg (by omega), if_neg (by simp; omega), if_neg (by simp; omega), hs]
  omega

theorem rampOutput_up_neg (up down : Nat) {o t : Int} (ho : o ≤ 0) (ht : t < o) :
    rampOutput up down o t = max t (o - up) := by
  have h := rampOutput_up up down (show 0 ≤ -o by omega) (show -o < -t by omega)
  rw [rampOutput_neg] at h
  omega

theorem rampOutput_down_neg (up down : Nat) {o t : Int} (ht : t ≤ 0) (ho : o < t) :
    rampOutput up down o t = min t (o + down) := by
  have h := rampOutput_down up down (show 0 ≤ -t by omega) (show -t < -o by omega)
  rw [rampOutput_neg] at h
  omega

theorem rampOutput_cross_neg (up down : Nat) {o t : Int} (ht : 0 < t) (ho : o < 0) :
    rampOutput up down o t = min 0 (o + down) := by
  have h := rampOutput_cross up down (show -t < 0 by omega) (show 0 < -o by omega)
  rw [rampOutput_neg] at h
  omega

/-- An output never leaves the span of 0, the output before and its target. -/
theorem rampOutput_mem (up down : Nat) (o t : Int) :
    min 0 (min o t) ≤ rampOutput up down o t ∧ rampOutput up down o t ≤ max 0 (max o t) := by
  rcases Int.lt_trichotomy o t with h | h | h
  · rcases Int.lt_or_le o 0 with ho | ho
    · rcases Int.lt_or_le 0 t with ht | ht
      · rw [rampOutput_cross_neg up down ht ho]; omega
      · rw [rampOutput_down_neg up down ht h]; omega
    · rw [rampOutput_up up down ho h]; omega
  · subst h
    rw [rampOutput_self]; omega
  · rcases Int.lt_or_le 0 o with ho | ho
    · rcases Int.lt_or_le t 0 with ht | ht
      · rw [rampOutput_cross up down ht ho]; omega
      · rw [rampOutput_down up down ht h]; omega
    · rw [rampOutput_up_neg up down ho h]; omega

/-! ## Composed target, current and duty (R170, R172, R173) -/

theorem composedTarget_whole (t : Int) : composedTarget t 1000 = t :=
  Int.mul_tdiv_cancel t (by decide)

theorem composedTarget_pos {t : Int} (h : 0 ≤ t) (f : Nat) : composedTarget t f = t * f / 1000 :=
  Int.tdiv_eq_ediv_of_nonneg (Int.mul_nonneg h (Int.natCast_nonneg f))

theorem composedTarget_neg {t : Int} (h : t ≤ 0) (f : Nat) : composedTarget t f = -(-t * f / 1000) := by
  have hp := composedTarget_pos (show 0 ≤ -t by omega) f
  rw [← hp]
  unfold composedTarget
  rw [Int.neg_mul, Int.neg_tdiv, Int.neg_neg]

theorem dutyCode_isRounded (n : Nat) : isRounded ((n : Int) * 255) 2000 (dutyCode n) := by
  unfold dutyCode
  rw [Int.toNat_of_nonneg (roundDiv_nonneg (by omega) (by decide))]
  exact roundDiv_isRounded _ _ (by decide)

theorem setpoints_of_pos {t : SectionSettings} {o : Int} (h : 0 < o) :
    setpoints t o = ⟨activeCurrent t o, 0⟩ := if_pos h

theorem setpoints_of_nonpos {t : SectionSettings} {o : Int} (h : o ≤ 0) :
    setpoints t o = ⟨0, activeCurrent t o⟩ := if_neg (by omega)

theorem activeCurrent_eq (t : SectionSettings) (o : Int) : activeCurrent t o
    = if o = 0 ∨ o.natAbs < t.deadband then 0
      else t.iMin + (o.natAbs - t.deadband) * (t.iMax - t.iMin) / (1000 - t.deadband) := by
  unfold activeCurrent
  simp

theorem factorInUse_unlimited {v : Section} {t : Int} {f : FactorPair}
    (h : t = 0 ∨ v = .rotate ∨ v = .grapple) : factorInUse v t f = 1000 := by
  unfold factorInUse
  rcases h with h | rfl | rfl
  · simp [h]
  · simp [limited]
  · simp [limited]

theorem factorInUse_limited {v : Section} {t : Int} {f : FactorPair} (h1 : v ≠ .rotate) (h2 : v ≠ .grapple)
    (h : t ≠ 0) : factorInUse v t f = if 0 < t then f.positive else f.negative := by
  unfold factorInUse
  have hl : limited v = true := by
    cases v <;> first | rfl | exact absurd rfl h1 | exact absurd rfl h2
  simp [h, hl]

/-! ## The open test (R174) -/

theorem failsOpen_iff (s m : Nat) : failsOpen s m = true ↔ s ≠ 0 ∧ 4 * m < s := by
  simp [failsOpen, Nat.mul_comm]

theorem openJudged_open {f : Bool} {n : Nat} : (openJudged f n).2 = true ↔ f = true ∧ 10 ≤ n := by
  unfold openJudged
  cases f
  · simp
  · by_cases h : n < 10
    · simp [h]
    · simp [h]
      omega

/-- A section that drives on: neither coil ends an open count (R169). -/
theorem SectionState.update_drives {x : SectionState} (v : Section) (f : FactorPair) (m : CoilPair)
    (he : x.coil = .enabled) (ha : failsOpen x.setpoint.a m.a = true → x.openCount.a < 10)
    (hb : failsOpen x.setpoint.b m.b = true → x.openCount.b < 10) :
    x.update v f m = ({ x with
      measured := m
      openCount := ⟨if failsOpen x.setpoint.a m.a then x.openCount.a + 1 else 0,
        if failsOpen x.setpoint.b m.b then x.openCount.b + 1 else 0⟩ } : SectionState).drive v f := by
  have count : ∀ {g : Bool} {n : Nat}, (g = true → n < 10) → openJudged g n = (if g then n + 1 else 0, false) := by
    intro g n h
    unfold openJudged
    cases g
    · rfl
    · simp [h rfl]
  unfold SectionState.update
  rw [he]
  dsimp only
  rw [count ha, count hb]
  rfl

theorem SectionState.update_openA {x : SectionState} (v : Section) (f : FactorPair) (m : CoilPair)
    (he : x.coil = .enabled) (hf : failsOpen x.setpoint.a m.a = true) (hn : 10 ≤ x.openCount.a) :
    x.update v f m = ({ x with measured := m } : SectionState).disable .openA := by
  unfold SectionState.update
  rw [he]
  dsimp only
  rw [if_pos (openJudged_open.mpr ⟨hf, hn⟩)]
  rfl

theorem SectionState.update_openB {x : SectionState} (v : Section) (f : FactorPair) (m : CoilPair)
    (he : x.coil = .enabled) (ha : ¬(failsOpen x.setpoint.a m.a = true ∧ 10 ≤ x.openCount.a))
    (hf : failsOpen x.setpoint.b m.b = true) (hn : 10 ≤ x.openCount.b) :
    x.update v f m = ({ x with measured := m } : SectionState).disable .openB := by
  unfold SectionState.update
  rw [he]
  dsimp only
  rw [if_neg fun h => ha (openJudged_open.mp h), if_pos (openJudged_open.mpr ⟨hf, hn⟩)]
  rfl

theorem SectionState.update_disabled {x : SectionState} {c : CoilFault} (v : Section) (f : FactorPair)
    (m : CoilPair) (h : x.coil = .disabled c) : x.update v f m = { x with measured := m } := by
  unfold SectionState.update
  rw [h]

theorem SectionState.isDisabled_iff (x : SectionState) : x.isDisabled = true ↔ ∃ f, x.coil = .disabled f := by
  unfold SectionState.isDisabled
  cases x.coil <;> simp

/-! ## COIL_FAULT (R176) -/

theorem Condition.coilFault_ne {v w : Section} (h : v ≠ w) :
    (Condition.coilFault v).index ≠ (Condition.coilFault w).index := fun x =>
  h (Condition.coilFault.inj (Condition.index_injective x))

/-- A walk over the sections that makes some COIL_FAULTs b: the others stand. -/
theorem foldl_coilFault_isLive (p : Section → Bool) (b : Bool) (l : List Section) (c : Clp) (v : Section) :
    (l.foldl (fun c w => if p w then c.setLive (.coilFault w) b else c) c).isLive (.coilFault v)
      = if v ∈ l ∧ p v = true then b else c.isLive (.coilFault v) := by
  induction l generalizing c with
  | nil => simp
  | cons w l ih =>
    rw [List.foldl_cons, ih]
    by_cases hw : w = v
    · subst hw
      by_cases hp : p w = true
      · simp [hp]
      · simp [hp]
    · have hi := Condition.coilFault_ne hw
      by_cases hp : p w = true
      · simp [hp, Clp.setLive_isLive, hi, Ne.symm hw]
      · simp [hp, Ne.symm hw]

theorem foldl_coilFault_other (p : Section → Bool) (b : Bool) (l : List Section) (c : Clp) (d : Condition)
    (hd : ∀ v, d ≠ .coilFault v) :
    (l.foldl (fun c w => if p w then c.setLive (.coilFault w) b else c) c).isLive d = c.isLive d := by
  induction l generalizing c with
  | nil => rfl
  | cons w l ih =>
    rw [List.foldl_cons, ih]
    split
    · rw [Clp.setLive_isLive, if_neg fun h => hd w (Condition.index_injective h).symm]
    · rfl

theorem noteCoilFaults_isLive (before after : PerSection SectionState) (c : Clp) (v : Section) :
    (noteCoilFaults before after c).isLive (.coilFault v)
      = if ((after.get v).isDisabled && !(before.get v).isDisabled) = true then true
        else c.isLive (.coilFault v) := by
  unfold noteCoilFaults
  rw [foldl_coilFault_isLive fun w => (after.get w).isDisabled && !(before.get w).isDisabled]
  simp [Section.mem_list]

theorem updateDrive_section (m : CoilSamples) (s : State) (v : Section) :
    (updateDrive m s).vdr.sections.get v
      = (s.vdr.sections.get v).update v (s.vdr.factors.get v) (m.get v) := PerSection.get_map _ _ v

/-! ## The statements of VDR -/

/-- Settles O41: `SectionState.drive`, the ramp by the signs of output and target. -/
theorem driveUpdatesRampTheOutputs : Obligations.DriveUpdatesRampTheOutputs := by
  intro m s v hp
  refine ⟨updateDrive m s, congrArg _ (whenPowered_eq hp), rfl, rfl, ?_⟩
  dsimp only
  intro he ha hb
  rw [← failsOpen_iff, ← failsOpen_iff] at *
  rw [updateDrive_section, SectionState.update_drives v _ _ he ha hb]
  have unlimited : (s.vdr.sections.get v).target = 0 ∨ v = .rotate ∨ v = .grapple →
      factorInUse v (s.vdr.sections.get v).target (s.vdr.factors.get v) = 1000 := factorInUse_unlimited
  refine ⟨rfl, rfl, rfl, he, rfl, rfl, fun h => if_pos h, fun h => if_neg h, fun h => if_pos h, fun h => if_neg h,
    fun h => ⟨unlimited h, ?_⟩, fun h1 h2 h => ⟨?_, composedTarget_pos (Int.le_of_lt h) _⟩,
    fun h1 h2 h => ⟨?_, composedTarget_neg (Int.le_of_lt h) _⟩,
    fun h => ?_, rampOutput_up _ _, rampOutput_up_neg _ _, rampOutput_down _ _, rampOutput_down_neg _ _,
    rampOutput_cross _ _, rampOutput_cross_neg _ _, ?_, dutyCode_isRounded _, dutyCode_isRounded _⟩
  · exact (congrArg _ (unlimited h)).trans (composedTarget_whole _)
  · exact (factorInUse_limited h1 h2 (Int.ne_of_gt h)).trans (if_pos h)
  · exact (factorInUse_limited h1 h2 (Int.ne_of_lt h)).trans (if_neg (Int.not_lt.mpr (Int.le_of_lt h)))
  · exact (congrArg _ h).trans (rampOutput_self _ _ _)
  · rw [← activeCurrent_eq]
    exact ⟨setpoints_of_pos, setpoints_of_nonpos⟩

/-- An increasing output at a factor of 0 goes toward 0. -/
theorem drive_withheld {x : SectionState} {v : Section} {f : FactorPair} (hv : limited v = true) :
    (f.negative = 0 → min x.output 0 ≤ min (x.drive v f).output 0)
      ∧ (f.positive = 0 → max (x.drive v f).output 0 ≤ max x.output 0) := by
  have hm := rampOutput_mem x.settings.up x.settings.down x.output
    (composedTarget x.target (factorInUse v x.target f))
  have hf : x.target ≠ 0 → factorInUse v x.target f = if 0 < x.target then f.positive else f.negative :=
    fun h => by simp [factorInUse, hv, h]
  have h0 : composedTarget x.target 0 = 0 := by simp [composedTarget]
  refine ⟨fun h => ?_, fun h => ?_⟩
  · have hc : 0 ≤ composedTarget x.target (factorInUse v x.target f) := by
      rcases Int.lt_trichotomy x.target 0 with ht | ht | ht
      · rw [hf (by omega), if_neg (by omega), h, h0]
      · rw [ht]
        simp [composedTarget]
      · rw [composedTarget_pos (by omega)]
        exact Int.ediv_nonneg (Int.mul_nonneg (by omega) (Int.natCast_nonneg _)) (by decide)
    show min x.output 0 ≤ min (rampOutput _ _ _ _) 0
    omega
  · have hc : composedTarget x.target (factorInUse v x.target f) ≤ 0 := by
      rcases Int.lt_trichotomy x.target 0 with ht | ht | ht
      · rw [composedTarget_neg (by omega)]
        have := Int.ediv_nonneg (Int.mul_nonneg (show 0 ≤ -x.target by omega)
          (Int.natCast_nonneg (factorInUse v x.target f))) (show (0 : Int) ≤ 1000 by decide)
        omega
      · rw [ht]
        simp [composedTarget]
      · rw [hf (by omega), if_pos (by omega), h, h0]
    show max (rampOutput _ _ _ _) 0 ≤ max x.output 0
    omega

theorem update_withheld (x : SectionState) (v : Section) (f : FactorPair) (m : CoilPair) (hv : limited v = true) :
    (f.negative = 0 → min x.output 0 ≤ min (x.update v f m).output 0)
      ∧ (f.positive = 0 → max (x.update v f m).output 0 ≤ max x.output 0) := by
  unfold SectionState.update
  split
  · exact ⟨fun _ => Int.le_refl _, fun _ => Int.le_refl _⟩
  · dsimp only
    split
    · refine ⟨fun _ => ?_, fun _ => ?_⟩ <;> simp [SectionState.disable]
    · split
      · refine ⟨fun _ => ?_, fun _ => ?_⟩ <;> simp [SectionState.disable]
      · exact drive_withheld hv

/-- Settles O43: a direction withheld has a composed target of 0, and the ramp does not pass it. -/
theorem holdNeverGrowsTheMoment : Obligations.HoldNeverGrowsTheMoment := by
  intro m s hp hw hh
  obtain ⟨hb, hj, ht⟩ := hw hh
  refine ⟨updateDrive m s, congrArg _ (whenPowered_eq hp), ?_, ?_, ?_⟩
  · exact (update_withheld s.vdr.sections.boom .boom s.vdr.factors.boom (m.get .boom) rfl).1 hb
  · exact (update_withheld s.vdr.sections.jib .jib s.vdr.factors.jib (m.get .jib) rfl).2 hj
  · exact (update_withheld s.vdr.sections.tele .tele s.vdr.factors.tele (m.get .tele) rfl).2 ht

theorem dutyGroup_eq {n b e : Nat} (he : e < 4) (h : n = 4 * b + e) :
    dutyGroup n = (dutyExtra e).map fun x => b + x := by
  unfold dutyGroup dutyBase dutyExt
  rw [show n / 4 = b by omega, show n % 4 = e by omega]

theorem takeShort_of_disabled {s : State} {v : Section} (c : Coil)
    (h : (s.vdr.sections.get v).isDisabled = true) : takeShort v c s = s := if_pos h

theorem takeShort_of_enabled {s : State} {v : Section} (c : Coil)
    (h : ¬(s.vdr.sections.get v).isDisabled = true) : takeShort v c s = { s with
      vdr := { s.vdr with sections := s.vdr.sections.set v ((s.vdr.sections.get v).disable (Coil.short c)) }
      clp := s.clp.setLive (.coilFault v) true } := if_neg h

/-- Settles O42. -/
theorem coilsAreDrivenAndDisabled : Obligations.CoilsAreDrivenAndDisabled := by
  refine ⟨fun s v hp => ⟨fun m => ⟨updateDrive m s, congrArg _ (whenPowered_eq hp), ?_⟩, fun c => ⟨fun he => ?_,
      fun f hf => ?_⟩⟩, fun m n s u v hp hu hs hf hm => ?_, fun s hp => ?_, fun x b e he hx => ?_⟩
  · dsimp only
    rw [updateDrive_section]
    have live : (s.vdr.sections.get v).isDisabled = false →
        ((s.vdr.sections.get v).update v (s.vdr.factors.get v) (m.get v)).isDisabled = true →
        (updateDrive m s).clp.isLive (.coilFault v) = true := fun h1 h2 => by
      show (noteCoilFaults _ _ _).isLive _ = true
      rw [noteCoilFaults_isLive, if_pos]
      rw [show (updatedSections m s.vdr).get v = _ from PerSection.get_map _ _ v, h1, h2]
      rfl
    have on : (s.vdr.sections.get v).coil = .enabled → (s.vdr.sections.get v).isDisabled = false := fun h => by
      simp [SectionState.isDisabled, h]
    refine ⟨fun he ⟨h1, h2, h3⟩ => ?_, fun he hn hc ⟨h1, h2, h3⟩ => ?_, fun f hf => SectionState.update_disabled v _ _ hf⟩
    · have hu := SectionState.update_openA v (s.vdr.factors.get v) (m.get v) he ((failsOpen_iff _ _).mpr ⟨h1, h2⟩)
        (Nat.le_of_eq h3.symm)
      exact ⟨hu, live (on he) (by rw [hu]; rfl)⟩
    · have hu := SectionState.update_openB v (s.vdr.factors.get v) (m.get v) he
        (fun ⟨hx, hy⟩ => hn ⟨((failsOpen_iff _ _).mp hx).1, ((failsOpen_iff _ _).mp hx).2, by omega⟩)
        ((failsOpen_iff _ _).mpr ⟨h1, h2⟩) (Nat.le_of_eq h3.symm)
      exact ⟨hu, live (on he) (by rw [hu]; rfl)⟩
  · have hd : ¬(s.vdr.sections.get v).isDisabled = true := by simp [SectionState.isDisabled, he]
    refine ⟨_, congrArg Host.Outcome.next ((whenPowered_eq hp).trans (takeShort_of_enabled c hd)), rfl, ?_, fun w hw => ?_,
      Clp.setLive_self _ _ _⟩
    · show (s.vdr.sections.set v _).get v = _
      rw [PerSection.get_set, if_pos rfl]
      cases c <;> rfl
    · show (s.vdr.sections.set v _).get w = _
      rw [PerSection.get_set, if_neg hw]
  · exact congrArg _ ((whenPowered_eq hp).trans
      (takeShort_of_disabled c ((SectionState.isDisabled_iff _).mpr ⟨f, hf⟩)))
  · refine ⟨updateDrive m s, updateDrive n u, congrArg _ (whenPowered_eq hp), congrArg _ (whenPowered_eq hu), ?_⟩
    rw [updateDrive_section, updateDrive_section, hs, hf, hm]
  · refine ⟨passMillisecond s, congrArg _ (whenPowered_eq hp), fun h => ?_, fun n h => ⟨fun hn => ?_, fun hn => ?_⟩⟩
    · show s.vdr.passMillisecond.groupTimer = none ∧ s.vdr.passMillisecond.sections = _
      simp [Vdr.passMillisecond, h, Timer.tick]
    · show s.vdr.passMillisecond.groupTimer = _ ∧ ∀ v, s.vdr.passMillisecond.sections.get v = _
      simp [Vdr.passMillisecond, h, hn, SectionState.beginGroup]
    · show s.vdr.passMillisecond.groupTimer = _ ∧ s.vdr.passMillisecond.sections = _
      simp [Vdr.passMillisecond, h, Timer.tick, show ¬n ≤ 1 by omega]
  · have hg : x.pulses.1 = (dutyExtra e).map fun y => b + y := dutyGroup_eq he hx
    refine ⟨fun h => ?_, fun h => ?_, fun h => ?_, fun h => ?_, fun h => congrArg dutyGroup h⟩ <;>
      subst h <;> simp [hg, dutyExtra]

/-! ## Levers (R166 to R168) -/

theorem demandsOf_none {l : List Int} (h : l.length ≠ 6) : demandsOf l = none := by
  unfold demandsOf
  split
  · exact absurd rfl h
  · rfl

theorem SectionState.takeDemand_cases (x : SectionState) (d : Int) :
    (x.latch = false → x.takeDemand d = { x with target := clampDemand d })
      ∧ (x.latch = true → (clampDemand d).natAbs ≤ 50 →
        x.takeDemand d = { x with target := clampDemand d, latch := false })
      ∧ (x.latch = true → 50 < (clampDemand d).natAbs → x.takeDemand d = { x with target := 0 }) := by
  unfold SectionState.takeDemand
  refine ⟨fun h => ?_, fun h hn => ?_, fun h hn => ?_⟩
  · simp [h]
  · simp [h, hn]
  · simp [h, Nat.not_le.mpr hn]

theorem expireLever_running {s : State} (h : s.vdr.leverTimer.isSome = true) : expireLever s = { s with
    vdr := { s.vdr with sections := s.vdr.sections.map fun _ x => x.hold, leverTimer := none }
    clp := s.clp.setLive .leverStale true } := if_pos h

/-- Settles O44. -/
theorem leversObeyTheNeutralLatch : Obligations.LeversObeyTheNeutralLatch := by
  refine fun s => ⟨fun hd d => ⟨takeLever d s, ?_, rfl, rfl, Clp.setLive_self _ _ _, Clp.setLive_of_same, fun v =>
      ⟨clampDemand (d.get v), clamp_isClamped _ _ _ (by decide), ?_⟩⟩, fun hs l hl => refusedWith_of hs ?_,
    fun hp ht => ⟨_, congrArg Host.Outcome.next ((whenPowered_eq hp).trans (expireLever_running ht)), rfl, rfl,
      Clp.setLive_self _ _ _, fun v => PerSection.get_map _ _ v⟩, fun hp ht => ?_⟩
  · exact congrArg _ (if_pos hd)
  · dsimp only
    rw [show (takeLever d s).vdr.sections.get v = (s.vdr.sections.get v).takeDemand (d.get v) from
      PerSection.get_map _ _ v]
    exact SectionState.takeDemand_cases _ _
  · show execLever l s = _
    unfold execLever
    rw [demandsOf_none hl]
  · exact congrArg _ ((whenPowered_eq hp).trans (if_neg (by simp [ht])))

/-! ## Section settings (R165, R178) -/

theorem SectionSettings.accepted_iff (cap : Nat) (t : SectionSettings) : t.accepted cap = true
    ↔ (t.iMin ≤ t.iMax ∧ t.iMax ≤ 2000 ∧ t.deadband ≤ 200 ∧ 1 ≤ t.up ∧ t.up ≤ 1000
      ∧ 1 ≤ t.down ∧ t.down ≤ 1000) ∧ t.iMax ≤ cap := by
  simp only [SectionSettings.accepted, Nat.inRange, Bool.and_eq_true, decide_eq_true_eq]
  omega

theorem Section.choice_code (v : Section) : Section.choice v.code = some [v] := by cases v <;> rfl

theorem Section.choice_none {n : Nat} (h : 7 ≤ n) : Section.choice n = none := by
  unfold Section.choice
  rw [if_neg (by omega), Section.ofCode_none (by omega)]
  rfl

theorem takeSection_section (chosen : List Section) (t : SectionSettings) (s : State) (v : Section) :
    (takeSection chosen t s).vdr.sections.get v
      = if v ∈ chosen then { s.vdr.sections.get v with settings := t } else s.vdr.sections.get v := by
  refine (PerSection.get_map _ _ v).trans ?_
  simp

/-- Settles O45: the sections chosen, by the range test under each one's cap. -/
theorem sectionSettingsObeyTheCaps : Obligations.SectionSettingsObeyTheCaps := by
  intro x s hs
  have one : ∀ v : Section, exec (.setSection v.code x) s
      = .next (if ([v].all fun w => x.accepted (s.sto.working.caps.get w)) = true then
          answer 0x49 .ok [] (takeSection [v] x) s else refuse 0x49 .badValue s) := fun v => by
    show execSetSection v.code x s = _
    unfold execSetSection
    rw [Section.choice_code]
  refine ⟨fun v => ⟨fun h hc => ?_, fun h => ?_⟩, fun h hc => ?_, fun h => ?_, fun n hn => ?_⟩
  · rw [one v, answer_of_pos hs (by simp [SectionSettings.accepted_iff]; exact ⟨h, hc⟩)]
    refine congrArg _ (State.ext_parts rfl rfl rfl rfl rfl rfl rfl rfl rfl ?_ rfl rfl rfl)
    refine congrArg (fun z => { s.vdr with sections := z }) (PerSection.ext_get fun w => ?_)
    refine (takeSection_section [v] x _ w).trans ?_
    rw [PerSection.get_set]
    by_cases hw : w = v
    · subst hw
      simp
    · simp [hw]
  · refine refusedWith_of hs ((one v).trans (congrArg _ (if_neg fun ha => ?_)))
    obtain ⟨hg, hc⟩ := (SectionSettings.accepted_iff _ _).mp (by simpa using ha)
    rcases h with h | h
    · exact h hg
    · omega
  · refine ⟨takeSection Section.list x (s.replied 0x49 .ok []), congrArg _ (answer_of_pos hs ?_), rfl, fun v =>
      (takeSection_section _ _ _ v).trans (if_pos (Section.mem_list v))⟩
    exact List.all_eq_true.mpr fun v _ => (SectionSettings.accepted_iff _ _).mpr ⟨h, hc v⟩
  · refine refusedWith_of hs (congrArg _ (if_neg fun ha => ?_))
    have hv := fun v => (SectionSettings.accepted_iff _ _).mp (List.all_eq_true.mp ha v (Section.mem_list v))
    rcases h with h | ⟨v, h⟩
    · exact h (hv .slew).1
    · have := (hv v).2
      omega
  · refine refusedWith_of hs ?_
    show execSetSection n x s = _
    unfold execSetSection
    rw [Section.choice_none hn]

end Sys2Proof.Machine
end

section
/-! PROOF. What LTR and the judgement of the sources leave in WEN, VDR and LOG: the figures of WEN that no change of
the lift state touches, and the valve sections. -/

namespace Sys2Proof.Machine

/-! ## WEN across the changes of LTR -/

/-- Two states of WEN that differ in windows, lift source and capture alone. -/
structure Wen.Same (w w' : Wen) : Prop where
  calibration : w'.calibration = w.calibration
  settings : w'.settings = w.settings
  k : w'.k = w.k
  latestTemperature : w'.latestTemperature = w.latestTemperature
  compensationTimer : w'.compensationTimer = w.compensationTimer
  source : w'.source = w.source
  history : w'.history = w.history
  liveEstimate : w'.liveEstimate = w.liveEstimate
  previousCorrected : w'.previousCorrected = w.previousCorrected
  previousCount : w'.previousCount = w.previousCount
  previousCylinder : w'.previousCylinder = w.previousCylinder
  frameForce : w'.frameForce = w.frameForce
  zeroOffset : w'.zeroOffset = w.zeroOffset

theorem Wen.Same.refl (w : Wen) : w.Same w := ⟨rfl, rfl, rfl, rfl, rfl, rfl, rfl, rfl, rfl, rfl, rfl, rfl, rfl⟩

theorem Wen.Same.trans {a b c : Wen} (h : a.Same b) (k : b.Same c) : a.Same c :=
  ⟨k.calibration.trans h.calibration,
    k.settings.trans h.settings,
    k.k.trans h.k,
    k.latestTemperature.trans h.latestTemperature,
    k.compensationTimer.trans h.compensationTimer,
    k.source.trans h.source,
    k.history.trans h.history,
    k.liveEstimate.trans h.liveEstimate,
    k.previousCorrected.trans h.previousCorrected,
    k.previousCount.trans h.previousCount,
    k.previousCylinder.trans h.previousCylinder,
    k.frameForce.trans h.frameForce,
    k.zeroOffset.trans h.zeroOffset⟩

theorem same_lift (w : Wen) (x : Option Source) (l e : Option Window) (c : Option Capture) :
    w.Same { w with liftSource := x, liftWindow := l, emptyWindow := e, capture := c } :=
  ⟨rfl, rfl, rfl, rfl, rfl, rfl, rfl, rfl, rfl, rfl, rfl, rfl, rfl⟩

variable {w : Wen} {s : State}

theorem same_failCapture {r : CaptureReason} (h : w.Same s.wen) : w.Same (failCapture r s).wen :=
  h.trans (same_lift _ _ _ _ _)

theorem same_abortCaptures {k : List CaptureKind} (h : w.Same s.wen) : w.Same (abortCaptures k s).wen := by
  unfold abortCaptures
  split
  · exact same_failCapture h
  · exact h

theorem same_enterState {x : LiftState} (h : w.Same s.wen) : w.Same (enterState x s).wen := by
  have k : w.Same ({ s with ltr := s.ltr.enter x, wen := s.wen.onLiftState x } : State).wen :=
    h.trans (same_lift _ _ _ _ _)
  exact same_abortCaptures k

theorem same_takeGrip (h : w.Same s.wen) : w.Same (takeGrip s).wen := same_enterState h

theorem same_releaseWithoutLift (h : w.Same s.wen) : w.Same (releaseWithoutLift s).wen := same_enterState h

theorem same_takeLiftOff (h : w.Same s.wen) : w.Same (takeLiftOff s).wen :=
  same_enterState (h.trans (same_lift _ _ _ _ _))

theorem same_completeWindow (h : w.Same s.wen) : w.Same (completeWindow s).wen := by
  unfold completeWindow
  split
  · split
    · exact same_enterState h
    · exact h
  · exact h

theorem same_takeDrop (h : w.Same s.wen) : w.Same (takeDrop s).wen := by
  refine same_enterState (same_abortCaptures ?_)
  exact h

theorem same_takeRelease (h : w.Same s.wen) : w.Same (takeRelease s).wen := by
  refine same_enterState ?_
  show w.Same (commit _ _ _ _ s).wen
  simpa using h

theorem same_judgeGrip (h : w.Same s.wen) : w.Same (judgeGrip s).wen := by
  unfold judgeGrip
  dsimp only
  split
  · split
    · split
      · exact same_takeRelease h
      · exact same_releaseWithoutLift h
    · exact h
  · split
    · exact same_takeGrip h
    · exact h

theorem same_judgeLive (h : w.Same s.wen) : w.Same (judgeLive s).wen := by
  unfold judgeLive
  dsimp only
  split
  · exact h
  · split
    · exact same_takeLiftOff h
    · exact h
  · split
    · exact same_takeDrop h
    · exact h

theorem same_handLiveUpdate (h : w.Same s.wen) : w.Same (handLiveUpdate s).wen := same_judgeLive h

theorem same_takeDowngrade {x : Source} (h : w.Same s.wen) : w.Same (takeDowngrade x s).wen := by
  unfold takeDowngrade
  split
  · exact h.trans (same_lift _ _ _ _ _)
  · exact h

theorem same_judgeLiftSource (h : w.Same s.wen) : w.Same (judgeLiftSource s).wen := by
  unfold judgeLiftSource
  split
  · exact h
  · exact h
  · split
    · exact h
    · exact same_takeDowngrade (h.trans (same_lift _ _ _ _ _))

/-! ## Sources (R65, R66) -/

/-- What the judgement of the sources reads stands (R65). -/
theorem available_congr {t : State} (hl : t.tlc.link = s.tlc.link)
    (hk : t.clp.isLive .tipStuck = s.clp.isLive .tipStuck)
    (hc : t.wen.calibration = s.wen.calibration) (hf : t.sto.working.fallback = s.sto.working.fallback)
    (hi : t.iau.channels = s.iau.channels) (hg : t.geo.valid = s.geo.valid) (x : Source) :
    available t x = available s x := by
  cases x <;> simp [available, cylinderReadable, hl, hk, hc, hf, hi, hg]

theorem judgedSource_congr {t : State} (h : ∀ x, available t x = available s x) :
    judgedSource t = judgedSource s := by simp only [judgedSource, h]

/-- An evaluation sets LIMIT_HOLD alone. -/
theorem evaluate_isLive (s : State) {d : Condition} (hd : d ≠ .limitHold) :
    (evaluate s).clp.isLive d = s.clp.isLive d := by
  have h : Reports (· = .limitHold) s.clp (evaluate s).clp := reports_evaluate rfl .refl
  exact h.isLive d hd

theorem handLiveUpdate_isLive (s : State) {d : Condition} (hd : d ≠ .limitHold) :
    (handLiveUpdate s).clp.isLive d = s.clp.isLive d := by
  have h : Reports (· = .limitHold) s.clp (handLiveUpdate s).clp := reports_handLiveUpdate rfl .refl
  exact h.isLive d hd

/-- A live-estimate update leaves every input of the sources. -/
theorem handLiveUpdate_available (s : State) (x : Source) :
    available (handLiveUpdate s) x = available s x :=
  available_congr (by simp) (handLiveUpdate_isLive s nofun)
    (same_handLiveUpdate (.refl _)).calibration (by simp) (by simp) (by simp) x

theorem evaluate_available (s : State) (x : Source) : available (evaluate s) x = available s x := by
  have hk : (evaluate s).clp.isLive .tipStuck = s.clp.isLive .tipStuck := evaluate_isLive s nofun
  refine available_congr ?_ hk ?_ ?_ ?_ ?_ x <;> rfl

theorem changeSource_available (y : Source) (s : State) (x : Source) :
    available (changeSource y s) x = available s x := by
  unfold changeSource
  rw [handLiveUpdate_available, evaluate_available]
  exact available_congr rfl rfl rfl rfl rfl rfl x

theorem judgeLiftSource_available (s : State) (x : Source) :
    available (judgeLiftSource s) x = available s x :=
  available_congr (by simp) (by simp) (same_judgeLiftSource (.refl _)).calibration (by simp) (by simp) (by simp) x

theorem changeSource_source (y : Source) (s : State) : (changeSource y s).wen.source = y :=
  (same_handLiveUpdate (.refl _)).source

theorem rejudgeSources_available (s : State) (x : Source) :
    available (rejudgeSources s) x = available s x := by
  unfold rejudgeSources
  rw [judgeLiftSource_available]
  split
  · rfl
  · exact changeSource_available _ s x

/-- After a judgement the current source is the one judged (R65). -/
theorem rejudgeSources_source (s : State) : (rejudgeSources s).wen.source = judgedSource s := by
  unfold rejudgeSources
  rw [(same_judgeLiftSource (.refl _)).source]
  split
  · rename_i h
    exact h.symm
  · exact changeSource_source _ s

theorem rejudgeSources_judged (s : State) :
    (rejudgeSources s).wen.source = judgedSource (rejudgeSources s) := by
  rw [rejudgeSources_source, judgedSource_congr (rejudgeSources_available s)]

/-! ## Evaluations that stand -/

/-- MLM stands on the module's inputs, evaluated from the stage b. -/
def State.evaluated (b : Stage) (t : State) : Prop := t.figured ∧ t.limited b

theorem evaluate_evaluated (s : State) : (evaluate s).evaluated s.mlm.stage :=
  ⟨evaluate_figured s, evaluate_limited s⟩

/-- An evaluation stands while its inputs do. -/
theorem State.evaluated.congr {b : Stage} {t : State} (h : s.evaluated b) (hm : t.mlm = s.mlm)
    (hx : t.ltr.state = s.ltr.state) (hr : t.ltr.result = s.ltr.result) (hs : t.ltr.settings = s.ltr.settings)
    (he : t.wen.liveEstimate = s.wen.liveEstimate) (hc : t.wen.calibration = s.wen.calibration)
    (hw : t.wen.source = s.wen.source) (hg : t.geo = s.geo) (hp : t.sto.working = s.sto.working)
    (hv : t.vdr.factors = s.vdr.factors) (hl : t.tlc.link = s.tlc.link)
    (hk : t.clp.isLive .limitHold = s.clp.isLive .limitHold) : t.evaluated b := by
  obtain ⟨hf, hx'⟩ := h
  refine ⟨?_, ?_⟩
  · unfold State.figured at hf ⊢
    simpa only [hm, hx, hr, hs, he, hc, hg, hp] using hf
  · unfold State.limited at hx' ⊢
    simpa only [hm, hw, hg, hv, hl, hk] using hx'

/-- The judgement of the lift source changes the lift source, its window and LTR's source field alone. -/
theorem judgeLiftSource_ltr (s : State) : (judgeLiftSource s).ltr
    = { s.ltr with source := (judgeLiftSource s).ltr.source } := by
  unfold judgeLiftSource takeDowngrade
  repeat' split
  all_goals rfl

theorem judgeLiftSource_evaluated {b : Stage} (h : s.evaluated b) : (judgeLiftSource s).evaluated b := by
  have hw : s.wen.Same (judgeLiftSource s).wen := same_judgeLiftSource (.refl _)
  have hl := judgeLiftSource_ltr s
  exact h.congr (by simp) (by rw [hl]) (by rw [hl]) (by rw [hl]) hw.liveEstimate hw.calibration hw.source
    (by simp) (by simp) (by simp) (by simp) (by simp)

/-- After the sources are judged the evaluation stands; it is a new one where the source changed. -/
theorem rejudgeSources_evaluated {b : Stage} (h : s.evaluated b) : ∃ b', (rejudgeSources s).evaluated b'
    ∧ ((rejudgeSources s).wen.source = s.wen.source → b' = b) := by
  rw [rejudgeSources_source]
  unfold rejudgeSources
  split
  · exact ⟨b, judgeLiftSource_evaluated h, fun _ => rfl⟩
  · rename_i hne
    exact ⟨_, judgeLiftSource_evaluated (evaluate_evaluated _), fun he => absurd he hne⟩

/-! ## An update without a live estimate -/

/-- LTR after an update without a live estimate: neither LIFT-OFF nor DROP holds (R91). -/
def Ltr.unestimated (l : Ltr) : Ltr :=
  match l.state with
  | .idle => l
  | .gripped => { l with liftOffStart := none }
  | _ => { l with dropStart := none }

theorem judgeLive_absent (h : s.wen.liveEstimate = none) :
    judgeLive s = { s with ltr := s.ltr.unestimated } := by
  unfold judgeLive Ltr.unestimated
  have ho : liftOffHolds s = false := by simp [liftOffHolds, h]
  have hd : dropHolds s = false := by simp [dropHolds, h]
  rw [ho, hd]
  cases hs : s.ltr.state <;> simp [qualify, hs]

/-- The source replaced, its history emptied and the empty window discarded (R65). -/
def sourced (y : Source) (s : State) : State :=
  { s with wen := { s.wen.emptyHistory with source := y, emptyWindow := none } }

theorem changeSource_eq (y : Source) (s : State) : changeSource y s
    = evaluate { evaluate (sourced y s) with ltr := s.ltr.unestimated } := by
  show evaluate (judgeLive (evaluate (sourced y s))) = _
  rw [judgeLive_absent rfl]
  rfl

/-- LTR's context but for the source field and the start stamps of LIFT-OFF and DROP. -/
theorem Ltr.unestimated_eq (l : Ltr) : l.unestimated
    = { l with liftOffStart := l.unestimated.liftOffStart, dropStart := l.unestimated.dropStart } := by
  unfold Ltr.unestimated
  split <;> rfl

/-- The judgement of the sources appends no entry and drives no valve. -/
@[simp] theorem rejudgeSources_kept (s : State) :
    (rejudgeSources s).log = s.log ∧ (rejudgeSources s).vdr.sections = s.vdr.sections
      ∧ (rejudgeSources s).vdr.leverTimer = s.vdr.leverTimer
      ∧ (rejudgeSources s).vdr.driveTimer = s.vdr.driveTimer
      ∧ (rejudgeSources s).vdr.groupTimer = s.vdr.groupTimer := by
  unfold rejudgeSources
  split
  · simp
  · rw [changeSource_eq]
    simp only [judgeLiftSource_frame]
    exact ⟨rfl, rfl, rfl, rfl, rfl⟩

/-! ## The profile handed on (R187) -/

theorem judgePayload_isLive (s : State) {d : Condition} (hd : d ≠ .payload) :
    (judgePayload s).clp.isLive d = s.clp.isLive d := by
  have h : Reports (· = .payload) s.clp (judgePayload s).clp := reports_judgePayload rfl .refl
  exact h.isLive d hd

theorem judgePayload_condition (s : State) : (judgePayload s).payloadCondition := by
  unfold State.payloadCondition
  show (s.clp.setLive .payload _).isLive .payload = true ↔ s.sto.working.payload ≤ s.tal.total
  rw [Clp.setLive_self]
  simp

theorem clampSections_factors (s : State) : (clampSections s).vdr.factors = s.vdr.factors := rfl

/-- The profile handed on: every user stands on it. -/
theorem handProfile_evaluated (s : State) : ∃ b, (handProfile s).evaluated b
    ∧ ((handProfile s).wen.source = s.wen.source → b = s.mlm.stage) := by
  obtain ⟨b, h, hb⟩ := rejudgeSources_evaluated (evaluate_evaluated s)
  refine ⟨b, ?_, fun he => hb ?_⟩
  · have hl := judgePayload_isLive (rejudgeSources (evaluate s)) (show Condition.limitHold ≠ .payload from nofun)
    refine h.congr ?_ ?_ ?_ ?_ ?_ ?_ ?_ ?_ ?_ ?_ ?_ ?_ <;> simp [handProfile, clampSections_factors, hl]
  · simpa [handProfile] using he

theorem handProfile_condition (s : State) : (handProfile s).payloadCondition := by
  have h := judgePayload_condition (rejudgeSources (evaluate s))
  unfold State.payloadCondition at h ⊢
  simpa [handProfile] using h

theorem handProfile_source (s : State) : (handProfile s).wen.source = judgedSource (handProfile s) := by
  have h := rejudgeSources_judged (evaluate s)
  have hl := judgePayload_isLive (rejudgeSources (evaluate s)) (show Condition.tipStuck ≠ .payload from nofun)
  have ha : ∀ x, available (handProfile s) x = available (rejudgeSources (evaluate s)) x := fun x => by
    refine available_congr ?_ ?_ ?_ ?_ ?_ ?_ x <;> simp [handProfile, hl]
  rw [judgedSource_congr ha]
  simpa [handProfile] using h

theorem handProfile_section (s : State) (v : Section) : ((handProfile s).vdr.sections.get v).settings
    = withinCap (s.sto.working.caps.get v) (s.vdr.sections.get v).settings := by
  unfold handProfile clampSections
  simp [evaluate]

end Sys2Proof.Machine
end

section
/-! PROOF. The capability profile and the writes of the store: PROFILE SET, SAVE SETTINGS and STORE_WRITE_PART. -/

namespace Sys2Proof.Machine

/-! ## Frames that wait -/

/-- No report takes a frame off the queue but a LIVE that another replaces (R195). -/
theorem Reports.mem_queue {D : Condition → Prop} {a b : Clp} {f : TxFrame} (h : Reports D a b)
    (hf : f.isLive = false) (hm : f ∈ a.queue) : f ∈ b.queue := by
  have live {c : Clp} {d : Condition} {v : Bool} (h : f ∈ c.queue) : f ∈ (c.setLive d v).queue := by
    obtain ⟨e, he, -⟩ := Clp.setLive_extends c d v
    rw [he]
    exact List.mem_append_left _ h
  induction h with
  | refl => exact hm
  | @send c n _ ih =>
    rcases Clp.send_cases c n with ⟨-, -, e⟩ | ⟨-, e⟩ | ⟨-, e⟩
    · rw [e]
      exact List.mem_map.mpr ⟨f, ih, by simp [hf]⟩
    · rw [e]
      exact ih
    · rw [e]
      exact List.mem_append_left _ ih
  | live d v _ _ ih => exact live ih
  | @latch c d _ ih =>
    obtain ⟨e, he, -⟩ := Clp.latch_extends c d
    rw [he]
    exact List.mem_append_left _ ih

theorem handProfile_mem_queue {f : TxFrame} {s : State} (hf : f.isLive = false) (hm : f ∈ s.clp.queue) :
    f ∈ (handProfile s).clp.queue :=
  Reports.mem_queue (D := fun _ => True) (reports_handProfile trivial trivial .refl) hf hm

theorem handProfile_log (s : State) : (handProfile s).log = s.log :=
  (rejudgeSources_kept (evaluate s)).1

/-! ## PROFILE SET (R186 to R188) -/

theorem profileMaskNames_iff (mask : Nat) :
    profileMaskNames mask = true ↔ ∃ i, i < 10 ∧ mask.testBit i = true := by
  simp [profileMaskNames, maskNames]

theorem profileFieldsInRange_iff (mask : Nat) (f : ProfileFields) : profileFieldsInRange mask f = true
    ↔ (mask.testBit 0 = true → f.mBase ≤ 65535) ∧ (mask.testBit 1 = true → f.tilt ≤ 450)
      ∧ (mask.testBit 2 = true → f.fallback ≤ 1) ∧ (mask.testBit 3 = true → f.payload ≤ 960000)
      ∧ ∀ v : Section, mask.testBit (4 + v.code) = true → f.caps.get v ≤ 2000 := by
  have hb : (fallbackOfCode f.fallback).isSome = true ↔ f.fallback ≤ 1 := by
    unfold fallbackOfCode
    split <;> simp_all
    omega
  have hv : (∀ v : Section, mask.testBit (4 + v.code) = true → f.caps.get v ≤ 2000)
      ↔ (f.caps.map fun v c => !maskNames mask (4 + v.code) || decide (c ≤ 2000)).toList.all (·) = true := by
    simp only [maskNames, PerSection.map, PerSection.toList, List.all_cons, List.all_nil, Bool.and_eq_true, Bool.or_eq_true,
      Bool.not_eq_true', decide_eq_true_eq, ← imp_iff_not_or, Bool.eq_false_iff]
    refine ⟨fun h => ⟨h .slew, h .boom, h .jib, h .tele, h .rotate, h .grapple, trivial⟩, ?_⟩
    rintro ⟨h1, h2, h3, h4, h5, h6, -⟩ v
    cases v <;> assumption
  unfold profileFieldsInRange
  rw [hv]
  simp only [maskNames, Bool.and_eq_true, Bool.or_eq_true, Bool.not_eq_true', decide_eq_true_eq, hb, and_assoc,
    ← imp_iff_not_or, ← Bool.not_eq_true]

theorem takeField_named {n : Bool} {factory old new : Nat} (h : n = true) (hn : new ≤ factory) :
    takeField n factory old new = new := by simp [takeField, h, hn]

theorem takeField_ignored {n : Bool} {factory old new : Nat} (h : ¬n = true ∨ factory < new) :
    takeField n factory old new = old := by
  unfold takeField
  rw [if_neg]
  rw [Bool.and_eq_true, decide_eq_true_eq]
  rintro ⟨hn, hl⟩
  rcases h with h | h
  · exact h hn
  · omega

theorem testBit_ignored (a b c : Bool) (i : Nat) :
    ((if a then 2 ^ 0 else 0) + (if b then 2 ^ 1 else 0) + (if c then 2 ^ 3 else 0) : Nat).testBit i = true
      ↔ (i = 0 ∧ a = true) ∨ (i = 1 ∧ b = true) ∨ (i = 3 ∧ c = true) := by
  by_cases h : i < 4
  · interval_cases i <;> cases a <;> cases b <;> cases c <;> decide
  · rw [Nat.testBit_lt_two_pow]
    · simp only [Bool.false_eq_true, false_iff]
      omega
    · calc _ ≤ 2 ^ 0 + 2 ^ 1 + 2 ^ 3 := by split <;> split <;> split <;> decide
        _ < 2 ^ 4 := by decide
        _ ≤ 2 ^ i := Nat.pow_le_pow_right (by decide) (by omega)

/-- No cap within its range lies above its factory value, so that the ignored fields are among the first four
(R188). -/
theorem profileIgnored_eq {mask : Nat} {f : ProfileFields}
    (h : ∀ v : Section, mask.testBit (4 + v.code) = true → f.caps.get v ≤ 2000) :
    profileIgnored mask f
      = (if maskNames mask 0 && decide (11000 < f.mBase) then 2 ^ 0 else 0)
        + (if maskNames mask 1 && decide (250 < f.tilt) then 2 ^ 1 else 0)
        + (if maskNames mask 3 && decide (16000 < f.payload) then 2 ^ 3 else 0) := by
  have hv : ∀ v : Section, (maskNames mask (4 + v.code) && decide (2000 < f.caps.get v)) = false := fun v => by
    rw [Bool.and_eq_false_imp]
    intro hn
    have := h v hn
    simpa using this
  have hs : (f.caps.map fun v c => if maskNames mask (4 + v.code) && decide (Profile.factory.caps.get v < c)
      then 2 ^ (4 + v.code) else 0).toList.sum = 0 := by
    have h0 : (f.caps.map fun v c => if maskNames mask (4 + v.code) && decide (Profile.factory.caps.get v < c)
        then 2 ^ (4 + v.code) else 0) = .all 0 := PerSection.ext_get fun v => by
      rw [PerSection.get_map, PerSection.get_all, show Profile.factory.caps.get v = 2000 from PerSection.get_all 2000 v,
        hv v]
      rfl
    rw [h0]
    rfl
  unfold profileIgnored
  dsimp only
  rw [hs]
  rfl

theorem profileIgnored_testBit {mask : Nat} {f : ProfileFields}
    (h : ∀ v : Section, mask.testBit (4 + v.code) = true → f.caps.get v ≤ 2000) (i : Nat) :
    (profileIgnored mask f).testBit i = true ↔ mask.testBit i = true
      ∧ ((i = 0 ∧ 11000 < f.mBase) ∨ (i = 1 ∧ 250 < f.tilt) ∨ (i = 3 ∧ 16000 < f.payload)) := by
  rw [profileIgnored_eq h, testBit_ignored]
  simp only [maskNames, Bool.and_eq_true, decide_eq_true_eq]
  constructor
  · rintro (⟨rfl, h⟩ | ⟨rfl, h⟩ | ⟨rfl, h⟩) <;> simp [h]
  · rintro ⟨hn, ⟨rfl, h⟩ | ⟨rfl, h⟩ | ⟨rfl, h⟩⟩ <;> simp [h, hn]

theorem withinCap_eq (cap : Nat) (t : SectionSettings) : withinCap cap t
    = { t with iMax := min t.iMax cap, iMin := min t.iMin (min t.iMax cap) } := rfl

/-- Settles O46: the handover's lemmas, on the state whose working profile has changed. -/
theorem profileSetStaysWithinFactory : Obligations.ProfileSetStaysWithinFactory := by
  intro mask f s hs
  dsimp only
  have judged : ((∃ i, i < 10 ∧ mask.testBit i = true) ∧ (mask.testBit 0 = true → f.mBase ≤ 65535)
      ∧ (mask.testBit 1 = true → f.tilt ≤ 450) ∧ (mask.testBit 2 = true → f.fallback ≤ 1)
      ∧ (mask.testBit 3 = true → f.payload ≤ 960000)
      ∧ ∀ v : Section, mask.testBit (4 + v.code) = true → f.caps.get v ≤ 2000)
      ↔ (profileMaskNames mask && profileFieldsInRange mask f) = true := by
    rw [Bool.and_eq_true, profileMaskNames_iff, profileFieldsInRange_iff]
  have notFrozen (h : s.sto.freeze = .opened) : ¬s.sto.freeze = .frozen := by
    rw [h]
    nofun
  refine ⟨fun h => refusedWith_of hs ?_, fun h hf => refusedWith_of hs ?_, fun h hf hw => refusedWith_of hs ?_,
    fun h hf hw => ?_⟩
  · exact congrArg _ (if_neg (mt judged.mpr h))
  · exact congrArg _ ((if_pos (judged.mp h)).trans (if_pos hf))
  · exact congrArg _ ((if_pos (judged.mp h)).trans ((if_neg (notFrozen hf)).trans (if_pos hw)))
  · obtain ⟨-, -, -, hb, -, hc⟩ := id h
    let p := profileAfterSet mask f s.sto.working
    let u : State := { s.replied 0x51 .accepted (u16 (profileIgnored mask f)) with sto := { s.sto with working := p } }
    have he : exec (.profileSet mask f) s = .next (beginWrite (.profile .set p) (handProfile u)) := by
      refine congrArg _ ((if_pos (judged.mp h)).trans ((if_neg (notFrozen hf)).trans ((if_neg ?_).trans ?_)))
      · rw [hw]
        nofun
      · exact answer_short hs (by simp)
    have hm : TxFrame.reply 0x51 .accepted 0 true (u16 (profileIgnored mask f)) ∈ (handProfile u).clp.queue := by
      refine handProfile_mem_queue rfl ?_
      show _ ∈ (s.replied _ _ _).clp.queue
      rw [replied_short (by simp)]
      simp
    obtain ⟨b, ⟨hfig, hlim⟩, -⟩ := handProfile_evaluated u
    have hst : (handProfile u).sto = u.sto := by simp
    have hwk : (handProfile u).sto.working = p := by simp [u]
    have hcap (v : Section) : p.caps.get v
        = takeField (maskNames mask (4 + v.code)) 2000 (s.sto.working.caps.get v) (f.caps.get v) := by
      show (s.sto.working.caps.map _).get v = _
      rw [PerSection.get_map, show Profile.factory.caps.get v = 2000 from PerSection.get_all 2000 v]
    refine ⟨_, b, he, ?_, ?_, ?_, ?_, ?_, ?_, ?_, ?_, ?_, ?_, handProfile_condition u, handProfile_source u, hfig, hlim,
      ?_, ?_, ?_, ?_, ?_, _, hm, profileIgnored_testBit hc⟩
    all_goals dsimp only [beginWrite]
    all_goals try rw [hwk]
    · rw [hst]
    · exact takeField_named
    · exact takeField_ignored
    · exact takeField_named
    · exact takeField_ignored
    · intro hn
      have hb := hb hn
      show (if mask.testBit 2 = true then (fallbackOfCode f.fallback).getD s.sto.working.fallback
        else s.sto.working.fallback) = true ↔ _
      rw [if_pos hn]
      interval_cases f.fallback <;> simp [fallbackOfCode]
    · exact fun hn => if_neg hn
    · exact takeField_named
    · exact takeField_ignored
    · refine fun v => ⟨fun hn => ?_, fun hn => ?_, ?_⟩
      · exact (hcap v).trans (takeField_named hn (hc v hn))
      · exact (hcap v).trans (takeField_ignored (.inl hn))
      · rw [handProfile_section]
        rfl
    · simp [u]
    · simp [u]
    · simp [u]
    · simp [u]
    · exact handProfile_log u

/-! ## PROFILE RESTORE and PROFILE FREEZE (R189) -/

/-- PROFILE RESTORE and PROFILE FREEZE as the module performs them. -/
theorem profileRestore_and_freeze (s : State) (hs : s.serves 1) :
    (s.sto.freeze = .frozen → refusedWith .profileRestore 0x52 .frozen s
       ∧ refusedWith .profileFreeze 0x53 .frozen s)
     ∧ (s.sto.freeze = .opened → s.sto.write.isSome = true → refusedWith .profileRestore 0x52 .busy s
       ∧ refusedWith .profileFreeze 0x53 .busy s)
     ∧ (s.sto.freeze = .opened → s.sto.write = none →
       exec .profileRestore s = .next (beginWrite (.profile .restore .factory)
         (changeProfile .factory (s.replied 0x52 .accepted [])))
       ∧ exec .profileFreeze s = .next (freezeProfile (s.replied 0x53 .accepted []))) := by
  have notFrozen (h : s.sto.freeze = .opened) : ¬s.sto.freeze = .frozen := by
    rw [h]
    nofun
  have notBusy (h : s.sto.write = none) : ¬s.sto.write.isSome = true := by
    rw [h]
    nofun
  refine ⟨fun h => ⟨refusedWith_of hs (congrArg _ (if_pos h)), refusedWith_of hs (congrArg _ (if_pos h))⟩,
    fun h hw => ⟨refusedWith_of hs ?_, refusedWith_of hs ?_⟩, fun h hw => ⟨?_, ?_⟩⟩
  · exact congrArg _ ((if_neg (notFrozen h)).trans (if_pos hw))
  · exact congrArg _ ((if_neg (notFrozen h)).trans (if_pos hw))
  · exact congrArg _ ((if_neg (notFrozen h)).trans (answer_of_neg hs (notBusy hw)))
  · exact congrArg _ ((if_neg (notFrozen h)).trans (answer_of_neg hs (notBusy hw)))

/-! ## Writes (R184, R185) -/

/-- What the last part of a write sends: STORE_DONE, or its loss. -/
theorem notify_storeDone (k : WriteKind) (s : State) :
    (s.clp.queue.length < 32 → notify (.storeDone k) s
      = { s with clp := { s.clp with queue := s.clp.queue ++ [.notice (.storeDone k)] } })
    ∧ (32 ≤ s.clp.queue.length → notify (.storeDone k) s
      = { s with clp := { s.clp with lost := min 255 (s.clp.lost + 1) } }) := by
  refine ⟨fun h => ?_, fun h => ?_⟩
  · show { s with clp := _ } = _
    rw [Clp.send_of_short rfl h]
  · show { s with clp := _ } = _
    rw [Clp.send_of_long rfl h]

theorem finishPart_save {s : State} {r : SettingsRecord} {c : Calibration}
    (h : s.sto.write = some (.save r c .settings)) : finishPart s = { s with sto := { s.sto with
      settingsSlot := .record r (some .settings) 0, write := some (.save r c .calibration) } } := by
  unfold finishPart
  rw [h]
  rfl

theorem finishPart_calibration {s : State} {r : SettingsRecord} {c : Calibration}
    (h : s.sto.write = some (.save r c .calibration)) : finishPart s = notify (.storeDone .saveSettings)
      { s with sto := { s.sto with calibrationSlot := .record c (some .calibration) 0, write := none } } := by
  unfold finishPart
  rw [h]
  rfl

theorem finishPart_profile {s : State} {k : ProfileWrite} {p : Profile}
    (h : s.sto.write = some (.profile k p)) : finishPart s = notify (.storeDone (StoreWrite.profile k p).kind)
      { s with sto := { s.sto with profileSlot := .record p (some .profile) 0, write := none } } := by
  unfold finishPart
  rw [h]
  rfl

theorem breakOff_of {t : Sto} {w : StoreWrite} (h : t.write = some w) : t.breakOff
    = match w.record with
      | .profile => { t with write := none, profileSlot := .unreadable }
      | .settings => { t with write := none, settingsSlot := .unreadable }
      | .calibration => { t with write := none, calibrationSlot := .unreadable } := by
  cases w with
  | save _ _ part => cases part <;> simp [Sto.breakOff, h, StoreWrite.record]
  | profile => simp [Sto.breakOff, h, StoreWrite.record]

theorem breakOff_write (t : Sto) : t.breakOff.write = none := by
  cases h : t.write with
  | none => simp [Sto.breakOff, h]
  | some w =>
    rw [breakOff_of h]
    cases w.record <;> rfl

/-- Settles O48: each part of a write, and the record that a loss of supply breaks off. -/
theorem storeWritesRunByParts : Obligations.StoreWritesRunByParts := by
  refine ⟨fun s => ⟨fun hs => ⟨fun hw => refusedWith_of hs (congrArg _ (if_pos hw)), fun hw => ?_⟩, fun hp => ?_⟩,
    fun s hp => ⟨_, congrArg Host.Outcome.next (whenPowered_eq hp), rfl, rfl, breakOff_write _, rfl, rfl, rfl,
      fun hw => ?_, fun r c hw => ?_, fun r c hw => ?_, fun k p hw => ?_⟩⟩
  · refine ⟨currentSettings s, congrArg _ (answer_of_neg hs (by simp [hw])), rfl, rfl, rfl, rfl, rfl, rfl, rfl, rfl, rfl,
      rfl, rfl, fun c => ?_, fun l => ?_, fun v => ?_⟩
    · exact PerChannel.get_map _ _ c
    · exact PerLine.get_map _ _ l
    · exact PerSection.get_map _ _ v
  · have he : exec .storeWritePart s = .next (finishPart s) := congrArg _ (whenPowered_eq hp)
    rw [he]
    refine ⟨fun hw => ?_, fun r c hw => congrArg _ (finishPart_save hw), fun r c hw => ?_, fun k p hw => ?_⟩
    · unfold finishPart
      rw [hw]
    · rw [finishPart_calibration hw]
      exact ⟨fun h => congrArg _ ((notify_storeDone _ _).1 h), fun h => congrArg _ ((notify_storeDone _ _).2 h)⟩
    · rw [finishPart_profile hw]
      cases k <;>
        exact ⟨fun h => congrArg _ ((notify_storeDone _ _).1 h), fun h => congrArg _ ((notify_storeDone _ _).2 h)⟩
  · show s.sto.breakOff = _
    unfold Sto.breakOff
    rw [hw]
  · exact breakOff_of hw
  · exact breakOff_of hw
  · exact breakOff_of hw

end Sys2Proof.Machine
end

section
/-! PROOF. What WEN, LTR, TAL, LOG and MLM do to the module between two changes of its inputs. `Mild s t` says that
`t` keeps every promise that `s` keeps and touches nothing that another block's promise is about; `Works s t` says
that `t` comes from `s` by mild steps, evaluations, new figures of the tally, changes of the lift state, and
judgements of the current source. Every shared operation is shown to be such a sequence once; each invariant is then an induction
over seven constructors. -/

namespace Sys2Proof.Machine

/-! ## Steps that no promise of another block is about -/

/-- The conditions that no promise ties to their owner's state. -/
def Condition.loose : Condition → Prop
  | .tipOverrange => True
  | .tipErrOverflow => True
  | .sensorFault _ => True
  | .geometryInvalid => True
  | .zeroDrift => True
  | _ => False

/-- CLP keeps its own promises, and every frame that waits still waits in its place. -/
structure Clp.Grows (a b : Clp) : Prop where
  covered : a.covered → b.covered
  bounded : a.bounded → b.bounded
  queue : ∃ rest, b.queue = a.queue ++ rest

/-- A step of WEN that leaves the source and the validity of the tip calibration, keeps z in its limit and an absent
estimate absent, and ends a capture or adds a value to it without filling its window. -/
structure Wen.Like (w w' : Wen) : Prop where
  tipValid : w'.calibration.tipValid = w.calibration.tipValid
  source : w'.source = w.source
  tracked : w.tracked → w'.tracked
  empty : w.source = .none → w.history = [] ∧ w.liveEstimate = none →
    w'.history = [] ∧ w'.liveEstimate = none
  capture : w'.capture = none ∨ w'.capture = w.capture
    ∨ ∃ (c : Capture) (n : Nat) (x : Int), w.capture = some c ∧ n < 32
      ∧ w'.capture = some { c with count := n, sum := x }

/-- A step of VDR that drives no section anew. -/
structure Vdr.Like (d d' : Vdr) : Prop where
  sections : ∀ v, (d.sections.get v).safe → (d'.sections.get v).safe
  disabled : ∀ v, (d'.sections.get v).isDisabled = (d.sections.get v).isDisabled
  factors : d'.factors = d.factors
  leverTimer : d'.leverTimer.isSome = d.leverTimer.isSome

structure Mild (s t : State) : Prop where
  powered : t.powered = s.powered
  pending : t.pending = s.pending
  status : ∀ c, (t.iau.channels.get c).status = (s.iau.channels.get c).status
  valid : t.geo.valid = s.geo.valid
  link : t.tlc.link = s.tlc.link
  orderly : s.tlc.orderly → t.tlc.orderly
  wen : s.wen.Like t.wen
  windowed : s.liftWindowed → t.liftWindowed
  state : t.ltr.state = s.ltr.state
  consistent : s.ltr.consistent → t.ltr.consistent
  bounded : s.tal.bounded → t.tal.bounded
  labelled : s.tal.labelled → t.tal.labelled
  total : t.tal.total = s.tal.total
  numbered : s.log.numbered → t.log.numbered
  stage : t.mlm.stage = s.mlm.stage
  vdr : s.vdr.Like t.vdr
  working : t.sto.working = s.sto.working
  freeze : t.sto.freeze = s.sto.freeze
  clp : s.clp.Grows t.clp
  live : ∀ d : Condition, ¬d.loose → t.clp.isLive d = s.clp.isLive d

/-! ## CLP grows -/

namespace Clp.Grows

theorem refl (c : Clp) : c.Grows c := ⟨id, id, [], by simp⟩

theorem trans {a b c : Clp} (h : a.Grows b) (k : b.Grows c) : a.Grows c where
  covered := k.covered ∘ h.covered
  bounded := k.bounded ∘ h.bounded
  queue := by
    obtain ⟨x, hx⟩ := h.queue
    obtain ⟨y, hy⟩ := k.queue
    exact ⟨x ++ y, by rw [hy, hx, List.append_assoc]⟩

theorem send {n : Notice} (hn : (TxFrame.notice n).isLive = false) (c : Clp) : c.Grows (c.send n) where
  covered := Clp.send_covered c n
  bounded h := ⟨by have := Clp.send_queue_length c n; have := h.1; omega, Clp.send_lost c n h.2⟩
  queue := by
    obtain ⟨e, h, -⟩ := Clp.send_extends c hn
    exact ⟨e, h⟩

theorem setLive (c : Clp) (d : Condition) (v : Bool) : c.Grows (c.setLive d v) where
  covered := Clp.setLive_covered c d v
  bounded h := ⟨by have := Clp.setLive_queue_length c d v; have := h.1; omega, Clp.setLive_lost c d v h.2⟩
  queue := by
    obtain ⟨e, h, -⟩ := Clp.setLive_extends c d v
    exact ⟨e, h⟩

theorem latch (c : Clp) (d : Condition) : c.Grows (c.latch d) where
  covered := Clp.latch_covered c d
  bounded h := ⟨by have := Clp.latch_queue_length c d; have := h.1; omega, Clp.latch_lost c d h.2⟩
  queue := by
    obtain ⟨e, h, -⟩ := Clp.latch_extends c d
    exact ⟨e, h⟩

/-- A reply that finds room. -/
theorem enqueue (c : Clp) {f : List TxFrame} (h : c.queue.length + f.length ≤ 64) : c.Grows (c.enqueue f) where
  covered := id
  bounded k := ⟨by simpa [Clp.enqueue] using h, k.2⟩
  queue := ⟨f, rfl⟩

theorem lose (c : Clp) : c.Grows c.lose where
  covered := id
  bounded h := ⟨h.1, by unfold Clp.lose; dsimp only; omega⟩
  queue := ⟨[], by simp [Clp.lose]⟩

end Clp.Grows

/-! ## Mild steps of one block -/

namespace Wen.Like

theorem refl (w : Wen) : w.Like w := ⟨rfl, rfl, id, fun _ => id, .inr (.inl rfl)⟩

/-- A step of WEN that touches nothing a promise is about. -/
theorem of_eq {w w' : Wen} (hs : w'.settings = w.settings) (hc : w'.calibration.tipValid = w.calibration.tipValid)
    (hx : w'.source = w.source) (hz : w'.zeroOffset = w.zeroOffset) (hh : w'.history = w.history)
    (he : w'.liveEstimate = w.liveEstimate) (hk : w'.capture = none ∨ w'.capture = w.capture) :
    w.Like w' where
  tipValid := hc
  source := hx
  tracked := by unfold Wen.tracked; rw [hs, hz]; exact id
  empty := by rw [hh, he]; exact fun _ => id
  capture := hk.imp_right .inl

end Wen.Like

theorem Wen.Like.trans {a b c : Wen} (h : a.Like b) (k : b.Like c) : a.Like c where
  tipValid := k.tipValid.trans h.tipValid
  source := k.source.trans h.source
  tracked := k.tracked ∘ h.tracked
  empty hs hx := k.empty (h.source.trans hs) (h.empty hs hx)
  capture := by
    rcases k.capture with e | e | ⟨x, n, y, e, hn, e'⟩
    · exact .inl e
    · rw [e]
      exact h.capture
    · rcases h.capture with f | f | ⟨x', n', y', f, -, f'⟩
      · rw [e] at f
        cases f
      · exact .inr (.inr ⟨x, n, y, f ▸ e, hn, e'⟩)
      · obtain rfl : x = { x' with count := n', sum := y' } := Option.some.inj (e.symm.trans f')
        exact .inr (.inr ⟨x', n, y, f, hn, e'⟩)

theorem Vdr.Like.trans {a b c : Vdr} (h : a.Like b) (k : b.Like c) : a.Like c :=
  ⟨fun v => k.sections v ∘ h.sections v, fun v => (k.disabled v).trans (h.disabled v),
    k.factors.trans h.factors, k.leverTimer.trans h.leverTimer⟩

theorem Vdr.Like.refl (d : Vdr) : d.Like d := ⟨fun _ => id, fun _ => rfl, rfl, rfl⟩

namespace Mild

theorem refl (s : State) : Mild s s :=
  ⟨rfl, rfl, fun _ => rfl, rfl, rfl, id, .refl _, id, rfl, id, id, id, rfl, id, rfl, .refl _, rfl, rfl, .refl _,
    fun _ _ => rfl⟩

theorem trans {s t u : State} (h : Mild s t) (k : Mild t u) : Mild s u where
  powered := k.powered.trans h.powered
  pending := k.pending.trans h.pending
  status c := (k.status c).trans (h.status c)
  valid := k.valid.trans h.valid
  link := k.link.trans h.link
  orderly := k.orderly ∘ h.orderly
  wen := h.wen.trans k.wen
  windowed := k.windowed ∘ h.windowed
  state := k.state.trans h.state
  consistent := k.consistent ∘ h.consistent
  bounded := k.bounded ∘ h.bounded
  labelled := k.labelled ∘ h.labelled
  total := k.total.trans h.total
  numbered := k.numbered ∘ h.numbered
  stage := k.stage.trans h.stage
  vdr := h.vdr.trans k.vdr
  working := k.working.trans h.working
  freeze := k.freeze.trans h.freeze
  clp := h.clp.trans k.clp
  live d hd := (k.live d hd).trans (h.live d hd)

variable (s : State)

theorem of_iau (x : Iau) (h : ∀ c, (x.channels.get c).status = (s.iau.channels.get c).status) :
    Mild s { s with iau := x } := { Mild.refl s with status := h }

theorem of_tlc (x : Tlc) (hl : x.link = s.tlc.link) (h : s.tlc.orderly → x.orderly) :
    Mild s { s with tlc := x } := { Mild.refl s with link := hl, orderly := h }

theorem of_geo (x : Geo) (h : x.valid = s.geo.valid) : Mild s { s with geo := x } :=
  { Mild.refl s with valid := h }

theorem of_wen (w : Wen) (hw : s.wen.Like w) (hl : s.liftWindowed → ({ s with wen := w } : State).liftWindowed) :
    Mild s { s with wen := w } := { Mild.refl s with wen := hw, windowed := hl }

theorem of_ltr (l : Ltr) (hs : l.state = s.ltr.state) (hl : s.ltr.consistent → l.consistent) :
    Mild s { s with ltr := l } :=
  { Mild.refl s with
    state := hs, consistent := hl
    windowed := by unfold State.liftWindowed; dsimp only; rw [hs]; exact id }

theorem of_tal (x : Tal) (hb : s.tal.bounded → x.bounded) (hl : s.tal.labelled → x.labelled)
    (ht : x.total = s.tal.total) : Mild s { s with tal := x } :=
  { Mild.refl s with bounded := hb, labelled := hl, total := ht }

theorem of_log (x : Log) (h : s.log.numbered → x.numbered) : Mild s { s with log := x } :=
  { Mild.refl s with numbered := h }

theorem of_mlm (x : Mlm) (h : x.stage = s.mlm.stage) : Mild s { s with mlm := x } :=
  { Mild.refl s with stage := h }

theorem of_vdr (x : Vdr) (h : s.vdr.Like x) : Mild s { s with vdr := x } := { Mild.refl s with vdr := h }

theorem of_sto (x : Sto) (hw : x.working = s.sto.working) (hf : x.freeze = s.sto.freeze) :
    Mild s { s with sto := x } := { Mild.refl s with working := hw, freeze := hf }

theorem of_clp (c : Clp) (h : s.clp.Grows c) (hl : ∀ d : Condition, ¬d.loose → c.isLive d = s.clp.isLive d) :
    Mild s { s with clp := c } := { Mild.refl s with clp := h, live := hl }

/-- The lift source and window stand, so they are kept exactly in a lift as before. -/
theorem of_wen_lift (w : Wen) (hw : s.wen.Like w) (hs : w.liftSource = s.wen.liftSource)
    (hl : w.liftWindow.isSome = s.wen.liftWindow.isSome) : Mild s { s with wen := w } :=
  of_wen s w hw (by unfold State.liftWindowed; dsimp only; rw [hs, hl]; exact id)

end Mild

/-! ## The steps of the tasks -/

/-- A change of the lift state before its evaluation: the lift context and WEN's lift fields change, WEN is handed
the new state, and a capture it breaks fails (R87). -/
def enterOn (new : LiftState) (l : Ltr) (source : Option Source) (window : Option Window) (s : State) :
    State :=
  abortCaptures (brokenBy new)
    { s with
      ltr := l.enter new
      wen := ({ s.wen with liftSource := source, liftWindow := window } : Wen).onLiftState new }

/-- A capture ends with a new calibration, and R58 is judged anew (R74). -/
def calibrated (cal : Calibration) (s : State) : State :=
  judgeNoCal { s with wen := { s.wen with calibration := cal, capture := none } }

/-- The current source is the one judged. -/
def State.judged (s : State) : Prop := s.wen.source = judgedSource s

inductive Works : State → State → Prop
  | refl {s : State} : Works s s
  | mild {s t u : State} (h : Works s t) (k : Mild t u) : Works s u
  | evaluation {s t : State} (h : Works s t) : Works s (evaluate t)
  | enter {s t : State} (new : LiftState) (l : Ltr) (source : Option Source) (window : Option Window)
      (hl : t.ltr.consistent → (l.enter new).consistent)
      (hw : t.liftWindowed → new.inLift = true → source.isSome ∧ window.isSome) (h : Works s t) :
      Works s (enterOn new l source window t)
  | count {s t u : State} (x : Tal) (hb : t.tal.bounded → x.bounded) (hl : t.tal.labelled → x.labelled)
      (h : Works s t) (k : Mild { t with tal := x } u) : Works s (judgePayload u)
  | source {s t : State} (h : Works s t) : Works s (sourced (judgedSource t) t)
  | calibrate {s t u : State} (cal : Calibration) (h : Works s t) (k : Works (calibrated cal t) u)
      (hu : u.judged) : Works s u

theorem Works.trans {s t u : State} (h : Works s t) (k : Works t u) : Works s u := by
  induction k with
  | refl => exact h
  | mild _ hm ih => exact .mild (ih h) hm
  | evaluation _ ih => exact .evaluation (ih h)
  | enter new l x w hl hw _ ih => exact .enter new l x w hl hw (ih h)
  | count x hb hl _ k ih => exact .count x hb hl (ih h) k
  | source _ ih => exact .source (ih h)
  | calibrate cal _ k hu ih _ => exact .calibrate cal (ih h) k hu

theorem Mild.works {s t : State} (h : Mild s t) : Works s t := .mild .refl h

variable {s t : State}

/-- A setting of a loose condition. -/
theorem works_setLive {d : Condition} {v : Bool} (hd : d.loose) (h : Works s t) : Works s (setLive d v t) :=
  h.mild (.of_clp t _ (.setLive _ _ _) fun e he => by
    rw [Clp.setLive_isLive, if_neg]
    intro x
    exact he (Condition.index_injective x ▸ hd))

theorem mild_notify {n : Notice} (hn : (TxFrame.notice n).isLive = false) (s : State) : Mild s (notify n s) :=
  .of_clp s _ (.send hn _) fun e _ => by simp [Clp.isLive]

theorem works_notify {n : Notice} (hn : (TxFrame.notice n).isLive = false) (h : Works s t) : Works s (notify n t) :=
  h.mild (mild_notify hn t)

theorem mild_latch (d : Condition) (s : State) : Mild s (latch d s) :=
  .of_clp s _ (.latch _ _) fun e _ => by simp [Clp.isLive]

/-- An entry takes the next number, behind those that are left (R139). -/
theorem Log.append_numbered (l : Log) (p : EntryPart) (h : l.numbered) : (l.append p).numbered := by
  obtain ⟨hlen, hseq⟩ := h
  have key : ∀ k : List Entry, k.length < 128 → (∀ (i : Nat) (hi : i < k.length),
      k[i].sequence + BitVec.ofNat 32 (k.length - i) = l.nextSequence) → ∀ e : Entry, e.sequence = l.nextSequence →
      ({ l with ring := k ++ [e], nextSequence := l.nextSequence + 1 } : Log).numbered := by
    refine fun k hk hs e he => ⟨by simpa using hk, fun i hi => ?_⟩
    simp only [List.length_append, List.length_singleton] at hi ⊢
    rcases Nat.lt_or_ge i k.length with h | h
    · rw [List.getElem_append_left h, ← hs i h, BitVec.add_assoc]
      congr 1
      rw [show k.length + 1 - i = (k.length - i) + 1 by omega, BitVec.ofNat_add]
      rfl
    · obtain rfl : i = k.length := by omega
      simp [he]
  unfold Log.append
  dsimp only
  split
  · rename_i hf
    have hf : 128 ≤ l.ring.length := by simpa using hf
    refine key _ (by simp; omega) (fun i hi => ?_) _ rfl
    simp only [List.length_drop] at hi ⊢
    rw [List.getElem_drop, ← hseq (1 + i) (by omega)]
    congr 2
    omega
  · rename_i hf
    exact key _ (by simpa using hf) hseq _ rfl

theorem mild_record (p : EntryPart) (s : State) : Mild s (record p s) := by
  have ha : Mild s { s with log := s.log.append p } := .of_log s _ (Log.append_numbered _ p)
  rcases record_cases p s with ⟨-, e⟩ | ⟨-, -, e⟩ | ⟨-, -, e⟩
  · rw [e]
    exact .refl s
  · rw [e]
    exact ha
  · rw [e]
    exact ha.trans (mild_notify (n := .logPending _) rfl _)

theorem works_record {p : EntryPart} (h : Works s t) : Works s (record p t) := h.mild (mild_record p t)

theorem works_failCapture {r : CaptureReason} (h : Works s t) : Works s (failCapture r t) := by
  have hw : Works s { t with wen := { t.wen with capture := none } } :=
    h.mild (.of_wen_lift t _ (.of_eq rfl rfl rfl rfl rfl rfl (.inl rfl)) rfl rfl)
  unfold failCapture
  split
  · exact hw
  · exact works_notify (n := .calFailed _ r) rfl hw

theorem works_abortCaptures {k : List CaptureKind} (h : Works s t) : Works s (abortCaptures k t) := by
  unfold abortCaptures
  split
  · exact works_failCapture h
  · exact h

/-! ## LTR's transitions -/

/-- A change of the lift state with new lift fields. -/
theorem works_enterState (l : Ltr) (source : Option Source) (window : Option Window) {new : LiftState}
    (hl : t.ltr.consistent → (l.enter new).consistent)
    (hw : t.liftWindowed → new.inLift = true → source.isSome ∧ window.isSome) (h : Works s t) :
    Works s (enterState new { t with
      ltr := l, wen := { t.wen with liftSource := source, liftWindow := window } }) := by
  have k : Works s (enterOn new l source window t) := h.enter new l source window hl hw
  exact .evaluation k

/-- A change to a state outside a lift. -/
theorem works_leaveLift (l : Ltr) {new : LiftState} (hn : new.inLift = false)
    (hl : t.ltr.consistent → (l.enter new).consistent) (h : Works s t) :
    Works s (enterState new { t with ltr := l }) :=
  works_enterState l t.wen.liftSource t.wen.liftWindow hl (fun _ hi => absurd hi (by simp [hn])) h

theorem works_takeGrip (hi : t.ltr.state = .idle) (h : Works s t) : Works s (takeGrip t) := by
  refine works_leaveLift _ rfl (fun hc => ?_) h
  unfold Ltr.consistent at hc ⊢
  simp_all [Ltr.enter, LiftState.inLift, LiftState.releaseRuns]

theorem works_releaseWithoutLift (hg : t.ltr.state = .gripped) (h : Works s t) :
    Works s (releaseWithoutLift t) := by
  refine works_leaveLift _ rfl (fun hc => ?_) h
  unfold Ltr.consistent at hc ⊢
  simp_all [Ltr.enter, LiftState.inLift, LiftState.releaseRuns]

theorem works_takeLiftOff (hg : t.ltr.state = .gripped) (h : Works s t) : Works s (takeLiftOff t) := by
  refine works_enterState _ _ _ (fun hc => ?_) (fun _ _ => ⟨rfl, rfl⟩) h
  unfold Ltr.consistent at hc ⊢
  simp_all [Ltr.enter, LiftState.inLift, LiftState.releaseRuns]

theorem works_completeWindow (h : Works s t) : Works s (completeWindow t) := by
  unfold completeWindow
  split
  · rename_i w hl hw
    split
    · refine works_enterState _ t.wen.liftSource t.wen.liftWindow (fun hc => ?_) (fun hw' _ => ?_) h
      · unfold Ltr.consistent at hc ⊢
        simp_all [Ltr.enter, LiftState.inLift, LiftState.releaseRuns]
      · unfold State.liftWindowed at hw'
        simpa [hl, LiftState.inLift] using hw'
    · exact h
  · exact h

/-! ## The tally (R114 to R123) -/

/-- Within the tally's bounds, for the open load (R111, R112, R116). -/
def Load.bounded (l : Load) : Prop :=
  (∀ i : Fin 16, l.figures[i].mass ≤ 60000 ∧ l.figures[i].lifts ≤ 65535 ∧ l.figures[i].unweighed ≤ 65535)
    ∧ l.loadedLifts ≤ 65535 ∧ l.unloadedLifts ≤ 65535

/-- A step of the open load alone keeps the bounds of the tally. -/
theorem Tal.bounded_load {t : Tal} {l : Load} (h : t.bounded) (hl : l.bounded) :
    ({ t with load := some l } : Tal).bounded := by
  obtain ⟨-, hh, hn⟩ := h
  refine ⟨fun l' h' => ?_, hh, hn⟩
  obtain rfl : l = l' := Option.some.inj h'
  exact hl

theorem Tal.bounded.load {t : Tal} {l : Load} (h : t.bounded) (hl : t.load = some l) : l.bounded := h.1 l hl

theorem saturate16_le (n : Nat) : saturate16 n ≤ 65535 := by
  unfold saturate16
  omega

/-- Figures of one assortment replaced within their bounds. -/
theorem Load.bounded_set {l : Load} (a : Fin 16) (f : Figures) (h : l.bounded)
    (hf : f.mass ≤ 60000 ∧ f.lifts ≤ 65535 ∧ f.unweighed ≤ 65535) (i : Fin 16) :
    (l.figures.set a f)[i].mass ≤ 60000 ∧ (l.figures.set a f)[i].lifts ≤ 65535
      ∧ (l.figures.set a f)[i].unweighed ≤ 65535 := by
  simp only [Fin.getElem_fin, Vector.getElem_set]
  split
  · exact hf
  · exact h.1 i

theorem Load.bounded_afterLoaded {l : Load} (a : Fin 16) (m : Nat) (q : Quality) (h : l.bounded) :
    (l.afterLoaded a m q).bounded := by
  obtain ⟨hm, -, hu⟩ := h.1 a
  refine ⟨Load.bounded_set a _ h ⟨?_, saturate16_le _, ?_⟩, saturate16_le _, h.2.2⟩
  · show l.figures[a].mass + loadedApplied _ m ≤ _
    unfold loadedApplied
    split <;> omega
  · show (if q = .unweighed then _ else _) ≤ _
    split
    · exact saturate16_le _
    · exact hu

theorem Load.bounded_afterUnloaded {l : Load} (a : Fin 16) (m : Nat) (q : Quality) (h : l.bounded) :
    (l.afterUnloaded a m q).bounded := by
  obtain ⟨hm, hl, hu⟩ := h.1 a
  refine ⟨Load.bounded_set a _ h ⟨(Nat.sub_le _ _).trans hm, hl, ?_⟩, h.2.1, saturate16_le _⟩
  show (if q = .unweighed then _ else _) ≤ _
  split
  · exact saturate16_le _
  · exact hu

theorem Load.opened_bounded (n : Nat) (now : Stamp) : (Load.opened n now).bounded := by
  refine ⟨fun i => ?_, Nat.zero_le _, Nat.zero_le _⟩
  simp [Load.opened]

theorem Load.opened_total (n : Nat) (now : Stamp) : (Load.opened n now).total = 0 := rfl

theorem mild_openLoad (s : State) : Mild s (openLoad s) := by
  unfold openLoad
  split
  · exact .refl s
  · rename_i hn
    refine .of_tal s _ (fun h => ?_) id ?_
    · obtain ⟨-, hh, h1, h2⟩ := h
      refine ⟨fun l hl => ?_, hh, ?_⟩
      · obtain rfl : Load.opened _ _ = l := Option.some.inj hl
        exact Load.opened_bounded _ _
      · show 1 ≤ nextLoadNumber _ ∧ nextLoadNumber _ ≤ _
        unfold nextLoadNumber
        split <;> omega
    · simp [Tal.total, hn, Load.opened_total]

theorem mild_evaluateTarget (s : State) : Mild s (evaluateTarget s) := by
  unfold evaluateTarget
  split
  · exact .refl s
  · rename_i l hl
    split
    · have k : Mild s { s with tal := { s.tal with load := some { l with targetReached := true } } } := by
        refine .of_tal s _ (fun h => ?_) id ?_
        · have hb : l.bounded := h.load hl
          exact Tal.bounded_load h hb
        · simp [Tal.total, hl, Load.total]
      exact k.trans (mild_notify (n := .target l.number l.total l.loadedLifts) rfl _)
    · exact .refl s

theorem Tal.bounded_closed {t : Tal} (x : Summary) (h : t.bounded) :
    ({ t with load := none, history := appendSummary t.history x } : Tal).bounded := by
  obtain ⟨-, hh, hn⟩ := h
  refine ⟨nofun, ?_, hn⟩
  show (appendSummary _ _).length ≤ 8
  unfold appendSummary
  split <;> simp <;> omega

/-- A load closes: LOAD_CLOSED is passed to LOG, the summary joins the history, and the record is NONE (R123). -/
theorem closeLoad_some {l : Load} (r : CloseReason) (hl : t.tal.load = some l) : closeLoad r t
    = judgePayload { record (.loadClosed ⟨l.number, r, l.total, l.loadedLifts, l.unloadedLifts⟩) t with
        tal := { t.tal with load := none, history := appendSummary t.tal.history (l.summary r t.log.clock) } } := by
  unfold closeLoad
  rw [hl]
  rfl

theorem works_closeLoad {r : CloseReason} (h : Works s t) : Works s (closeLoad r t) := by
  cases hl : t.tal.load with
  | none =>
    unfold closeLoad
    rwa [hl]
  | some l =>
    rw [closeLoad_some r hl]
    exact .count _ (Tal.bounded_closed _) id (works_record h) (.refl _)

/-- Closing a load of no mass leaves the total. -/
theorem mild_closing {l : Load} (p : EntryPart) (x : Summary) (hl : t.tal.load = some l) (h0 : l.total = 0) :
    Mild t { record p t with tal := { t.tal with load := none, history := appendSummary t.tal.history x } } :=
  (mild_record p t).trans (.of_tal (record p t) _ (Tal.bounded_closed _) id (by
    show 0 = (record p t).tal.total
    simp [Tal.total, hl, h0]))

theorem works_commitLoaded {a : Fin 16} {m : Nat} {q : Quality} (h : Works s t) :
    Works s (commitLoaded a m q t) := by
  have ho : Works s (openLoad t) := h.mild (mild_openLoad t)
  unfold commitLoaded
  dsimp only
  split
  · exact ho
  · rename_i l hl
    refine .count { (openLoad t).tal with load := some (l.afterLoaded a m q) }
      (fun hb => Tal.bounded_load hb (Load.bounded_afterLoaded a m q (hb.load hl))) id ho (Mild.trans ?_ (mild_evaluateTarget _))
    split
    · exact mild_latch _ _
    · exact .refl _

theorem works_commitUnloaded {a : Fin 16} {m : Nat} {q : Quality} (h : Works s t) :
    Works s (commitUnloaded a m q t) := by
  unfold commitUnloaded
  split
  · split
    · exact h
    · exact h.mild (mild_latch _ _)
  · rename_i l hl
    have k : Mild { t with tal := { t.tal with load := some (l.afterUnloaded a m q) } }
        (if l.figures[a].mass < m then latch .overdraw { t with tal := { t.tal with load := some (l.afterUnloaded a m q) } }
          else { t with tal := { t.tal with load := some (l.afterUnloaded a m q) } }) := by
      split
      · exact mild_latch _ _
      · exact .refl _
    have hlo : (if l.figures[a].mass < m then latch .overdraw { t with tal := { t.tal with load := some (l.afterUnloaded a m q) } }
        else { t with tal := { t.tal with load := some (l.afterUnloaded a m q) } }).tal.load
        = some (l.afterUnloaded a m q) := by
      split <;> rfl
    dsimp only
    split
    · rename_i h0
      rw [closeLoad_some _ hlo]
      exact .count _ (fun hb => Tal.bounded_load hb (Load.bounded_afterUnloaded a m q (hb.load hl))) id h
        (k.trans (mild_closing _ _ hlo h0))
    · exact .count _ (fun hb => Tal.bounded_load hb (Load.bounded_afterUnloaded a m q (hb.load hl))) id h
        (k.trans (mild_evaluateTarget _))

theorem works_commit {o : LiftOutcome} {a : Fin 16} {m : Nat} {q : Quality} (h : Works s t) :
    Works s (commit o a m q t) := by
  unfold commit
  split
  · exact h
  · cases o with
    | loaded => exact works_commitLoaded h
    | unloaded => exact works_commitUnloaded h
    | _ => exact h

/-- A handoff to LOG does not look at LTR. -/
theorem record_ltr (p : EntryPart) (l : Ltr) (s : State) :
    record p { s with ltr := l } = { record p s with ltr := l } := rfl

theorem abortCaptures_ltr (k : List CaptureKind) (l : Ltr) (s : State) :
    abortCaptures k { s with ltr := l } = { abortCaptures k s with ltr := l } := by
  by_cases h : capturing k s = true
  · have h' : capturing k { s with ltr := l } = true := h
    simp only [abortCaptures, h, h', if_true]
    rfl
  · have h' : ¬capturing k { s with ltr := l } = true := h
    simp only [abortCaptures, h, h']
    rfl

theorem commit_ltr (o : LiftOutcome) (a : Fin 16) (m : Nat) (q : Quality) (s : State) :
    (commit o a m q s).ltr = s.ltr := by simp

theorem Ltr.clearLift_ending (l : Ltr) (r : LiftResult) (a : Fin 16) (z : Zone) (o : LiftOutcome)
    (e : TallyEffect) : (l.ending r a z o e).clearLift = l.clearLift := rfl

/-- DROP in three parts: the lift record, the captures it breaks, and the way to GRIPPED with the lift fields
absent (R97). -/
theorem takeDrop_eq (s : State) :
    takeDrop s = enterState .gripped
      { abortCaptures [.span, .cylLoad] (record (.lift (liftPart s.ltr (fixedResult s) s.tal.selected
          s.geo.zone .dropped s.tal.noEffect)) s) with ltr := s.ltr.clearLift } := by
  simp only [takeDrop, record_ltr, abortCaptures_ltr, Ltr.clearLift_ending]

/-- The release procedure in three parts: the commit, the lift record, and the way to IDLE with the lift fields
and the grip time absent (R98). -/
theorem takeRelease_eq (s : State) :
    takeRelease s = enterState .idle
      { record (.lift (liftPart s.ltr (fixedResult s) s.tal.selected s.geo.zone
            (outcomeOf (fixedResult s).empty (s.ltr.fromZone.getD .unknown) s.geo.zone)
            (commitEffect (outcomeOf (fixedResult s).empty (s.ltr.fromZone.getD .unknown) s.geo.zone)
              s.tal.selected (fixedResult s).mass.toNat s.tal)))
          (commit (outcomeOf (fixedResult s).empty (s.ltr.fromZone.getD .unknown) s.geo.zone)
            s.tal.selected (fixedResult s).mass.toNat (fixedResult s).quality s) with
        ltr := { s.ltr.clearLift with gripTime := none } } := by
  simp only [takeRelease, commit_ltr, record_ltr, Ltr.clearLift_ending]

/-- A drop ends a lift: its captures fail, and the lift fields of the context are absent. -/
theorem works_takeDrop (hl : t.ltr.state.inLift = true) (h : Works s t) : Works s (takeDrop t) := by
  rw [takeDrop_eq]
  refine works_leaveLift _ rfl (fun hc => ?_) (works_abortCaptures (works_record h))
  simp only [abortCaptures_frame, record_frame] at hc
  unfold Ltr.consistent at hc ⊢
  cases hs : t.ltr.state <;>
    simp_all [Ltr.enter, Ltr.clearLift, LiftState.inLift, LiftState.releaseRuns]

theorem works_takeRelease (h : Works s t) : Works s (takeRelease t) := by
  rw [takeRelease_eq]
  refine works_leaveLift _ rfl (fun hc => ?_) (works_record (works_commit h))
  unfold Ltr.consistent
  simp [Ltr.enter, Ltr.clearLift, LiftState.inLift, LiftState.releaseRuns]

/-! ## Samples of LTR -/

theorem LiftState.releaseRuns_iff (x : LiftState) : x.releaseRuns = true ↔ x ≠ .idle := by
  cases x <;> decide

theorem LiftState.eq_gripped {x : LiftState} (h : x.releaseRuns = true) (hl : ¬x.inLift = true) :
    x = .gripped := by
  cases x with
  | gripped => rfl
  | idle => cases h
  | lifted => exact absurd rfl hl
  | weighed => exact absurd rfl hl

theorem LiftState.inLift_of_ne {x : LiftState} (hi : x ≠ .idle) (hg : x ≠ .gripped) : x.inLift = true := by
  cases x with
  | idle => exact absurd rfl hi
  | gripped => exact absurd rfl hg
  | lifted => rfl
  | weighed => rfl

theorem works_judgeGrip (h : Works s t) : Works s (judgeGrip t) := by
  unfold judgeGrip
  dsimp only
  split
  · rename_i hr
    have ht : ∀ b, Works s { t with ltr := { t.ltr with releaseStart := b } } := fun b =>
      h.mild (.of_ltr t _ rfl fun hc => by
        have hi := (LiftState.releaseRuns_iff _).mp hr
        unfold Ltr.consistent at hc ⊢
        simpa [hi] using hc)
    split
    · split
      · exact works_takeRelease (ht _)
      · rename_i hl
        exact works_releaseWithoutLift (LiftState.eq_gripped hr hl) (ht _)
    · exact ht _
  · rename_i hr
    have hi : t.ltr.state = .idle := by
      by_contra hne
      exact hr ((LiftState.releaseRuns_iff _).mpr hne)
    have ht : ∀ b, Works s { t with ltr := { t.ltr with gripStart := b } } := fun b =>
      h.mild (.of_ltr t _ rfl fun hc => by
        unfold Ltr.consistent at hc ⊢
        simpa [hi] using hc)
    split
    · exact works_takeGrip hi (ht _)
    · exact ht _

theorem works_judgeLive (h : Works s t) : Works s (judgeLive t) := by
  unfold judgeLive
  split
  · exact h
  · rename_i hg
    have ht : ∀ b, Works s { t with ltr := { t.ltr with liftOffStart := b } } := fun b =>
      h.mild (.of_ltr t _ rfl fun hc => by
        unfold Ltr.consistent at hc ⊢
        simpa [hg] using hc)
    dsimp only
    split
    · exact works_takeLiftOff hg (ht _)
    · exact ht _
  · rename_i hi hg
    have hl : t.ltr.state.inLift = true := LiftState.inLift_of_ne hi hg
    have ht : ∀ b, Works s { t with ltr := { t.ltr with dropStart := b } } := fun b =>
      h.mild (.of_ltr t _ rfl fun hc => by
        unfold Ltr.consistent at hc ⊢
        simpa [hl] using hc)
    dsimp only
    split
    · exact works_takeDrop hl (ht _)
    · exact ht _

theorem works_handLiveUpdate (h : Works s t) : Works s (handLiveUpdate t) :=
  .evaluation (works_judgeLive h)

/-! ## Sources (R65, R66) -/

theorem works_changeSource (h : Works s t) : Works s (changeSource (judgedSource t) t) :=
  works_handLiveUpdate (.evaluation h.source)

/-- A downgrade: the lift source falls, and in LIFTED the window is reopened on it (R66, R96). -/
theorem works_downgrade {old : Source} (lower : Source) (hs : t.wen.liftSource = some old)
    (h : Works s t) :
    Works s (takeDowngrade lower { t with wen := { t.wen with liftSource := some lower } }) := by
  have hw : ∀ w : Option Window, (t.ltr.state = .lifted ∨ w = t.wen.liftWindow) →
      (t.ltr.state = .lifted → w.isSome) →
      Works s { t with wen := { t.wen with liftSource := some lower, liftWindow := w } } := fun w he hi =>
    h.mild (.of_wen t _ (.of_eq rfl rfl rfl rfl rfl rfl (.inr rfl)) fun hl => by
      unfold State.liftWindowed at hl ⊢
      rcases he with hx | rfl
      · simp [hx, hi hx, LiftState.inLift]
      · simpa [hs] using hl)
  unfold takeDowngrade
  dsimp only
  split
  · rename_i hl
    have k := hw (some (.opened lower t.wen.settings.windowSize)) (.inl hl) fun _ => rfl
    refine k.mild (.of_ltr _ { t.ltr with source := some lower } rfl fun hc => ?_)
    unfold Ltr.consistent at hc ⊢
    simp_all [LiftState.inLift]
  · rename_i hl
    exact hw _ (.inr rfl) fun hx => absurd hx hl

theorem works_judgeLiftSource (h : Works s t) : Works s (judgeLiftSource t) := by
  unfold judgeLiftSource
  split
  · exact h
  · exact h
  · rename_i old hs
    split
    · exact h
    · exact works_downgrade _ hs h

theorem works_rejudgeSources (h : Works s t) : Works s (rejudgeSources t) := by
  unfold rejudgeSources
  split
  · exact works_judgeLiftSource h
  · exact works_judgeLiftSource (works_changeSource h)

/-! ## Captures (R74, R75) -/

/-- A completed capture: the calibration changes, and the sources are judged on it (R74). -/
theorem works_finishCapture {c : Capture} {n : CalName} {x y : Int} {cal : Calibration} (h : Works s t) :
    Works s (finishCapture c n x y cal t) := by
  refine works_notify rfl (works_record ?_)
  exact h.calibrate cal (works_rejudgeSources .refl) (rejudgeSources_judged _)

theorem works_finish {c : Capture} (h : Works s t) : Works s (finish c t) := by
  have he : Works s { t with wen := { t.wen with emptyWindow := none } } :=
    h.mild (.of_wen_lift t _ (.of_eq rfl rfl rfl rfl rfl rfl (.inr rfl)) rfl rfl)
  unfold finish
  dsimp only
  split
  · have hz : Works s { t with wen := { t.wen with zeroOffset := 0, emptyWindow := none } } :=
      h.mild (.of_wen_lift t _ ⟨rfl, rfl, fun _ => Nat.zero_le _, fun _ => id, .inr (.inl rfl)⟩ rfl rfl)
    exact works_finishCapture (works_setLive (d := .zeroDrift) trivial hz)
  · unfold finishSpan
    dsimp only
    split
    · exact works_failCapture h
    · exact works_finishCapture he
  · exact works_finishCapture h
  · unfold finishCylLoad
    dsimp only
    split
    · exact works_failCapture h
    · split
      · exact works_finishCapture h
      · exact works_failCapture h
  · exact h
  · exact h

/-- A value joins the capture in flight (R75). -/
theorem works_captureTake {c : Capture} {x : Int} (hc : t.wen.capture = some c) (h : Works s t) :
    Works s (captureTake c x t) := by
  unfold captureTake
  dsimp only
  split
  · exact works_finish h
  · rename_i hn
    exact h.mild (.of_wen_lift t _ ⟨rfl, rfl, id, fun _ => id, .inr (.inr ⟨c, _, _, hc, Nat.not_le.mp hn, rfl⟩)⟩
      rfl rfl)

theorem works_captureTip {n : Nat} (h : Works s t) : Works s (captureTip n t) := by
  unfold captureTip
  split
  · exact h
  · rename_i c hc
    split
    · exact works_captureTake hc h
    · exact works_captureTake hc h
    · exact h
    · exact h

/-! ## The tip path (R59) -/

/-- The empty window is WEN's own (R72). -/
theorem works_emptyWindow (w : Option Window) (h : Works s t) :
    Works s { t with wen := { t.wen with emptyWindow := w } } :=
  h.mild (.of_wen_lift t _ (.of_eq rfl rfl rfl rfl rfl rfl (.inr rfl)) rfl rfl)

theorem works_judgeEmptyWindow {w : Window} (h : Works s t) : Works s (judgeEmptyWindow w t) := by
  unfold judgeEmptyWindow
  dsimp only
  split
  · exact works_emptyWindow _ h
  · split
    · rename_i hz
      refine works_setLive (d := .zeroDrift) trivial ?_
      exact h.mild (.of_wen_lift t _ ⟨rfl, rfl, fun _ => hz, fun _ => id, .inr (.inl rfl)⟩ rfl rfl)
    · exact works_setLive (d := .zeroDrift) trivial (works_emptyWindow _ h)

theorem works_feedEmptyWindow {x : Int} (h : Works s t) : Works s (feedEmptyWindow x t) := by
  unfold feedEmptyWindow
  dsimp only
  split
  · split
    · exact works_judgeEmptyWindow h
    · exact works_emptyWindow _ h
  · exact h

theorem works_feedLiftWindow {src : Source} {x : Int} (h : Works s t) : Works s (feedLiftWindow src x t) := by
  unfold feedLiftWindow
  split
  · exact h.mild (.of_wen_lift t _ (.of_eq rfl rfl rfl rfl rfl rfl (.inr rfl)) rfl (by simp))
  · exact h

/-- A sample joins the live history of a current source that is not NONE (R67). -/
theorem works_feedIf {fed : Bool} {x : Int} (hf : fed = true → t.wen.source ≠ .none) (h : Works s t) :
    Works s (feedIf fed x t) := by
  unfold feedIf
  split
  · rename_i hx
    exact h.mild (.of_wen_lift t _ ⟨rfl, rfl, id, fun hn => absurd hn (hf hx), .inr (.inl rfl)⟩ rfl rfl)
  · exact h

theorem works_handIf {fed : Bool} (h : Works s t) : Works s (handIf fed t) := by
  unfold handIf
  split
  · exact works_handLiveUpdate h
  · exact h

theorem works_gateTip {p : TipSample} {x : Int} (h : Works s t) : Works s (gateTip p x t) := by
  unfold gateTip
  split
  · exact works_feedEmptyWindow (works_feedLiftWindow h)
  · exact h

theorem works_countTip {p : TipSample} (h : Works s t) : Works s (countTip p t) := by
  unfold countTip
  split
  · exact works_captureTip h
  · exact h

theorem works_rememberTip {p : TipSample} {x : Int} (h : Works s t) : Works s (rememberTip p x t) :=
  h.mild (.of_wen_lift t _ (.of_eq rfl rfl rfl rfl rfl rfl (.inr rfl)) rfl rfl)

theorem works_tipSample {p : TipSample} (h : Works s t) : Works s (tipSample p t) := by
  refine works_rememberTip (works_handIf (works_completeWindow (works_countTip (works_gateTip
    (works_feedIf (fun hf => ?_) (works_setLive (d := .tipOverrange) trivial h))))))
  have hs : t.wen.source = .tip := by simpa using hf
  show t.wen.source ≠ .none
  rw [hs]
  nofun

theorem works_tipLinkDown (h : Works s t) : Works s (tipLinkDown t) := by
  refine works_rejudgeSources (works_abortCaptures (works_setLive (d := .tipOverrange) trivial ?_))
  exact h.mild (.of_wen_lift t _ (.of_eq rfl rfl rfl rfl rfl rfl (.inr rfl)) rfl rfl)

theorem works_tipStuckChanged (h : Works s t) : Works s (tipStuckChanged t) := by
  unfold tipStuckChanged
  split
  · exact works_rejudgeSources (works_abortCaptures h)
  · exact works_rejudgeSources h

/-! ## The cylinder path and the tasks of a frame (R63 to R65, R75) -/

theorem works_gateCylinder {x : Int} (h : Works s t) : Works s (gateCylinder x t) := by
  unfold gateCylinder
  split
  · exact works_feedLiftWindow h
  · exact h

theorem works_takeCylinderSample {x : Int} (h : Works s t) : Works s (takeCylinderSample x t) := by
  have k : Works s (handIf (t.wen.source == .cylinder) (completeWindow (gateCylinder x
      (feedIf (t.wen.source == .cylinder) x t)))) := by
    refine works_handIf (works_completeWindow (works_gateCylinder (works_feedIf (fun hf => ?_) h)))
    have hs : t.wen.source = .cylinder := by simpa using hf
    rw [hs]
    nofun
  exact k.mild (.of_wen_lift _ _ (.of_eq rfl rfl rfl rfl rfl rfl (.inr rfl)) rfl rfl)

theorem works_noCylinderSample (h : Works s t) : Works s (noCylinderSample t) := by
  unfold noCylinderSample
  dsimp only
  split
  · refine works_handLiveUpdate (h.mild (.of_wen_lift t _ ?_ rfl rfl))
    exact ⟨rfl, rfl, id, fun _ _ => ⟨rfl, rfl⟩, .inr (.inl rfl)⟩
  · exact h.mild (.of_wen_lift t _ (.of_eq rfl rfl rfl rfl rfl rfl (.inr rfl)) rfl rfl)

theorem works_captureCylinder {f : CylinderForce} {g : Option CylinderForce} (h : Works s t) :
    Works s (captureCylinder f g t) := by
  unfold captureCylinder
  split
  · exact h
  · rename_i c hc
    split
    · exact h
    · exact h
    · split
      · split
        · exact h
        · split
          · exact works_captureTake hc h
          · exact h
      · exact works_failCapture h

theorem works_cylinderFrame (h : Works s t) : Works s (cylinderFrame t) := by
  have k : ∀ f, Works s { rejudgeSources t with wen := { (rejudgeSources t).wen with frameForce := f } } := fun f =>
    (works_rejudgeSources h).mild (.of_wen_lift _ _ (.of_eq rfl rfl rfl rfl rfl rfl (.inr rfl)) rfl rfl)
  unfold cylinderFrame
  dsimp only
  split
  · exact works_noCylinderSample (k _)
  · refine works_captureCylinder ?_
    split
    · exact works_takeCylinderSample (k _)
    · exact works_noCylinderSample (k _)

theorem works_performTask {m : Bool} {x : FrameTask} (h : Works s t) : Works s (performTask m x t) := by
  cases x with
  | cylinder => exact works_cylinderFrame h
  | grip => exact works_judgeGrip h
  | mark =>
    show Works s (if m then makeMark t else t)
    split
    · exact works_record h
    · exact h
  | evaluation => exact h.evaluation

theorem works_tasks {m : Bool} (l : List FrameTask) (h : Works s t) :
    Works s (l.foldl (fun u x => performTask m x u) t) := by
  induction l generalizing t with
  | nil => exact h
  | cons x l ih => exact ih (works_performTask h)

end Sys2Proof.Machine
end

section
/-! PROOF. What the work of WEN, LTR, TAL, LOG and MLM keeps: each promise is an induction over the seven constructors
of `Works`. -/

namespace Sys2Proof.Machine

variable {s t u : State}

/-! ## What no work touches -/

/-- The blocks and marks that WEN, LTR, TAL, LOG and MLM leave to others. -/
structure Frame (s t : State) : Prop where
  powered : t.powered = s.powered
  pending : t.pending = s.pending
  status : ∀ c, (t.iau.channels.get c).status = (s.iau.channels.get c).status
  valid : t.geo.valid = s.geo.valid
  link : t.tlc.link = s.tlc.link
  orderly : s.tlc.orderly → t.tlc.orderly
  sections : ∀ v, (s.vdr.sections.get v).safe → (t.vdr.sections.get v).safe
  disabled : ∀ v, (t.vdr.sections.get v).isDisabled = (s.vdr.sections.get v).isDisabled
  leverTimer : t.vdr.leverTimer.isSome = s.vdr.leverTimer.isSome
  working : t.sto.working = s.sto.working
  freeze : t.sto.freeze = s.sto.freeze
  clp : s.clp.Grows t.clp

namespace Frame

theorem trans (h : Frame s t) (k : Frame t u) : Frame s u where
  powered := k.powered.trans h.powered
  pending := k.pending.trans h.pending
  status c := (k.status c).trans (h.status c)
  valid := k.valid.trans h.valid
  link := k.link.trans h.link
  orderly := k.orderly ∘ h.orderly
  sections v := k.sections v ∘ h.sections v
  disabled v := (k.disabled v).trans (h.disabled v)
  leverTimer := k.leverTimer.trans h.leverTimer
  working := k.working.trans h.working
  freeze := k.freeze.trans h.freeze
  clp := h.clp.trans k.clp

/-- A step that changes WEN, LTR, TAL, LOG, MLM and the factors alone. -/
theorem of_blocks (hp : t.powered = s.powered) (hq : t.pending = s.pending) (hi : t.iau = s.iau)
    (hg : t.geo = s.geo) (ht : t.tlc = s.tlc) (hv : t.vdr.sections = s.vdr.sections)
    (hl : t.vdr.leverTimer = s.vdr.leverTimer) (hs : t.sto = s.sto) (hc : s.clp.Grows t.clp) : Frame s t :=
  ⟨hp, hq, fun _ => by rw [hi], by rw [hg], by rw [ht], by rw [ht]; exact id, fun _ => by rw [hv]; exact id,
    fun _ => by rw [hv], by rw [hl], by rw [hs], by rw [hs], hc⟩

theorem refl (s : State) : Frame s s := of_blocks rfl rfl rfl rfl rfl rfl rfl rfl (.refl _)

theorem setLive (d : Condition) (v : Bool) (s : State) : Frame s (setLive d v s) :=
  of_blocks rfl rfl rfl rfl rfl rfl rfl rfl (.setLive _ _ _)

theorem evaluate (s : State) : Frame s (evaluate s) := of_blocks rfl rfl rfl rfl rfl rfl rfl rfl (.setLive _ _ _)

theorem tal (s : State) (x : Tal) : Frame s { s with tal := x } :=
  of_blocks rfl rfl rfl rfl rfl rfl rfl rfl (.refl _)

theorem wen (s : State) (w : Wen) : Frame s { s with wen := w } :=
  of_blocks rfl rfl rfl rfl rfl rfl rfl rfl (.refl _)

end Frame

theorem Mild.frame (h : Mild s t) : Frame s t :=
  ⟨h.powered, h.pending, h.status, h.valid, h.link, h.orderly, h.vdr.sections, h.vdr.disabled, h.vdr.leverTimer,
    h.working, h.freeze, h.clp⟩

/-- A capture that fails, or none (R74). -/
theorem failCapture_grows (r : CaptureReason) (s : State) : s.clp.Grows (failCapture r s).clp := by
  unfold failCapture
  dsimp only
  split
  · exact .refl _
  · exact .send rfl _

theorem abortCaptures_grows (k : List CaptureKind) (s : State) : s.clp.Grows (abortCaptures k s).clp := by
  unfold abortCaptures
  split
  · exact failCapture_grows _ s
  · exact .refl _

theorem abortCaptures_isLive (k : List CaptureKind) (s : State) (d : Condition) :
    (abortCaptures k s).clp.isLive d = s.clp.isLive d := by
  have h : Reports (fun _ => False) s.clp (abortCaptures k s).clp := reports_abortCaptures .refl
  exact h.isLive d id

/-- An aborted capture leaves the rest of WEN. -/
theorem abortCaptures_wen (k : List CaptureKind) (s : State) : (abortCaptures k s).wen
    = { s.wen with capture := if capturing k s then none else s.wen.capture } := by
  unfold abortCaptures
  split <;> simp_all [failCapture]

theorem enterOn_frame (new : LiftState) (l : Ltr) (x : Option Source) (w : Option Window) (s : State) :
    Frame s (enterOn new l x w s) := by
  have hg : s.clp.Grows (enterOn new l x w s).clp := abortCaptures_grows (brokenBy new) { s with
    ltr := l.enter new, wen := ({ s.wen with liftSource := x, liftWindow := w } : Wen).onLiftState new }
  refine .of_blocks ?_ ?_ ?_ ?_ ?_ ?_ ?_ ?_ hg <;> simp [enterOn]

theorem enterOn_same (new : LiftState) (l : Ltr) (x : Option Source) (w : Option Window) (s : State) :
    s.wen.Same (enterOn new l x w s).wen := by
  unfold enterOn
  rw [abortCaptures_wen]
  exact same_lift _ _ _ _ _

theorem Works.frame (h : Works s t) : Frame s t := by
  induction h with
  | refl => exact .refl _
  | mild _ k ih => exact ih.trans k.frame
  | evaluation _ ih => exact ih.trans (.evaluate _)
  | enter new l x w _ _ _ ih => exact ih.trans (enterOn_frame new l x w _)
  | count x _ _ _ k ih => exact ((ih.trans (.tal _ x)).trans k.frame).trans (.setLive _ _ _)
  | source _ ih => exact ih.trans (.wen _ _)
  | calibrate cal _ _ _ ih ik => exact (ih.trans ((Frame.wen _ _).trans (.setLive .noCal _ _))).trans ik

/-! ## Conditions -/

/-- The conditions that an evaluation, a new figure of the tally or a new calibration judges. -/
def Condition.judged : Condition → Prop
  | .limitHold => True
  | .payload => True
  | .noCal => True
  | _ => False

/-- Every other condition that a promise names stands. -/
theorem Works.live (h : Works s t) {d : Condition} (hd : ¬d.loose) (hj : ¬d.judged) :
    t.clp.isLive d = s.clp.isLive d := by
  have other (e : Condition) (he : e.judged) (v : Bool) (c : Clp) : (c.setLive e v).isLive d = c.isLive d := by
    rw [Clp.setLive_isLive, if_neg]
    intro x
    exact hj (Condition.index_injective x ▸ he)
  induction h with
  | refl => rfl
  | mild _ k ih => exact (k.live d hd).trans ih
  | evaluation _ ih => exact (other .limitHold trivial _ _).trans ih
  | enter new l x w _ _ _ ih => exact (abortCaptures_isLive _ _ d).trans ih
  | count x _ _ _ k ih => exact ((other .payload trivial _ _).trans (k.live d hd)).trans ih
  | source _ ih => exact ih
  | calibrate cal _ _ _ ih ik => exact (ik.trans (other .noCal trivial _ _)).trans ih

theorem setLive_other {c : Clp} (d e : Condition) {v : Bool} (h : d ≠ e) :
    (c.setLive d v).isLive e = c.isLive e := by
  rw [Clp.setLive_isLive, if_neg fun x => h (Condition.index_injective x)]

theorem Works.holdCondition (h : Works s t) (hs : s.holdCondition) : t.holdCondition := by
  unfold State.holdCondition at hs ⊢
  induction h with
  | refl => exact hs
  | mild _ k ih =>
    rw [k.live _ id, k.stage]
    exact ih hs
  | evaluation _ _ =>
    show (Clp.setLive _ _ _).isLive _ = true ↔ _
    rw [Clp.setLive_self]
    exact beq_iff_eq
  | enter new l x w _ _ _ ih =>
    unfold enterOn
    rw [abortCaptures_isLive]
    simpa using ih hs
  | @count _ r v x _ _ _ k ih =>
    rw [judgePayload_isLive _ (show Condition.limitHold ≠ .payload from nofun), k.live _ id]
    show _ ↔ v.mlm.stage = _
    rw [k.stage]
    exact ih hs
  | source _ ih => exact ih hs
  | calibrate cal _ _ _ ih ik =>
    refine ik ?_
    show (Clp.setLive _ _ _).isLive _ = true ↔ _
    rw [setLive_other .noCal .limitHold nofun]
    exact ih hs

theorem Works.payloadCondition (h : Works s t) (hs : s.payloadCondition) : t.payloadCondition := by
  induction h with
  | refl => exact hs
  | mild _ k ih =>
    have := ih hs
    unfold State.payloadCondition at this ⊢
    rw [k.live _ id, k.working, k.total]
    exact this
  | evaluation _ ih =>
    have := ih hs
    unfold State.payloadCondition at this ⊢
    rw [evaluate_isLive _ (show Condition.payload ≠ .limitHold from nofun)]
    exact this
  | enter new l x w _ _ _ ih =>
    have := ih hs
    unfold State.payloadCondition enterOn at *
    rw [abortCaptures_isLive]
    simpa using this
  | count x _ _ _ k ih => exact judgePayload_condition _
  | source _ ih => exact ih hs
  | calibrate cal _ _ _ ih ik =>
    refine ik ?_
    show (Clp.setLive _ _ _).isLive _ = true ↔ _
    rw [setLive_other .noCal .payload nofun]
    exact ih hs

theorem Works.noCalCondition (h : Works s t) (hs : s.noCalCondition) : t.noCalCondition := by
  induction h with
  | refl => exact hs
  | mild _ k ih =>
    have := ih hs
    unfold State.noCalCondition at this ⊢
    rw [k.live _ id, k.wen.tipValid]
    exact this
  | evaluation _ ih =>
    have := ih hs
    unfold State.noCalCondition at this ⊢
    rw [evaluate_isLive _ (show Condition.noCal ≠ .limitHold from nofun)]
    exact this
  | enter new l x w _ _ _ ih =>
    have := ih hs
    unfold State.noCalCondition at this ⊢
    rw [(enterOn_same new l x w _).calibration]
    unfold enterOn
    rw [abortCaptures_isLive]
    exact this
  | @count _ r v x _ _ _ k ih =>
    have := ih hs
    unfold State.noCalCondition at this ⊢
    rw [judgePayload_isLive _ (show Condition.noCal ≠ .payload from nofun), k.live _ id]
    show _ ↔ v.wen.calibration.tipValid = false
    rw [k.wen.tipValid]
    exact this
  | source _ ih => exact ih hs
  | calibrate cal _ _ _ ih ik =>
    refine ik ?_
    show (Clp.setLive _ _ _).isLive _ = true ↔ _
    rw [Clp.setLive_self]
    simp [judgeNoCal, calibrated]

/-! ## The tally, the log and z -/

theorem Works.bounded (h : Works s t) (hs : s.tal.bounded) : t.tal.bounded := by
  induction h with
  | refl => exact hs
  | mild _ k ih => exact k.bounded (ih hs)
  | evaluation _ ih => exact ih hs
  | enter new l x w _ _ _ ih => simpa [enterOn] using ih hs
  | count x hb _ _ k ih => exact k.bounded (hb (ih hs))
  | source _ ih => exact ih hs
  | calibrate cal _ _ _ ih ik => exact ik (ih hs)

theorem Works.labelled (h : Works s t) (hs : s.tal.labelled) : t.tal.labelled := by
  induction h with
  | refl => exact hs
  | mild _ k ih => exact k.labelled (ih hs)
  | evaluation _ ih => exact ih hs
  | enter new l x w _ _ _ ih => simpa [enterOn] using ih hs
  | count x _ hl _ k ih => exact k.labelled (hl (ih hs))
  | source _ ih => exact ih hs
  | calibrate cal _ _ _ ih ik => exact ik (ih hs)

theorem Works.numbered (h : Works s t) (hs : s.log.numbered) : t.log.numbered := by
  induction h with
  | refl => exact hs
  | mild _ k ih => exact k.numbered (ih hs)
  | evaluation _ ih => exact ih hs
  | enter new l x w _ _ _ ih => simpa [enterOn] using ih hs
  | count x _ _ _ k ih => exact k.numbered (ih hs)
  | source _ ih => exact ih hs
  | calibrate cal _ _ _ ih ik => exact ik (ih hs)

theorem Wen.Same.tracked {w w' : Wen} (h : w.Same w') (k : w.tracked) : w'.tracked := by
  unfold Wen.tracked
  rw [h.zeroOffset, h.settings]
  exact k

theorem Works.tracked (h : Works s t) (hs : s.wen.tracked) : t.wen.tracked := by
  induction h with
  | refl => exact hs
  | mild _ k ih => exact k.wen.tracked (ih hs)
  | evaluation _ ih => exact ih hs
  | enter new l x w _ _ _ ih => exact (enterOn_same new l x w _).tracked (ih hs)
  | count x _ _ _ k ih => exact k.wen.tracked (ih hs)
  | source _ ih => exact ih hs
  | calibrate cal _ _ _ ih ik => exact ik (ih hs)

/-! ## The lift context -/

theorem Works.lift (h : Works s t) (hs : s.ltr.consistent ∧ s.liftWindowed) :
    t.ltr.consistent ∧ t.liftWindowed := by
  induction h with
  | refl => exact hs
  | mild _ k ih => exact (ih hs).imp k.consistent k.windowed
  | evaluation _ ih => exact ih hs
  | enter new l x w hl hw _ ih =>
    obtain ⟨hc, hi⟩ := ih hs
    unfold enterOn State.liftWindowed
    simp only [abortCaptures_frame, abortCaptures_wen]
    refine ⟨hl hc, ?_⟩
    cases hn : new.inLift with
    | false => simp [Ltr.enter, Wen.onLiftState, hn]
    | true =>
      obtain ⟨hx, hy⟩ := hw hi hn
      simp [Ltr.enter, Wen.onLiftState, hn, hx, hy]
  | count x _ _ _ k ih => exact (ih hs).imp k.consistent k.windowed
  | source _ ih => exact ih hs
  | calibrate cal _ _ _ ih ik => exact ik (ih hs)

/-! ## Sources -/

/-- What the judgement of the sources reads stands (R65). -/
theorem judgedSource_of (hl : t.tlc.link = s.tlc.link) (hk : t.clp.isLive .tipStuck = s.clp.isLive .tipStuck)
    (hc : t.wen.calibration.tipValid = s.wen.calibration.tipValid)
    (hf : t.sto.working.fallback = s.sto.working.fallback)
    (hi : ∀ c, (t.iau.channels.get c).status = (s.iau.channels.get c).status) (hg : t.geo.valid = s.geo.valid) :
    judgedSource t = judgedSource s := by
  have h1 := hi .pHead
  have h2 := hi .pRod
  simp only [PerChannel.get] at h1 h2
  simp [judgedSource, available, cylinderReadable, ChannelState.isGood, hl, hk, hc, hf, hg, h1, h2]

theorem Frame.judgedSource (h : Frame s t) (hk : t.clp.isLive .tipStuck = s.clp.isLive .tipStuck)
    (hc : t.wen.calibration.tipValid = s.wen.calibration.tipValid) : judgedSource t = judgedSource s :=
  judgedSource_of h.link hk hc (by rw [h.working]) h.status h.valid

/-- Without a source there is no live estimate (R67). -/
def Wen.quiet (w : Wen) : Prop := w.source = .none → w.history = [] ∧ w.liveEstimate = none

theorem Wen.Like.quiet {w w' : Wen} (h : w.Like w') (k : w.quiet) : w'.quiet := fun hs =>
  h.empty (h.source ▸ hs) (k (h.source ▸ hs))

theorem Wen.Same.quiet {w w' : Wen} (h : w.Same w') (k : w.quiet) : w'.quiet := fun hs => by
  rw [h.history, h.liveEstimate]
  exact k (h.source ▸ hs)

theorem Works.quiet (h : Works s t) (hs : s.wen.quiet) : t.wen.quiet := by
  induction h with
  | refl => exact hs
  | mild _ k ih => exact k.wen.quiet (ih hs)
  | evaluation _ ih => exact ih hs
  | enter new l x w _ _ _ ih => exact (enterOn_same new l x w _).quiet (ih hs)
  | count x _ _ _ k ih => exact k.wen.quiet (ih hs)
  | source _ ih => exact fun _ => ⟨rfl, rfl⟩
  | calibrate cal _ _ _ ih ik => exact ik (ih hs)

theorem Mild.judged (h : Mild s t) (hs : s.judged) : t.judged := by
  unfold State.judged
  rw [h.wen.source, h.frame.judgedSource (h.live _ id) h.wen.tipValid]
  exact hs

theorem Works.judged (h : Works s t) (hs : s.judged) : t.judged := by
  induction h with
  | refl => exact hs
  | mild _ k ih => exact k.judged (ih hs)
  | evaluation _ ih =>
    have := ih hs
    unfold State.judged at this ⊢
    rw [judgedSource_congr (evaluate_available _)]
    exact this
  | enter new l x w _ _ _ ih =>
    have same := enterOn_same new l x w ‹_›
    unfold State.judged
    rw [same.source, (enterOn_frame new l x w _).judgedSource (abortCaptures_isLive _ _ _)
      (by rw [same.calibration])]
    exact ih hs
  | @count _ r v x _ _ _ k ih =>
    have hv : v.judged := k.judged (ih hs)
    unfold State.judged
    exact hv.trans ((Frame.setLive .payload _ v).judgedSource (setLive_other .payload .tipStuck nofun) rfl).symm
  | source _ ih => rfl
  | calibrate cal _ _ hu _ _ => exact hu

/-- The current source of a module that has been judged is the one R65 judges. -/
theorem Works.sourced (h : Works s t) (hs : s.sourced) : t.sourced := ⟨h.judged hs.1, h.quiet hs.2⟩

/-! ## A capture in flight -/

theorem tipReadable_of (hl : t.tlc.link = s.tlc.link) (hk : t.clp.isLive .tipStuck = s.clp.isLive .tipStuck) :
    tipReadable t = tipReadable s := by simp [tipReadable, hl, hk]

/-- What a capture in flight needs stands. -/
theorem State.capturing.of_eq (h : s.capturing) (hc : t.wen.capture = none ∨ t.wen.capture = s.wen.capture
      ∨ ∃ (c : Capture) (n : Nat) (x : Int), s.wen.capture = some c ∧ n < 32
        ∧ t.wen.capture = some { c with count := n, sum := x })
    (hs : t.ltr.state = s.ltr.state) (hr : tipReadable t = tipReadable s) : t.capturing := by
  intro c h'
  rw [hs, hr]
  rcases hc with e | e | ⟨c', n, x, e, hn, e'⟩
  · rw [e] at h'
    cases h'
  · exact h c (e ▸ h')
  · obtain rfl : { c' with count := n, sum := x } = c := Option.some.inj (e'.symm.trans h')
    exact ⟨hn, (h c' e).2⟩

theorem State.capturing.of_none (h : t.wen.capture = none) : t.capturing := fun c hc => by
  rw [h] at hc
  cases hc

theorem enterOn_capture (new : LiftState) (l : Ltr) (x : Option Source) (w : Option Window) (s : State) :
    (enterOn new l x w s).wen.capture = if Machine.capturing (brokenBy new) s then none else s.wen.capture := by
  unfold enterOn
  rw [abortCaptures_wen]
  rfl

/-- A change of the lift state ends the capture whose condition it breaks (R76 to R79). -/
theorem enterOn_capturing (new : LiftState) (l : Ltr) (x : Option Source) (w : Option Window) (h : s.capturing) :
    (enterOn new l x w s).capturing := by
  have hr : tipReadable (enterOn new l x w s) = tipReadable s :=
    tipReadable_of (enterOn_frame new l x w s).link (abortCaptures_isLive _ _ _)
  have hs : (enterOn new l x w s).ltr.state = new := by simp [enterOn, Ltr.enter]
  intro c hc
  have hc' : s.wen.capture = some c ∧ (brokenBy new).contains c.kind = false := by
    rw [enterOn_capture] at hc
    split at hc
    · cases hc
    · rename_i hk
      refine ⟨hc, ?_⟩
      simpa [Machine.capturing, hc] using hk
  obtain ⟨hs', hk⟩ := hc'
  obtain ⟨hn, -, -, ht, hb⟩ := h c hs'
  rw [hs, hr]
  refine ⟨hn, fun hz => ?_, fun hz => ?_, ht, hb⟩
  · rcases hz with hz | hz <;> cases new <;> simp [brokenBy, hz] at hk ⊢
  · rcases hz with hz | hz <;> cases new <;> simp [brokenBy, hz] at hk ⊢

theorem Works.capturing (h : Works s t) (hs : s.capturing) : t.capturing := by
  induction h with
  | refl => exact hs
  | mild _ k ih => exact (ih hs).of_eq k.wen.capture k.state (tipReadable_of k.link (k.live _ id))
  | evaluation _ ih =>
    exact (ih hs).of_eq (.inr (.inl rfl)) rfl (tipReadable_of rfl (evaluate_isLive _ (show Condition.tipStuck ≠ .limitHold from nofun)))
  | enter new l x w _ _ _ ih => exact enterOn_capturing new l x w (ih hs)
  | @count _ r v x _ _ _ k ih =>
    exact (ih hs).of_eq k.wen.capture k.state
      (tipReadable_of k.link ((setLive_other .payload .tipStuck nofun).trans (k.live .tipStuck id)))
  | source _ ih => exact (ih hs).of_eq (.inr (.inl rfl)) rfl rfl
  | calibrate cal _ _ _ ih ik => exact ik (.of_none rfl)

/-! ## Factors -/

theorem momentFactor_le (x : Stage) (u w : Nat) : momentFactor x u w ≤ 1000 := by
  unfold momentFactor
  split
  · exact Nat.le_refl _
  · have := (clamp_mem 0 1000 (floorDiv ((1000 - (u : Int)) * 1000) (1000 - w)) (by decide)).2
    omega
  · exact Nat.zero_le _

theorem cabBlock_le (z : ZoneSettings) (p : Option Position) :
    (cabBlock z p).2.positive ≤ 1000 ∧ (cabBlock z p).2.negative ≤ 1000 := by
  unfold cabBlock
  dsimp only
  repeat' split
  all_goals decide

/-- Every factor that VDR holds lies in 0..1,000 (R156). -/
def Vdr.factorsBounded (d : Vdr) : Prop :=
  ∀ v : Section, (d.factors.get v).positive ≤ 1000 ∧ (d.factors.get v).negative ≤ 1000

theorem evaluate_factors (s : State) : (evaluate s).vdr.factorsBounded ∧ (evaluate s).withholds := by
  obtain ⟨-, -, -, hm, hx, -⟩ := evaluatedMlm_frame s
  have hf : (evaluate s).vdr.factors = _ := hx
  have hle := momentFactor_le (evaluatedMlm s).stage (momentFigures s).utilisation s.mlm.limiter.warn
  rw [← hm] at hle
  have hc : (if isDegraded s then min (evaluatedMlm s).momentFactor 300 else (evaluatedMlm s).momentFactor)
      ≤ (evaluatedMlm s).momentFactor := by
    split
    · exact Nat.min_le_left _ _
    · exact Nat.le_refl _
  unfold Vdr.factorsBounded State.withholds
  rw [hf]
  generalize hcap : (if isDegraded s then min (evaluatedMlm s).momentFactor 300
    else (evaluatedMlm s).momentFactor) = capped at hc
  refine ⟨fun v => ?_, fun hh => ?_⟩
  · have := cabBlock_le s.geo.zonesUsed s.geo.position
    cases v <;> simp only [factorsFor, PerSection.get] <;> omega
  · have h0 : (evaluatedMlm s).momentFactor = 0 := by
      rw [hm, show (evaluatedMlm s).stage = _ from hh]
      rfl
    have : capped = 0 := by omega
    exact ⟨this, this, this⟩

theorem Works.factors (h : Works s t) (hs : s.vdr.factorsBounded ∧ s.withholds) :
    t.vdr.factorsBounded ∧ t.withholds := by
  induction h with
  | refl => exact hs
  | mild _ k ih =>
    have := ih hs
    unfold Vdr.factorsBounded State.withholds at this ⊢
    rw [k.vdr.factors, k.stage]
    exact this
  | evaluation _ ih => exact evaluate_factors _
  | enter new l x w _ _ _ ih => simpa [enterOn, Vdr.factorsBounded, State.withholds] using ih hs
  | @count _ r v x _ _ _ k ih =>
    have := ih hs
    unfold Vdr.factorsBounded State.withholds at this ⊢
    show (∀ w, (v.vdr.factors.get w).positive ≤ _ ∧ (v.vdr.factors.get w).negative ≤ _)
      ∧ (v.mlm.stage = _ → v.vdr.factors.boom.negative = _ ∧ v.vdr.factors.jib.positive = _
        ∧ v.vdr.factors.tele.positive = _)
    rw [k.vdr.factors, k.stage]
    exact this
  | source _ ih => exact ih hs
  | calibrate cal _ _ _ ih ik => exact ik (ih hs)

end Sys2Proof.Machine
end

section
/-! PROOF. What a command does to the module besides that work: the link, the inputs, the profile, the valves and a
capture change. `Moves s t` is a sequence of such changes and of work; the promises that a change keeps at once are
kept by every sequence. `Acts s t` is a sequence after which the sources, the capture and PAYLOAD, which a change
leaves to be judged anew, have been judged. -/

namespace Sys2Proof.Machine

variable {s t u : State}

/-! ## Changes -/

/-- TLC takes a new link state, and TIP_DOWN and TIP_FAILED follow it (R20). -/
def linked (new : Tlc) (s : State) : State :=
  setLive .tipFailed (new.link == .failed)
    (setLive .tipDown (new.link != .up) { s with tlc := new.leaveUp s.tlc.link })

/-- The conditions that VDR sets (R167, R176). -/
def Condition.ofValves : Condition → Prop
  | .leverStale => True
  | .coilFault _ => True
  | _ => False

inductive Change (s : State) : State → Prop
  | link (new : Tlc) (hn : s.tlc.orderly → (new.leaveUp s.tlc.link).orderly) : Change s (linked new s)
  | stuck (v : Bool) : Change s (setLive .tipStuck v s)
  | inputs (i : Iau) : Change s { s with iau := i }
  | geometry (g : Geo) : Change s { s with geo := g }
  | profile (p : Profile) (hp : s.sto.working.withinFactory = true → p.withinFactory = true)
      (hf : s.sto.freeze = .opened) : Change s { s with sto := { s.sto with working := p } }
  | freeze : Change s { s with sto := { s.sto with freeze := .frozen } }
  | capture (c : Capture) : Change s { s with wen := { s.wen with capture := some c } }
  | valves (d : Vdr) (c : Clp)
      (hv : s.vdr.factorsBounded → ∀ v, (s.vdr.sections.get v).safe → (d.sections.get v).safe)
      (hf : d.factors = s.vdr.factors) (hg : s.clp.Grows c)
      (hl : ∀ e : Condition, ¬e.ofValves → c.isLive e = s.clp.isLive e)
      (hc : s.coilConditions → ({ s with vdr := d, clp := c } : State).coilConditions)
      (hk : s.leverCondition → ({ s with vdr := d, clp := c } : State).leverCondition) :
      Change s { s with vdr := d, clp := c }

inductive Moves (s : State) : State → Prop
  | refl : Moves s s
  | change {t u : State} (h : Moves s t) (c : Change t u) : Moves s u
  | works {t u : State} (h : Moves s t) (k : Works t u) : Moves s u

theorem Moves.trans (h : Moves s t) (k : Moves t u) : Moves s u := by
  induction k with
  | refl => exact h
  | change _ c ih => exact ih.change c
  | works _ w ih => exact ih.works w

/-- The changes leave LTR, TAL, LOG, MLM and the factors. -/
structure Change.Kept (s t : State) : Prop where
  powered : t.powered = s.powered
  pending : t.pending = s.pending
  ltr : t.ltr = s.ltr
  tal : t.tal = s.tal
  log : t.log = s.log
  mlm : t.mlm = s.mlm
  factors : t.vdr.factors = s.vdr.factors
  wen : t.wen = { s.wen with capture := t.wen.capture }

theorem Change.kept (h : Change s t) : Change.Kept s t := by
  cases h with
  | valves d c _ hf => exact ⟨rfl, rfl, rfl, rfl, rfl, rfl, hf, rfl⟩
  | _ => exact ⟨rfl, rfl, rfl, rfl, rfl, rfl, rfl, rfl⟩

theorem Change.grows (h : Change s t) : s.clp.Grows t.clp := by
  cases h with
  | link => exact (Clp.Grows.setLive _ _ _).trans (.setLive _ _ _)
  | stuck => exact .setLive _ _ _
  | valves d c _ _ hg => exact hg
  | _ => exact .refl _

/-- The conditions that some change sets. -/
def Condition.changed (d : Condition) : Prop := d = .tipDown ∨ d = .tipFailed ∨ d = .tipStuck ∨ d.ofValves

theorem Condition.not_changed_limitHold : ¬Condition.changed .limitHold := by simp [changed, ofValves]

theorem Condition.not_changed_noCal : ¬Condition.changed .noCal := by simp [changed, ofValves]

theorem Change.live (h : Change s t) {d : Condition} (hd : ¬d.changed) : t.clp.isLive d = s.clp.isLive d := by
  have ne (e : Condition) (he : e.changed) : e ≠ d := fun x => hd (x ▸ he)
  cases h with
  | link =>
    exact (setLive_other .tipFailed d (ne _ (.inr (.inl rfl)))).trans (setLive_other .tipDown d (ne _ (.inl rfl)))
  | stuck => exact setLive_other .tipStuck d (ne _ (.inr (.inr (.inl rfl))))
  | valves _ c _ _ _ hl =>
    exact hl d fun x => hd (.inr (.inr (.inr x)))
  | _ => rfl

/-! ## What every sequence of changes and work keeps -/

namespace Moves

theorem grows (h : Moves s t) : s.clp.Grows t.clp := by
  induction h with
  | refl => exact .refl _
  | change _ c ih => exact ih.trans c.grows
  | works _ w ih => exact ih.trans w.frame.clp

theorem powered (h : Moves s t) : t.powered = s.powered := by
  induction h with
  | refl => rfl
  | change _ c ih => exact c.kept.powered.trans ih
  | works _ w ih => exact w.frame.powered.trans ih

theorem pending (h : Moves s t) : t.pending = s.pending := by
  induction h with
  | refl => rfl
  | change _ c ih => exact c.kept.pending.trans ih
  | works _ w ih => exact w.frame.pending.trans ih

theorem numbered (h : Moves s t) (hs : s.log.numbered) : t.log.numbered := by
  induction h with
  | refl => exact hs
  | change _ c ih => exact c.kept.log ▸ ih
  | works _ w ih => exact w.numbered ih

theorem bounded (h : Moves s t) (hs : s.tal.bounded) : t.tal.bounded := by
  induction h with
  | refl => exact hs
  | change _ c ih => exact c.kept.tal ▸ ih
  | works _ w ih => exact w.bounded ih

theorem labelled (h : Moves s t) (hs : s.tal.labelled) : t.tal.labelled := by
  induction h with
  | refl => exact hs
  | change _ c ih => exact c.kept.tal ▸ ih
  | works _ w ih => exact w.labelled ih

theorem tracked (h : Moves s t) (hs : s.wen.tracked) : t.wen.tracked := by
  induction h with
  | refl => exact hs
  | change _ c ih =>
    rw [c.kept.wen]
    exact ih
  | works _ w ih => exact w.tracked ih

theorem quiet (h : Moves s t) (hs : s.wen.quiet) : t.wen.quiet := by
  induction h with
  | refl => exact hs
  | change _ c ih =>
    rw [c.kept.wen]
    exact ih
  | works _ w ih => exact w.quiet ih

theorem lift (h : Moves s t) (hs : s.ltr.consistent ∧ s.liftWindowed) : t.ltr.consistent ∧ t.liftWindowed := by
  induction h with
  | refl => exact hs
  | change _ c ih =>
    unfold State.liftWindowed at ih ⊢
    rw [c.kept.wen, c.kept.ltr]
    exact ih
  | works _ w ih => exact w.lift ih

theorem withinFactory (h : Moves s t) (hs : s.sto.working.withinFactory = true) :
    t.sto.working.withinFactory = true := by
  induction h with
  | refl => exact hs
  | change _ c ih =>
    cases c with
    | profile p hp => exact hp ih
    | _ => exact ih
  | works _ w ih => rw [w.frame.working]; exact ih

/-- A frozen profile stands (R189). -/
theorem frozen (h : Moves s t) (hs : s.sto.freeze = .frozen) :
    t.sto.working = s.sto.working ∧ t.sto.freeze = .frozen := by
  induction h with
  | refl => exact ⟨rfl, hs⟩
  | change _ c ih =>
    obtain ⟨hw, hf⟩ := ih
    cases c with
    | profile p _ ho => exact absurd (hf.symm.trans ho) nofun
    | freeze => exact ⟨hw, rfl⟩
    | _ => exact ⟨hw, hf⟩
  | works _ w ih => exact ⟨w.frame.working.trans ih.1, w.frame.freeze.trans ih.2⟩

theorem factors (h : Moves s t) (hs : s.vdr.factorsBounded ∧ s.withholds) :
    t.vdr.factorsBounded ∧ t.withholds := by
  induction h with
  | refl => exact hs
  | change _ c ih =>
    unfold Vdr.factorsBounded State.withholds at ih ⊢
    rw [c.kept.factors, c.kept.mlm]
    exact ih
  | works _ w ih => exact w.factors ih

theorem safe (h : Moves s t) (hf : s.vdr.factorsBounded ∧ s.withholds) (v : Section)
    (hs : (s.vdr.sections.get v).safe) : (t.vdr.sections.get v).safe := by
  induction h with
  | refl => exact hs
  | change h c ih =>
    cases c with
    | valves d c hv => exact hv (h.factors hf).1 v ih
    | _ => exact ih
  | works _ w ih => exact w.frame.sections v ih

theorem leaveUp_link (new : Tlc) (old : LinkState) : (new.leaveUp old).link = new.link := by
  unfold Tlc.leaveUp
  split <;> rfl

theorem orderly (h : Moves s t) (hs : s.tlc.orderly) : t.tlc.orderly := by
  induction h with
  | refl => exact hs
  | change _ c ih =>
    cases c with
    | link new hn => exact hn ih
    | _ => exact ih
  | works _ w ih => exact w.frame.orderly ih

theorem tipConditions (h : Moves s t) (hs : s.tipConditions) : t.tipConditions := by
  induction h with
  | refl => exact hs
  | change _ c ih =>
    unfold State.tipConditions at ih ⊢
    cases c with
    | link new =>
      show ((Clp.setLive _ _ _).isLive _ = true ↔ (new.leaveUp _).link ≠ _)
        ∧ ((Clp.setLive _ _ _).isLive _ = true ↔ (new.leaveUp _).link = _)
      rw [Clp.setLive_self, setLive_other .tipFailed .tipDown nofun, leaveUp_link]
      show ((Clp.setLive _ _ _).isLive _ = true ↔ _) ∧ _
      rw [Clp.setLive_self]
      simp
    | stuck v =>
      show ((Clp.setLive _ _ _).isLive _ = true ↔ _) ∧ ((Clp.setLive _ _ _).isLive _ = true ↔ _)
      rw [setLive_other .tipStuck .tipDown nofun, setLive_other .tipStuck .tipFailed nofun]
      exact ih
    | valves _ c _ _ _ hl => exact ⟨(hl .tipDown id) ▸ ih.1, (hl .tipFailed id) ▸ ih.2⟩
    | _ => exact ih
  | works _ w ih =>
    unfold State.tipConditions at ih ⊢
    rw [w.live (d := .tipDown) id id, w.live (d := .tipFailed) id id, w.frame.link]
    exact ih

theorem holdCondition (h : Moves s t) (hs : s.holdCondition) : t.holdCondition := by
  induction h with
  | refl => exact hs
  | change _ c ih =>
    unfold State.holdCondition at ih ⊢
    rw [c.live Condition.not_changed_limitHold, c.kept.mlm]
    exact ih
  | works _ w ih => exact w.holdCondition ih

theorem noCalCondition (h : Moves s t) (hs : s.noCalCondition) : t.noCalCondition := by
  induction h with
  | refl => exact hs
  | change _ c ih =>
    unfold State.noCalCondition at ih ⊢
    rw [c.live Condition.not_changed_noCal, c.kept.wen]
    exact ih
  | works _ w ih => exact w.noCalCondition ih

theorem coilConditions (h : Moves s t) (hs : s.coilConditions) : t.coilConditions := by
  induction h with
  | refl => exact hs
  | change _ c ih =>
    cases c with
    | link new =>
      intro v
      show (Clp.setLive _ _ _).isLive _ = true ↔ _
      rw [setLive_other .tipFailed (.coilFault v) nofun]
      show (Clp.setLive _ _ _).isLive _ = true ↔ _
      rw [setLive_other .tipDown (.coilFault v) nofun]
      exact ih v
    | stuck b =>
      intro v
      show (Clp.setLive _ _ _).isLive _ = true ↔ _
      rw [setLive_other .tipStuck (.coilFault v) nofun]
      exact ih v
    | valves _ c _ _ _ _ hc => exact hc ih
    | _ => exact ih
  | works _ w ih =>
    intro v
    rw [w.live (show ¬Condition.loose (.coilFault v) from id) id, w.frame.disabled]
    exact ih v

theorem leverCondition (h : Moves s t) (hs : s.leverCondition) : t.leverCondition := by
  induction h with
  | refl => exact hs
  | change _ c ih =>
    cases c with
    | link new =>
      show (Clp.setLive _ _ _).isLive _ = true ↔ _
      rw [setLive_other .tipFailed .leverStale nofun]
      show (Clp.setLive _ _ _).isLive _ = true ↔ _
      rw [setLive_other .tipDown .leverStale nofun]
      exact ih
    | stuck b =>
      show (Clp.setLive _ _ _).isLive _ = true ↔ _
      rw [setLive_other .tipStuck .leverStale nofun]
      exact ih
    | valves _ c _ _ _ _ _ hk => exact hk ih
    | _ => exact ih
  | works _ w ih =>
    unfold State.leverCondition at ih ⊢
    rw [w.live (show ¬Condition.loose .leverStale from id) id, ← Option.not_isSome_iff_eq_none, w.frame.leverTimer,
      Option.not_isSome_iff_eq_none]
    exact ih

end Moves

/-! ## Acts -/

/-- A sequence of changes and work after which what the changes leave open has been judged. -/
structure Acts (s t : State) : Prop where
  moves : Moves s t
  judged : s.judged → t.judged
  capturing : s.capturing → t.capturing
  payload : s.payloadCondition → t.payloadCondition

namespace Acts

theorem refl (s : State) : Acts s s := ⟨.refl, id, id, id⟩

theorem trans (h : Acts s t) (k : Acts t u) : Acts s u :=
  ⟨h.moves.trans k.moves, k.judged ∘ h.judged, k.capturing ∘ h.capturing, k.payload ∘ h.payload⟩

theorem of_works (h : Works s t) : Acts s t := ⟨.works .refl h, h.judged, h.capturing, h.payloadCondition⟩

theorem of_mild (h : Mild s t) : Acts s t := of_works h.works

theorem sourced (h : Acts s t) (hs : s.sourced) : t.sourced := ⟨h.judged hs.1, h.moves.quiet hs.2⟩

/-- VDR changes: what the sources, the capture and PAYLOAD read stands. -/
theorem of_valves (d : Vdr) (c : Clp)
    (hv : s.vdr.factorsBounded → ∀ v, (s.vdr.sections.get v).safe → (d.sections.get v).safe)
    (hf : d.factors = s.vdr.factors) (hg : s.clp.Grows c)
    (hl : ∀ e : Condition, ¬e.ofValves → c.isLive e = s.clp.isLive e)
    (hc : s.coilConditions → ({ s with vdr := d, clp := c } : State).coilConditions)
    (hk : s.leverCondition → ({ s with vdr := d, clp := c } : State).leverCondition) :
    Acts s { s with vdr := d, clp := c } where
  moves := .change .refl (.valves d c hv hf hg hl hc hk)
  judged hs := by
    have h : judgedSource ({ s with vdr := d, clp := c } : State) = judgedSource s :=
      judgedSource_of rfl (hl .tipStuck id) rfl rfl (fun _ => rfl) rfl
    exact hs.trans h.symm
  capturing hs := hs.of_eq (.inr (.inl rfl)) rfl (tipReadable_of rfl (hl .tipStuck id))
  payload hs := by
    unfold State.payloadCondition at hs ⊢
    show c.isLive _ = true ↔ _
    rw [hl .payload id]
    exact hs

end Acts

end Sys2Proof.Machine
end

section
/-! PROOF. The commands of VDR and of TLC as acts: the valve sections stay safe, and each change of the link is handed
on. -/

namespace Sys2Proof.Machine

variable {s t u : State}

/-! ## Sections stay safe (R164 to R177) -/

namespace SectionState

variable {x : SectionState}

/-- A new lever target and latch. -/
theorem safe_target (d : Int) (l : Bool) (h : x.safe) (hl : l = true → d = 0) (hd : d.natAbs ≤ 1000) :
    ({ x with target := d, latch := l } : SectionState).safe := by
  obtain ⟨-, -, hx⟩ := h
  exact ⟨hl, hd, hx⟩

theorem clampDemand_natAbs (d : Int) : (clampDemand d).natAbs ≤ 1000 := by
  have := clamp_mem (-1000) 1000 d (by decide)
  unfold clampDemand
  omega

theorem takeDemand_safe (d : Int) (h : x.safe) : (x.takeDemand d).safe := by
  obtain ⟨unlatched, neutral, latched⟩ := x.takeDemand_cases d
  have hd := clampDemand_natAbs d
  cases hl : x.latch with
  | false =>
    rw [unlatched hl]
    exact safe_target _ x.latch h (by simp [hl]) hd
  | true =>
    by_cases hn : (clampDemand d).natAbs ≤ 50
    · rw [neutral hl hn]
      exact safe_target _ false h nofun hd
    · rw [latched hl (by omega)]
      exact safe_target 0 x.latch h (fun _ => rfl) (Nat.zero_le _)

theorem hold_safe (h : x.safe) : x.hold.safe := safe_target 0 true h (fun _ => rfl) (Nat.zero_le _)

theorem disable_safe (f : CoilFault) (h : x.safe) : (x.disable f).safe :=
  ⟨h.1, h.2.1, Nat.zero_le _, .inl rfl, .inl rfl, .inl rfl, Nat.zero_le _, Nat.zero_le _,
    fun _ => ⟨rfl, rfl, rfl, rfl, rfl, rfl⟩⟩

theorem reenable_safe (h : x.safe) : x.reenable.safe := by
  unfold reenable
  split
  · obtain ⟨hl, ht, ho, hs, hd, hv, -, -, -⟩ := hold_safe h
    exact ⟨hl, ht, ho, hs, hd, hv, Nat.zero_le _, Nat.zero_le _, nofun⟩
  · exact h

theorem composedTarget_natAbs (d : Int) {f : Nat} (hf : f ≤ 1000) : (composedTarget d f).natAbs ≤ d.natAbs := by
  unfold composedTarget
  rw [Int.natAbs_tdiv, Int.natAbs_mul]
  refine Nat.div_le_of_le_mul ?_
  rw [Nat.mul_comm]
  exact Nat.mul_le_mul_right _ hf

theorem factorInUse_le (v : Section) (d : Int) {f : FactorPair} (hf : f.positive ≤ 1000 ∧ f.negative ≤ 1000) :
    factorInUse v d f ≤ 1000 := by
  unfold factorInUse
  split
  · exact Nat.le_refl _
  · split
    · exact hf.1
    · exact hf.2

theorem setpoints_one (t : SectionSettings) (o : Int) : (setpoints t o).a = 0 ∨ (setpoints t o).b = 0 := by
  unfold setpoints
  split
  · exact .inr rfl
  · exact .inl rfl

theorem drive_safe (v : Section) {f : FactorPair} (hf : f.positive ≤ 1000 ∧ f.negative ≤ 1000)
    (he : x.isDisabled = false) (h : x.safe) : (x.drive v f).safe := by
  obtain ⟨hl, ht, ho, -, -, hv, ha, hb, -⟩ := h
  have hc := composedTarget_natAbs x.target (factorInUse_le v x.target hf)
  have hm := rampOutput_mem x.settings.up x.settings.down x.output (composedTarget x.target (factorInUse v x.target f))
  have hs := setpoints_one x.settings (rampOutput x.settings.up x.settings.down x.output
    (composedTarget x.target (factorInUse v x.target f)))
  refine ⟨hl, ht, ?_, hs, hs.imp (fun h => ?_) (fun h => ?_), hv, ha, hb, fun hd => ?_⟩
  · show (rampOutput _ _ _ _).natAbs ≤ 1000
    omega
  · show dutyCode _ = 0
    rw [h]
    rfl
  · show dutyCode _ = 0
    rw [h]
    rfl
  · exact absurd (show x.isDisabled = true from hd) (by simp [he])

theorem openJudged_le (f : Bool) (n : Nat) : (openJudged f n).1 ≤ 10 := by
  unfold openJudged
  split
  · split
    · dsimp only
      omega
    · exact Nat.le_refl _
  · exact Nat.zero_le _

theorem update_safe (v : Section) {f : FactorPair} (m : CoilPair) (hf : f.positive ≤ 1000 ∧ f.negative ≤ 1000)
    (h : x.safe) : (x.update v f m).safe := by
  unfold update
  split
  · exact h
  · rename_i he
    dsimp only
    have hd : x.isDisabled = false := by simp [isDisabled, he]
    have hx : ∀ a b, a ≤ 10 → b ≤ 10 → ({ x with measured := m, openCount := ⟨a, b⟩ } : SectionState).safe := by
      obtain ⟨hl, ht, ho, hs, hc, hv, -, -, -⟩ := h
      exact fun a b ha hb => ⟨hl, ht, ho, hs, hc, hv, ha, hb, fun hx => absurd (show x.isDisabled = true from hx) (by simp [hd])⟩
    have hj := hx _ _ (openJudged_le (failsOpen x.setpoint.a m.a) x.openCount.a)
      (openJudged_le (failsOpen x.setpoint.b m.b) x.openCount.b)
    split
    · exact disable_safe _ hj
    · split
      · exact disable_safe _ hj
      · exact drive_safe v hf hd hj

/-- An update re-enables no section (R176). -/
theorem update_isDisabled (v : Section) (f : FactorPair) (m : CoilPair) (h : x.isDisabled = true) :
    (x.update v f m).isDisabled = true := by
  obtain ⟨c, hc⟩ := (isDisabled_iff x).mp h
  rw [update_disabled v f m hc]
  exact h

theorem takeDemand_isDisabled (d : Int) : (x.takeDemand d).isDisabled = x.isDisabled := by
  unfold takeDemand
  dsimp only
  split
  · split <;> rfl
  · rfl

theorem reenable_isDisabled : x.reenable.isDisabled = false := by
  unfold reenable
  split
  · rfl
  · rename_i h
    cases hx : x.isDisabled with
    | true => exact absurd hx h
    | false => rfl

end SectionState

/-! ## VDR's commands as acts -/

theorem foldl_coilFault_grows (p : Section → Bool) (b : Bool) (l : List Section) (c : Clp) :
    c.Grows (l.foldl (fun c w => if p w then c.setLive (.coilFault w) b else c) c) := by
  induction l generalizing c with
  | nil => exact .refl _
  | cons w l ih =>
    refine Clp.Grows.trans ?_ (ih _)
    dsimp only
    split
    · exact .setLive _ _ _
    · exact .refl _

theorem not_ofValves_coilFault {e : Condition} (h : ¬e.ofValves) (v : Section) : e ≠ .coilFault v := fun x =>
  h (x ▸ trivial)

theorem not_ofValves_leverStale {e : Condition} (h : ¬e.ofValves) : Condition.leverStale ≠ e := fun x =>
  h (x ▸ trivial)

theorem leverCondition_of (h : s.leverCondition) (hl : t.clp.isLive .leverStale = s.clp.isLive .leverStale)
    (ht : t.vdr.leverTimer = s.vdr.leverTimer) : t.leverCondition := by
  unfold State.leverCondition at h ⊢
  rw [hl, ht]
  exact h

theorem coilConditions_of (h : s.coilConditions)
    (hl : ∀ v, t.clp.isLive (.coilFault v) = s.clp.isLive (.coilFault v))
    (hd : ∀ v, (t.vdr.sections.get v).isDisabled = (s.vdr.sections.get v).isDisabled) : t.coilConditions := by
  intro v
  rw [hl, hd]
  exact h v

theorem acts_updateDrive (m : CoilSamples) (s : State) : Acts s (updateDrive m s) := by
  have hu : ∀ v, (updatedSections m s.vdr).get v = _ := fun v => PerSection.get_map _ _ v
  refine .of_valves _ _ (fun hf v hv => ?_) rfl (foldl_coilFault_grows _ _ _ _)
    (fun e he => foldl_coilFault_other _ _ _ _ _ (not_ofValves_coilFault he)) (fun hc v => ?_)
    fun hk => leverCondition_of hk (foldl_coilFault_other _ _ _ _ .leverStale nofun) rfl
  · dsimp only
    rw [hu]
    exact SectionState.update_safe v (m.get v) (hf v) hv
  · show (noteCoilFaults s.vdr.sections (updatedSections m s.vdr) s.clp).isLive _ = true
      ↔ ((updatedSections m s.vdr).get v).isDisabled = true
    rw [noteCoilFaults_isLive, hu]
    have hd : (s.vdr.sections.get v).isDisabled = true → _ :=
      SectionState.update_isDisabled v (s.vdr.factors.get v) (m.get v)
    have hb := hc v
    cases hx : (s.vdr.sections.get v).isDisabled with
    | true => simp [hd hx, hb, hx]
    | false =>
      rw [hx] at hb
      cases ha : (SectionState.update v (s.vdr.factors.get v) (m.get v) (s.vdr.sections.get v)).isDisabled <;>
        simp_all

theorem acts_takeShort (v : Section) (x : Coil) (s : State) : Acts s (takeShort v x s) := by
  unfold takeShort
  split
  · exact .refl s
  · refine .of_valves _ _ (fun _ w hw => ?_) rfl (.setLive _ _ _)
      (fun e he => setLive_other _ _ (not_ofValves_coilFault he v).symm) (fun hc w => ?_)
      fun hk => leverCondition_of hk (setLive_other (.coilFault v) .leverStale nofun) rfl
    · dsimp only
      rw [PerSection.get_set]
      split
      · rename_i h
        exact SectionState.disable_safe _ (h ▸ hw)
      · exact hw
    · dsimp only
      rw [PerSection.get_set]
      split
      · rename_i h
        rw [h, Clp.setLive_self]
        exact ⟨fun _ => rfl, fun _ => rfl⟩
      · rename_i h
        have hl : (s.clp.setLive (.coilFault v) true).isLive (.coilFault w) = s.clp.isLive (.coilFault w) :=
          setLive_other _ _ fun x => h (by cases x; rfl)
        rw [hl]
        exact hc w

theorem acts_takeLever (d : PerSection Int) (s : State) : Acts s (takeLever d s) := by
  have hg : ∀ v, (takeLever d s).vdr.sections.get v = (s.vdr.sections.get v).takeDemand (d.get v) := fun v =>
    PerSection.get_map _ _ v
  refine .of_valves _ _ (fun _ v hv => ?_) rfl (.setLive _ _ _)
    (fun e he => setLive_other _ _ (not_ofValves_leverStale he))
    (fun hc => coilConditions_of hc (fun v => setLive_other .leverStale (.coilFault v) nofun) fun v => ?_) fun _ => ?_
  · exact (hg v).symm ▸ SectionState.takeDemand_safe _ hv
  · exact (congrArg SectionState.isDisabled (hg v)).trans (SectionState.takeDemand_isDisabled _)
  · have hl : (s.clp.setLive .leverStale false).isLive .leverStale = false := Clp.setLive_self _ _ _
    unfold State.leverCondition
    dsimp only
    rw [hl]
    exact ⟨nofun, nofun⟩

theorem acts_expireLever (s : State) : Acts s (expireLever s) := by
  unfold expireLever
  split
  · have hg : ∀ v, (s.vdr.sections.map fun _ x => x.hold).get v = (s.vdr.sections.get v).hold := fun v =>
      PerSection.get_map _ _ v
    refine .of_valves _ _ (fun _ v hv => ?_) rfl (.setLive _ _ _)
      (fun e he => setLive_other _ _ (not_ofValves_leverStale he))
      (fun hc => coilConditions_of hc (fun v => setLive_other .leverStale (.coilFault v) nofun) fun v => ?_) fun _ => ?_
    · exact (hg v).symm ▸ SectionState.hold_safe hv
    · exact (congrArg SectionState.isDisabled (hg v)).trans rfl
    · have hl : (s.clp.setLive .leverStale true).isLive .leverStale = true := Clp.setLive_self _ _ _
      unfold State.leverCondition
      dsimp only
      rw [hl]
      exact ⟨fun _ => rfl, fun _ => rfl⟩
  · exact .refl s

theorem acts_reenableSections (s : State) : Acts s (reenableSections s) := by
  have hg : ∀ v, (s.vdr.sections.map fun _ x => x.reenable).get v = (s.vdr.sections.get v).reenable := fun v =>
    PerSection.get_map _ _ v
  refine .of_valves _ _ (fun _ v hv => ?_) rfl (foldl_coilFault_grows _ _ _ _)
    (fun e he => foldl_coilFault_other _ _ _ _ _ (not_ofValves_coilFault he)) (fun hc v => ?_)
    fun hk => leverCondition_of hk (foldl_coilFault_other _ _ _ _ .leverStale nofun) rfl
  · exact (hg v).symm ▸ SectionState.reenable_safe hv
  · have hl := foldl_coilFault_isLive (fun w => (s.vdr.sections.get w).isDisabled) false Section.list s.clp v
    dsimp only at hl ⊢
    rw [hl, hg, SectionState.reenable_isDisabled]
    have := hc v
    split
    · simp
    · rename_i h
      simp only [Section.mem_list, true_and] at h
      simp [h, this]

/-- Settings of the sections alone: none is driven anew. -/
theorem mild_sections (s : State) (f : Section → SectionState → SectionState)
    (hf : ∀ v x, ∃ t, f v x = { x with settings := t }) :
    Mild s { s with vdr := { s.vdr with sections := s.vdr.sections.map f } } := by
  refine .of_vdr s _ ⟨fun v hv => ?_, fun v => ?_, rfl, rfl⟩
  · dsimp only
    obtain ⟨t, ht⟩ := hf v (s.vdr.sections.get v)
    rw [PerSection.get_map, ht]
    exact hv
  · dsimp only
    obtain ⟨t, ht⟩ := hf v (s.vdr.sections.get v)
    rw [PerSection.get_map, ht]
    rfl

theorem mild_clampSections (s : State) : Mild s (clampSections s) := mild_sections s _ fun _ _ => ⟨_, rfl⟩

theorem mild_takeSection (l : List Section) (x : SectionSettings) (s : State) : Mild s (takeSection l x s) :=
  mild_sections s _ fun _ y => by
    split
    · exact ⟨x, rfl⟩
    · exact ⟨y.settings, rfl⟩

/-! ## The link as acts (R20 to R32) -/

theorem selectPattern_stage (m : Mlm) (p : HornPattern) : (m.selectPattern p).stage = m.stage := by
  unfold Mlm.selectPattern
  split <;> rfl

theorem mild_selectHorn (s : State) : Mild s (selectHorn s) := .of_mlm s _ (selectPattern_stage _ _)

theorem works_handLink {old new : LinkState} (h : Works s t) : Works s (handLink old new t) := by
  unfold handLink
  split
  · exact works_tipLinkDown h
  · split
    · exact works_rejudgeSources h
    · exact h

theorem works_moveLink (new : Tlc) (s : State) : Works (linked new s) (moveLink new s) := by
  have h : Works (linked new s) (handLink s.tlc.link new.link (linked new s)) := works_handLink .refl
  unfold moveLink
  dsimp only
  split
  · exact h.mild (mild_selectHorn _)
  · exact h

theorem linked_link (new : Tlc) (s : State) : (linked new s).tlc.link = new.link := Moves.leaveUp_link _ _

theorem linked_isLive (new : Tlc) (s : State) {d : Condition} (h1 : Condition.tipDown ≠ d)
    (h2 : Condition.tipFailed ≠ d) : (linked new s).clp.isLive d = s.clp.isLive d :=
  (setLive_other .tipFailed d h2).trans (setLive_other .tipDown d h1)

/-- A change that is no change between UP and another state leaves the sources (R65). -/
theorem linked_judgedSource (new : Tlc) (s : State) (h : s.tlc.link = .up ↔ new.link = .up) :
    judgedSource (linked new s) = judgedSource s := by
  have hk := linked_isLive new s (d := .tipStuck) nofun nofun
  have hl : ((linked new s).tlc.link == .up) = (s.tlc.link == .up) := by
    rw [linked_link, Bool.eq_iff_iff, beq_iff_eq, beq_iff_eq]
    exact h.symm
  unfold judgedSource available
  rw [hk, hl]
  rfl

theorem handLink_judged (new : Tlc) (h : s.judged) :
    (handLink s.tlc.link new.link (linked new s)).judged := by
  unfold handLink
  split
  · exact rejudgeSources_judged _
  · split
    · exact rejudgeSources_judged _
    · rename_i h1 h2
      have hl : s.tlc.link = .up ↔ new.link = .up := by
        constructor
        · intro h
          by_contra hn
          exact h1 ⟨h, hn⟩
        · intro h
          by_contra hn
          exact h2 ⟨hn, h⟩
      exact (show s.wen.source = _ from h).trans (linked_judgedSource new s hl).symm

/-- A tip capture fails when the link leaves UP or TIP_STUCK goes live (R76, R77). -/
theorem abort_capturing (h : s.capturing) (hc : t.wen.capture = s.wen.capture) (hs : t.ltr.state = s.ltr.state) :
    (abortCaptures [.zero, .span] t).capturing := by
  intro c hx
  rw [abortCaptures_wen] at hx
  dsimp only at hx
  split at hx
  · cases hx
  · rename_i hk
    rw [hc] at hx
    obtain ⟨hn, hi, hg, -, hb⟩ := h c hx
    have hk : c.kind ≠ .zero ∧ c.kind ≠ .span := by simpa [Machine.capturing, hc, hx] using hk
    simp only [abortCaptures_frame, hs]
    exact ⟨hn, hi, hg, fun hz => (hz.elim hk.1 hk.2).elim, hb⟩

/-- A link that a tip capture can read stays so. -/
theorem State.capturing.mono (h : s.capturing) (hc : t.wen.capture = s.wen.capture)
    (hs : t.ltr.state = s.ltr.state) (hr : tipReadable s = true → tipReadable t = true) : t.capturing := by
  intro c hx
  rw [hc] at hx
  obtain ⟨hn, hi, hg, ht, hb⟩ := h c hx
  rw [hs]
  exact ⟨hn, hi, hg, hr ∘ ht, hb⟩

theorem handLink_capturing (new : Tlc) (h : s.capturing) :
    (handLink s.tlc.link new.link (linked new s)).capturing := by
  have hk := linked_isLive new s (d := .tipStuck) nofun nofun
  have mono (hx : ¬(s.tlc.link = .up ∧ new.link ≠ .up)) : (linked new s).capturing := by
    refine h.mono rfl rfl fun hr => ?_
    simp only [tipReadable, linked_link, hk, Bool.and_eq_true, beq_iff_eq] at hr ⊢
    refine ⟨?_, hr.2⟩
    by_contra hn
    exact hx ⟨hr.1, hn⟩
  unfold handLink
  split
  · exact (works_rejudgeSources .refl).capturing (abort_capturing h rfl rfl)
  · rename_i hx
    split
    · exact (works_rejudgeSources .refl).capturing (mono hx)
    · exact mono hx

theorem linked_payload (new : Tlc) (h : s.payloadCondition) : (linked new s).payloadCondition := by
  unfold State.payloadCondition at h ⊢
  rw [linked_isLive new s (d := .payload) nofun nofun]
  exact h

theorem acts_moveLink (new : Tlc) (s : State) (hn : s.tlc.orderly → (new.leaveUp s.tlc.link).orderly) :
    Acts s (moveLink new s) := by
  refine ⟨.works (.change .refl (.link new hn)) (works_moveLink new s), fun h => ?_, fun h => ?_, fun h => ?_⟩
  · have k := handLink_judged new h
    unfold moveLink
    dsimp only
    split
    · exact (mild_selectHorn _).judged k
    · exact k
  · have k := handLink_capturing new h
    unfold moveLink
    dsimp only
    split
    · exact (mild_selectHorn _).works.capturing k
    · exact k
  · exact (works_moveLink new s).payloadCondition (linked_payload new h)

theorem acts_setStuck (v : Bool) (s : State) : Acts s (setStuck v s) := by
  unfold setStuck
  split
  · exact .refl s
  · have hw : Works (setLive .tipStuck v s) (tipStuckChanged (setLive .tipStuck v s)) :=
      works_tipStuckChanged .refl
    have hv : (setLive .tipStuck v s).clp.isLive .tipStuck = v := Clp.setLive_self _ _ _
    refine ⟨.works (.change .refl (.stuck v)) hw, fun h => ?_, fun h => ?_, fun h => hw.payloadCondition ?_⟩
    · exact rejudgeSources_judged _
    · unfold tipStuckChanged
      rw [hv]
      refine (works_rejudgeSources .refl).capturing ?_
      cases v with
      | true => exact abort_capturing h rfl rfl
      | false =>
        refine h.mono rfl rfl fun hr => ?_
        simp only [tipReadable, Bool.and_eq_true, Bool.not_eq_true'] at hr ⊢
        exact ⟨hr.1, hv⟩
    · unfold State.payloadCondition at h ⊢
      show (Clp.setLive _ _ _).isLive _ = true ↔ _
      rw [setLive_other .tipStuck .payload nofun]
      exact h

end Sys2Proof.Machine
end

section
/-! PROOF. Every command but a reset, a loss of supply and those that take a frame off the queue or put a LIVE in it,
as acts. -/

namespace Sys2Proof.Machine

variable {s t u : State}

/-! ## The link's commands (R22 to R37) -/

theorem Tlc.fresh_orderly (t : Tlc) (x : LinkState) : (t.fresh.leaveUp x).orderly := by
  unfold Tlc.leaveUp
  split <;> simp [Tlc.orderly, Tlc.fresh, Tlc.sendHail, Tlc.stopTimers]

/-- A new link state with its own timer alone, whose sequence reference goes with UP (R20, R28). -/
theorem Tlc.leave_orderly {t new : Tlc} (h : t.orderly) (hs : new.sequenceRef = t.sequenceRef)
    (hn : ({ new with sequenceRef := none } : Tlc).orderly) : (new.leaveUp t.link).orderly := by
  unfold Tlc.leaveUp
  split
  · exact hn
  · rename_i hx
    obtain ⟨-, -, -, -, -, -, href⟩ := h
    obtain ⟨h1, h2, h3, h4, h5, h6, -⟩ := hn
    refine ⟨h1, h2, h3, h4, h5, h6, fun hr => ?_⟩
    by_contra hne
    exact hx ⟨href (hs ▸ hr), hne⟩

theorem Tlc.probing_orderly {t : Tlc} {n : Nat} (hn : n ≤ 3) (h : t.orderly) :
    ((t.probing n).leaveUp t.link).orderly :=
  leave_orderly h rfl (by simp [Tlc.orderly, Tlc.probing, Tlc.stopTimers, hn])

theorem Tlc.starting_orderly {t : Tlc} (h : t.orderly) : (t.starting.leaveUp t.link).orderly :=
  leave_orderly h rfl (by simp [Tlc.orderly, Tlc.starting, Tlc.stopTimers, h.2.2.2.2.2.1])

theorem Tlc.failed_orderly {t : Tlc} (h : t.orderly) : (t.failed.leaveUp t.link).orderly :=
  leave_orderly h rfl (by simp [Tlc.orderly, Tlc.failed, Tlc.stopTimers, h.2.2.2.2.2.1])

theorem Tlc.stepDown_orderly {t : Tlc} (h : t.orderly) : (t.stepDown.leaveUp t.link).orderly := by
  unfold Tlc.stepDown
  split
  · exact probing_orderly (by omega) h
  · exact failed_orderly h

theorem Tlc.accepted_orderly {t : Tlc} (q : Byte) (x : TipSample) (y : LinkState) (h : t.orderly) :
    ((t.accepted q x).leaveUp y).orderly := by
  unfold Tlc.leaveUp
  split <;> simp [Tlc.orderly, Tlc.accepted, Tlc.stopTimers, h.2.2.2.2.2.1]

theorem acts_freshBringUp (s : State) : Acts s (freshBringUp s) :=
  (acts_moveLink _ s fun _ => Tlc.fresh_orderly _ _).trans (acts_setStuck _ _)

/-- TLC's counters and settings, which no promise is about. -/
theorem mild_tlc (s : State) (x : Tlc) (hl : x.link = s.tlc.link) (hr : x.rate = s.tlc.rate)
    (hq : x.sequenceRef = s.tlc.sequenceRef) (h1 : x.hailTimer.isSome = s.tlc.hailTimer.isSome)
    (h2 : x.probeWindow.isSome = s.tlc.probeWindow.isSome) (h3 : x.startWindow.isSome = s.tlc.startWindow.isSome)
    (h4 : x.lossTimer.isSome = s.tlc.lossTimer.isSome) (h5 : x.backOff.isSome = s.tlc.backOff.isSome) :
    Mild s { s with tlc := x } :=
  .of_tlc s x hl fun h => by
    unfold Tlc.orderly at h ⊢
    rw [hl, hr, hq, h1, h2, h3, h4, h5]
    exact h

theorem works_countErrors {n : Nat} (h : Works s t) : Works s (countErrors n t) := by
  have k : Works s { t with tlc := { t.tlc with
      errorCounter := saturate16 (t.tlc.errorCounter + n)
      noiseCount := saturate16 (t.tlc.noiseCount + n) } } :=
    h.mild (mild_tlc t _ rfl rfl rfl rfl rfl rfl rfl rfl)
  unfold countErrors
  dsimp only
  split
  · exact works_setLive (d := .tipErrOverflow) trivial k
  · exact k

theorem acts_judgeNoise (s : State) : Acts s (judgeNoise s) := by
  unfold judgeNoise
  split
  · exact acts_moveLink _ s Tlc.stepDown_orderly
  · exact .refl s

theorem acts_dropFrame (s : State) : Acts s (dropFrame s) :=
  (Acts.of_works (works_countErrors .refl)).trans (acts_judgeNoise _)

theorem works_transferErrors (s : State) : Works s (transferErrors s) :=
  works_setLive (d := .tipErrOverflow) trivial (Mild.works (mild_tlc s _ rfl rfl rfl rfl rfl rfl rfl rfl))

theorem acts_acceptFrame (q : Byte) (x : TipSample) (n : Nat) (s : State) : Acts s (acceptFrame q x n s) := by
  have h1 : Acts s (if n = 0 then s else countErrors n s) := by
    split
    · exact .refl s
    · exact .of_works (works_countErrors .refl)
  unfold acceptFrame
  dsimp only
  generalize (if n = 0 then s else countErrors n s) = a at h1
  have h2 : Acts s (setStuck (stuckLiveAfter s.tlc (s.clp.isLive .tipStuck) x.force)
      (moveLink (a.tlc.accepted q x) a)) :=
    (h1.trans (acts_moveLink _ _ (Tlc.accepted_orderly q x _))).trans (acts_setStuck _ _)
  have h3 := h2.trans (.of_works (works_tipSample (p := x) .refl))
  split
  · exact h3
  · exact h3.trans (acts_judgeNoise _)

theorem acts_judgeFrame (q : Byte) (x : TipSample) (s : State) : Acts s (judgeFrame q x s) := by
  unfold judgeFrame
  split
  · exact acts_acceptFrame q x 0 s
  · dsimp only
    split
    · exact acts_acceptFrame q x _ s
    · exact acts_dropFrame s

theorem acts_takeData (q : Byte) (x : TipSample) (s : State) : Acts s (takeData q x s) := by
  unfold takeData
  split
  · exact acts_judgeFrame q x s
  · exact acts_acceptFrame q x 0 s
  all_goals exact .refl s

theorem acts_takeDamaged (s : State) : Acts s (takeDamaged s) := by
  unfold takeDamaged
  split
  · exact acts_dropFrame s
  · exact .refl s

theorem acts_takeHailReply (s : State) : Acts s (takeHailReply s) := by
  unfold takeHailReply
  split
  · exact acts_moveLink _ s (Tlc.probing_orderly (by decide))
  · exact .refl s

theorem acts_takeProbeEcho (r n : Byte) (s : State) : Acts s (takeProbeEcho r n s) := by
  unfold takeProbeEcho
  split
  · exact acts_moveLink _ s Tlc.starting_orderly
  · exact .refl s

theorem acts_expireHail (s : State) : Acts s (expireHail s) := by
  unfold expireHail
  split
  · rename_i hl
    split
    · exact .of_mild (.of_tlc s _ rfl fun h => ⟨by simp [Tlc.sendHail, hl], h.2⟩)
    · exact acts_moveLink _ s Tlc.failed_orderly
  · exact .refl s

theorem acts_resendProbe (s : State) : Acts s (resendProbe s) := by
  unfold resendProbe
  split
  · exact .of_mild (mild_tlc s _ rfl rfl rfl rfl rfl rfl rfl rfl)
  · exact .refl s

theorem acts_expireProbe (s : State) : Acts s (expireProbe s) := by
  unfold expireProbe
  split
  · exact acts_moveLink _ s Tlc.stepDown_orderly
  · exact .refl s

theorem acts_resendGo (s : State) : Acts s (resendGo s) := by
  unfold resendGo
  split
  · exact .of_mild (mild_tlc s _ rfl rfl rfl rfl rfl rfl rfl rfl)
  · exact .refl s

theorem acts_expireStart (s : State) : Acts s (expireStart s) := by
  unfold expireStart
  split
  · exact acts_moveLink _ s Tlc.stepDown_orderly
  · exact .refl s

theorem acts_expireLoss (s : State) : Acts s (expireLoss s) := by
  unfold expireLoss
  split
  · exact acts_moveLink _ s fun h => Tlc.probing_orderly h.2.2.2.2.2.1 h
  · exact .refl s

theorem acts_expireBackOff (s : State) : Acts s (expireBackOff s) := by
  unfold expireBackOff
  split
  · exact acts_freshBringUp s
  · exact .refl s

theorem acts_expireReport (s : State) : Acts s (expireReport s) := by
  have h : Works s { s with tlc := { s.tlc with reportTimer := some 1000 } } :=
    Mild.works (mild_tlc s _ rfl rfl rfl rfl rfl rfl rfl rfl)
  unfold expireReport
  dsimp only
  split
  · exact .of_works h
  · split
    · exact .of_works (h.trans (works_transferErrors _))
    · exact .of_works (works_notify rfl (h.trans (works_transferErrors _)))

theorem acts_takeTipLink (x : TipSettings) (s : State) : Acts s (takeTipLink x s) := by
  have h : Acts s { s with tlc := { s.tlc with settings := x } } :=
    .of_mild (mild_tlc s _ rfl rfl rfl rfl rfl rfl rfl rfl)
  unfold takeTipLink
  dsimp only
  split
  · exact h
  · exact h.trans (acts_setStuck _ _)

/-! ## The acquisition frame (R2) -/

theorem works_foldl {α : Type} (f : State → α → State) (hf : ∀ s x, Works s (f s x)) (l : List α) (s : State) :
    Works s (l.foldl f s) := by
  induction l generalizing s with
  | nil => exact .refl
  | cons x l ih => exact (hf s x).trans (ih _)

theorem works_setSensorFaults (codes : PerChannel RawCode) (s : State) : Works s (setSensorFaults codes s) :=
  works_foldl _ (fun _ c => works_setLive (d := .sensorFault c) trivial .refl) _ s

theorem works_noteEdge (before : PerLine LineState) (l : Line) (s : State) : Works s (noteEdge before l s) := by
  unfold noteEdge
  split
  · split
    · exact .refl
    · exact works_notify rfl .refl
  · exact .refl

theorem mild_handSwitch (s : State) : Mild s (handSwitch s) := .of_tal s _ id id rfl

/-- After the cylinder's task the sources have been judged on the frame's inputs (R65). -/
theorem cylinderFrame_judged (s : State) : (cylinderFrame s).judged := by
  have k : ∀ f, ({ rejudgeSources s with wen := { (rejudgeSources s).wen with frameForce := f } } : State).judged :=
    fun f => rejudgeSources_judged s
  unfold cylinderFrame
  dsimp only
  split
  · exact (works_noCylinderSample .refl).judged (k _)
  · refine (works_captureCylinder .refl).judged ?_
    split
    · exact (works_takeCylinderSample .refl).judged (k _)
    · exact (works_noCylinderSample .refl).judged (k _)

theorem tasks_judged {m : Bool} (l : List FrameTask) (s : State) (h : FrameTask.cylinder ∈ l ∨ s.judged) :
    (l.foldl (fun u x => performTask m x u) s).judged := by
  induction l generalizing s with
  | nil => exact h.resolve_left (by simp)
  | cons x l ih =>
    refine ih _ ?_
    rcases h with h | h
    · rcases List.mem_cons.mp h with rfl | h
      · exact .inr (cylinderFrame_judged s)
      · exact .inl h
    · exact .inr ((works_performTask .refl).judged h)

theorem cylinder_mem_orderedTasks (o : FrameOrder) : FrameTask.cylinder ∈ orderedTasks o := by
  obtain ⟨g, m, e⟩ := o
  revert g m e
  decide

theorem acts_takeFrame (codes : PerChannel RawCode) (levels : PerLine Level) (o : FrameOrder) (s : State) :
    Acts s (takeFrame codes levels o s) := by
  have h1 : Works (sampleInputs codes levels s)
      (handSwitch (Line.list.foldl (fun u l => noteEdge s.iau.lines l u)
        (setSensorFaults codes (sampleInputs codes levels s)))) :=
    ((works_setSensorFaults _ _).trans (works_foldl _ (fun u l => works_noteEdge _ l u) _ _)).mild (mild_handSwitch _)
  generalize hb : handSwitch (Line.list.foldl (fun u l => noteEdge s.iau.lines l u)
    (setSensorFaults codes (sampleInputs codes levels s))) = b at h1
  have h2 : Works { b with geo := b.geo.update b.iau.channels } (takeFrame codes levels o s) := by
    have hg : Works { b with geo := b.geo.update b.iau.channels } (updateGeometry b) :=
      works_setLive (d := .geometryInvalid) trivial .refl
    rw [← hb] at hg ⊢
    exact works_tasks _ hg
  refine ⟨.works (.change (.works (.change .refl (.inputs _)) h1) (.geometry _)) h2,
    fun _ => tasks_judged _ _ (.inl (cylinder_mem_orderedTasks o)), fun h => h2.capturing ?_,
    fun h => h2.payloadCondition ?_⟩
  · exact h1.capturing h
  · exact h1.payloadCondition h

/-! ## Inputs and geometry set (R9, R15, R16, R53, R54) -/

theorem mild_takeChannel (c : Channel) (x : ChannelSettings) (s : State) : Mild s (takeChannel c x s) :=
  .of_iau s _ fun d => by
    dsimp only
    rw [PerChannel.get_set]
    split
    · rename_i h
      rw [h]
    · rfl

theorem mild_takeLine (l : Line) (x : LineSettings) (s : State) : Mild s (takeLine l x s) := by
  have h : Mild s { s with iau := { s.iau with
      lines := s.iau.lines.set l ((s.iau.lines.get l).reset l x) } } := .of_iau s _ fun _ => rfl
  exact h.trans (mild_handSwitch _)

theorem mild_takeLevels (m l : Nat) (s : State) : Mild s (takeLevels m l s) := .of_iau s _ fun _ => rfl

/-! ## Weighing set, and captures begun (R74 to R82) -/

theorem mild_takeWeigh (x : WeighSettings) (s : State) : Mild s (takeWeigh x s) := by
  refine .of_wen_lift s _ ⟨rfl, rfl, fun _ => ?_, fun _ => id, .inr (.inl rfl)⟩ rfl rfl
  have := clamp_mem (-(x.tracking : Int)) x.tracking s.wen.zeroOffset (by omega)
  show (clamp (-(x.tracking : Int)) x.tracking s.wen.zeroOffset).natAbs ≤ x.tracking
  omega

theorem works_recordChange {n : CalName} {x y : Int} (h : Works s t) : Works s (recordChange n x y t) := by
  unfold recordChange
  split
  · exact h
  · exact works_record h

theorem works_takeCalibration (f : CalibrationFields) (s : State) : Works s (takeCalibration f s) := by
  refine works_recordChange (works_recordChange (works_recordChange (works_recordChange (works_recordChange ?_))))
  exact Mild.works (.of_wen_lift s _ (.of_eq rfl rfl rfl rfl rfl rfl (.inr rfl)) rfl rfl)

/-- A capture in flight with an empty window, where its conditions hold (R74 to R79). -/
theorem acts_startCapture (k : CaptureKind) (b : Option (Fin 8)) (m : Nat) (s : State)
    (hi : k = .zero ∨ k = .cylEmpty → s.ltr.state = .idle) (hg : k = .span ∨ k = .cylLoad → s.ltr.state ≠ .idle)
    (ht : k = .zero ∨ k = .span → tipReadable s = true) (hb : k = .cylEmpty ∨ k = .cylLoad → b.isSome) :
    Acts s (startCapture k b m s) := by
  refine ⟨.change .refl (.capture _), id, fun _ c hc => ?_, id⟩
  obtain rfl : (⟨k, b, m, 0, 0⟩ : Capture) = c := Option.some.inj hc
  exact ⟨Nat.zero_lt_succ 31, hi, hg, ht, hb⟩

/-! ## The clock (R130, R132) -/

theorem tick_isSome (t : Timer) : t.tick.isSome = t.isSome := by cases t <;> rfl

theorem SectionState.beginGroup_safe {x : SectionState} (h : x.safe) : x.beginGroup.safe := by
  obtain ⟨hl, ht, ho, hs, hd, -, ha, hb, hx⟩ := h
  refine ⟨hl, ht, ho, hs, hd, hd, ha, hb, fun he => ?_⟩
  obtain ⟨h1, h2, h3, h4, -, h6⟩ := hx he
  exact ⟨h1, h2, h3, h4, h4, h6⟩

theorem vdr_passMillisecond_like (d : Vdr) : d.Like d.passMillisecond := by
  rcases vdrMillisecond_cases d with ⟨n, -, -, h⟩ | ⟨-, h⟩
  · rw [h]
    refine ⟨fun v hv => ?_, fun v => ?_, rfl, tick_isSome _⟩
    · dsimp only
      rw [PerSection.get_map]
      exact SectionState.beginGroup_safe hv
    · dsimp only
      rw [PerSection.get_map]
      rfl
  · rw [h]
    exact ⟨fun _ => id, fun _ => rfl, rfl, tick_isSome _⟩

theorem mild_passMillisecond (s : State) : Mild s (passMillisecond s) where
  powered := rfl
  pending := rfl
  status _ := rfl
  valid := rfl
  link := rfl
  orderly := (mild_tlc s (passMillisecond s).tlc rfl rfl rfl (tick_isSome _) (tick_isSome _) (tick_isSome _)
    (tick_isSome _) (tick_isSome _)).orderly
  wen := .of_eq rfl rfl rfl rfl rfl rfl (.inr rfl)
  windowed := id
  state := rfl
  consistent := id
  bounded := id
  labelled := id
  total := rfl
  numbered := id
  stage := rfl
  vdr := vdr_passMillisecond_like _
  working := rfl
  freeze := rfl
  clp := ⟨id, id, [], by simp [passMillisecond]⟩
  live _ _ := rfl

theorem mild_takeClock (n : BitVec 32) (s : State) : Mild s (takeClock n s) := by
  have h : Mild s (shiftRunningStamps (clockStep n s.log.clock) s) := { Mild.refl s with
    status := fun _ => rfl
    consistent := fun h => by
      unfold Ltr.consistent at h ⊢
      simpa [shiftRunningStamps, Option.isSome_map] using h }
  exact h.trans (.of_log _ { s.log with clock := ⟨n, 0⟩ } id)

/-! ## LOG's requests (R141 to R143) -/

theorem Log.drop_numbered (l : Log) (n : Nat) (h : l.numbered) : ({ l with ring := l.ring.drop n } : Log).numbered := by
  obtain ⟨hlen, hseq⟩ := h
  refine ⟨by simp; omega, fun i hi => ?_⟩
  simp only [List.length_drop] at hi ⊢
  rw [List.getElem_drop, ← hseq (n + i) (by omega)]
  congr 2
  omega

/-! ## The profile (R187 to R189) -/

/-- An unchanged tally's PAYLOAD judged (R122). -/
theorem works_judgePayload (h : Works s t) : Works s (judgePayload t) := .count t.tal id id h (.refl _)

theorem works_handProfile (h : Works s t) : Works s (handProfile t) :=
  (works_judgePayload (works_rejudgeSources h.evaluation)).mild (mild_clampSections _)

theorem acts_changeProfile (p : Profile) (s : State)
    (hp : s.sto.working.withinFactory = true → p.withinFactory = true) (hf : s.sto.freeze = .opened) :
    Acts s (changeProfile p s) := by
  have hw : Works { s with sto := { s.sto with working := p } } (changeProfile p s) := works_handProfile .refl
  exact ⟨.works (.change .refl (.profile p hp hf)) hw, fun _ => handProfile_source _, fun h => hw.capturing h,
    fun _ => handProfile_condition _⟩

theorem Profile.withinFactory_iff (p : Profile) : p.withinFactory = true
    ↔ p.mBase ≤ 11000 ∧ p.tilt ≤ 250 ∧ p.payload ≤ 16000 ∧ ∀ v, p.caps.get v ≤ 2000 := by
  have hv : (∀ v, p.caps.get v ≤ 2000)
      ↔ (p.caps.map fun v c => decide (c ≤ Profile.factory.caps.get v)).toList.all (·) = true := by
    simp only [PerSection.map, PerSection.toList, List.all_cons, List.all_nil, Bool.and_eq_true, decide_eq_true_eq]
    refine ⟨fun h => ⟨h .slew, h .boom, h .jib, h .tele, h .rotate, h .grapple, trivial⟩, ?_⟩
    rintro ⟨h1, h2, h3, h4, h5, h6, -⟩ v
    cases v <;> assumption
  rw [hv]
  simp only [Profile.withinFactory, Bool.and_eq_true, decide_eq_true_eq, and_assoc]
  rfl

theorem takeField_le {n : Bool} {factory old new : Nat} (h : old ≤ factory) : takeField n factory old new ≤ factory := by
  unfold takeField
  split
  · simp_all
  · exact h

theorem profileAfterSet_withinFactory (mask : Nat) (f : ProfileFields) {p : Profile} (h : p.withinFactory = true) :
    (profileAfterSet mask f p).withinFactory = true := by
  rw [Profile.withinFactory_iff] at h ⊢
  obtain ⟨hb, ht, hp, hc⟩ := h
  refine ⟨takeField_le hb, takeField_le ht, takeField_le hp, fun v => ?_⟩
  unfold profileAfterSet
  dsimp only
  rw [PerSection.get_map, show Profile.factory.caps.get v = 2000 from PerSection.get_all 2000 v]
  exact takeField_le (hc v)

theorem mild_beginWrite (w : StoreWrite) (s : State) : Mild s (beginWrite w s) := .of_sto s _ rfl rfl

theorem acts_freezeProfile (s : State) : Acts s (freezeProfile s) :=
  Acts.trans ⟨.change .refl .freeze, id, id, id⟩ (.of_mild (mild_beginWrite _ _))

theorem acts_finishPart (s : State) : Acts s (finishPart s) := by
  unfold finishPart
  split
  · exact .refl s
  · rename_i w _
    have h : ∀ x : Option StoreWrite, Acts s { s with sto := { w.apply s.sto with write := x } } := fun x =>
      .of_mild (.of_sto s _ (by unfold StoreWrite.apply; split <;> rfl) (by unfold StoreWrite.apply; split <;> rfl))
    dsimp only
    split
    · exact (h _).trans (.of_mild (mild_notify (n := .storeDone _) rfl _))
    · exact h _

/-! ## CLP's requests (R198 to R200) -/

theorem Clp.clearLatches_grows (c : Clp) (m : BitVec 30) : c.Grows (c.clearLatches m) := by
  refine ⟨fun h i hi => ?_, id, [], by simp [Clp.clearLatches]⟩
  have hl := h i hi
  have hi' : c.live.getLsbD i = true := hi
  have hlt : i < 30 := by
    by_contra hn
    rw [BitVec.getLsbD_of_ge _ _ (by omega)] at hi'
    cases hi'
  show (c.latched &&& (~~~m ||| c.live)).getLsbD i = true
  simp [hl, hi']

/-- CLP's fields that no promise is about. -/
theorem mild_clp (s : State) (c : Clp) (hl : c.live = s.clp.live) (ht : c.latched = s.clp.latched)
    (hq : c.queue = s.clp.queue) (hn : s.clp.lost ≤ 255 → c.lost ≤ 255) : Mild s { s with clp := c } :=
  .of_clp s c ⟨by unfold Clp.covered; rw [hl, ht]; exact id, fun h => ⟨hq ▸ h.1, hn h.2⟩, [], by simp [hq]⟩
    fun _ _ => by simp [Clp.isLive, hl]

theorem acts_clearConditions (m : BitVec 30) (s : State) : Acts s (clearConditions m s) :=
  (acts_reenableSections s).trans (.of_mild (.of_clp _ _ (Clp.clearLatches_grows _ m) fun _ _ => rfl))

end Sys2Proof.Machine
end

section
/-! PROOF. The dispatch as acts: every request, every byte of the cab line, and every other command that is no reset, no
loss of supply, and takes no frame off the queue. -/

namespace Sys2Proof.Machine

variable {s t u : State} {k : Byte}

/-! ## Requests answered -/

/-- A request that is answered, or lost, or not dispatched: the queue grows, and its effect follows. -/
theorem acts_answer {x : Status} {d : List Byte} {e : State → State}
    (he : ∀ q : List TxFrame, Acts { s with clp := { s.clp with queue := q } }
      (e { s with clp := { s.clp with queue := q } })) : Acts s (answer k x d e s) := by
  rcases answer_cases k x d e s with ⟨-, h⟩ | ⟨-, -, h⟩ | ⟨-, hq, h⟩ <;> rw [h]
  · exact .refl s
  · exact .of_mild (.of_clp s _ (.lose _) fun _ _ => rfl)
  · have hm : Mild s (s.replied k x d) := .of_clp s _ (.enqueue _ hq) fun _ _ => rfl
    exact (Acts.of_mild hm).trans (he _)

theorem acts_refuse (k : Byte) (x : Status) (s : State) : Acts s (refuse k x s) := acts_answer fun _ => .refl _

/-- A command performs: it gives a next state, by acts. -/
def Performs (o : Host.Outcome State Fault Refusal) (s : State) : Prop := ∃ t, o = .next t ∧ Acts s t

theorem Performs.next (h : Acts s t) : Performs (.next t) s := ⟨t, rfl, h⟩

/-! ## One answer, whatever frames wait (R195) -/

/-- The module with other frames in the transmit queue. -/
def State.queued (s : State) (q : List TxFrame) : State := { s with clp := { s.clp with queue := q } }

/-- What a request leaves, by the frames that wait before it: one answer of a status and data that do not depend on
them, and an effect by acts. -/
def Asks (k : Byte) (s : State) (g : List TxFrame → State) : Prop :=
  ∃ x d, ∀ q, ∃ e, g q = answer k x d e (s.queued q) ∧ ∀ r, Acts (s.queued r) (e (s.queued r))

theorem asks_answer {x : Status} {d : List TxFrame → List Byte} {e : List TxFrame → State → State}
    (hd : ∀ q, d q = d []) (he : ∀ q r, Acts (s.queued r) (e q (s.queued r))) :
    Asks k s fun q => answer k x (d q) (e q) (s.queued q) :=
  ⟨x, d [], fun q => ⟨e q, by dsimp only; rw [hd], he q⟩⟩

/-- A request whose effect is one of its acts, and whose reply carries no data of its own. -/
theorem asks_act {x : Status} {d : List Byte} {e : List TxFrame → State → State}
    (he : ∀ q r, Acts (s.queued r) (e q (s.queued r))) : Asks k s fun q => answer k x d (e q) (s.queued q) :=
  asks_answer (fun _ => rfl) he

theorem asks_read {x : Status} {d : List TxFrame → List Byte} (hd : ∀ q, d q = d []) :
    Asks k s fun q => answer k x (d q) id (s.queued q) := asks_answer hd fun _ _ => .refl _

theorem asks_refuse {x : Status} : Asks k s fun q => refuse k x (s.queued q) := asks_act fun _ _ => .refl _

theorem asks_ite (c : Prop) [Decidable c] {a b : List TxFrame → State} (ha : c → Asks k s a) (hb : ¬c → Asks k s b) :
    Asks k s fun q => if c then a q else b q := by
  by_cases h : c
  · simpa only [if_pos h] using ha h
  · simpa only [if_neg h] using hb h

theorem asks_dite (c : Prop) [Decidable c] {a : List TxFrame → c → State} {b : List TxFrame → ¬c → State}
    (ha : ∀ h, Asks k s fun q => a q h) (hb : ∀ h, Asks k s fun q => b q h) :
    Asks k s fun q => if h : c then a q h else b q h := by
  by_cases h : c
  · simpa only [dif_pos h] using ha h
  · simpa only [dif_neg h] using hb h

/-- The meaning of a request is one answer. -/
def Requests (k : Byte) (o : State → Host.Outcome State Fault Refusal) (s : State) : Prop :=
  ∃ g, (∀ q, o (s.queued q) = .next (g q)) ∧ Asks k s g

theorem Requests.performs {o : State → Host.Outcome State Fault Refusal} (h : Requests k o s) : Performs (o s) s := by
  obtain ⟨g, hg, x, d, ha⟩ := h
  obtain ⟨e, he, hacts⟩ := ha s.clp.queue
  exact ⟨_, hg s.clp.queue, he ▸ acts_answer hacts⟩

/-! ## IAU, TLC and GEO -/

theorem requests_setChannel (i : Nat) (x : ChannelSettings) (s : State) : Requests 0x01 (execSetChannel i x) s := by
  refine ⟨_, fun _ => rfl, ?_⟩
  cases Channel.ofCode i with
  | none => exact asks_refuse
  | some c => exact asks_ite _ (fun _ => asks_act fun _ _ => .of_mild (mild_takeChannel _ _ _)) fun _ => asks_refuse

theorem requests_readChannel (i : Nat) (s : State) : Requests 0x02 (execReadChannel i) s := by
  refine ⟨_, fun _ => rfl, ?_⟩
  cases Channel.ofCode i with
  | none => exact asks_refuse
  | some c => exact asks_read fun _ => rfl

theorem requests_setLine (l m e : Nat) (s : State) : Requests 0x03 (execSetLine l m e) s := by
  refine ⟨_, fun _ => rfl, ?_⟩
  rcases Line.ofCode l with _ | l <;> rcases LineMode.ofCode m with _ | m <;> rcases Edge.ofCode e with _ | e
  case some.some.some => exact asks_act fun _ _ => .of_mild (mild_takeLine _ _ _)
  all_goals exact asks_refuse

theorem requests_writeLines (m l : Nat) (s : State) : Requests 0x04 (execWriteLines m l) s :=
  ⟨_, fun _ => rfl, asks_ite _ (fun _ => asks_act fun _ _ => .of_mild (mild_takeLevels m l _)) fun _ => asks_refuse⟩

theorem requests_setTipLink (e r : Nat) (s : State) : Requests 0x08 (execSetTipLink e r) s := by
  refine ⟨_, fun _ => rfl, ?_⟩
  rcases ErrorMode.ofCode e with _ | e <;> rcases StuckRule.ofCode r with _ | r
  case some.some => exact asks_act fun _ _ => acts_takeTipLink _ _
  all_goals exact asks_refuse

theorem requests_reportTipErrors (s : State) : Requests 0x0B execReportTipErrors s := by
  refine ⟨fun q => match s.tlc.settings.errorMode with
    | .auto => refuse 0x0B .state (s.queued q)
    | .manual => answer 0x0B .ok (u16 s.tlc.errorCounter) transferErrors (s.queued q), fun _ => rfl, ?_⟩
  cases s.tlc.settings.errorMode with
  | auto => exact asks_refuse
  | manual => exact asks_act fun _ _ => .of_works (works_transferErrors _)

theorem requests_setGeometry (x : GeometrySettings) (s : State) : Requests 0x10 (execSetGeometry x) s :=
  ⟨_, fun _ => rfl, asks_ite _ (fun _ => asks_act fun _ _ => .of_mild (.of_geo _ _ rfl)) fun _ => asks_refuse⟩

theorem requests_setZones (x : ZoneSettings) (s : State) : Requests 0x11 (execSetZones x) s :=
  ⟨_, fun _ => rfl, asks_ite _ (fun _ => asks_act fun _ _ => .of_mild (.of_geo _ _ rfl)) fun _ => asks_refuse⟩

/-! ## WEN and LTR -/

theorem requests_setWeigh (f : WeighFields) (s : State) : Requests 0x18 (execSetWeigh f) s := by
  refine ⟨_, fun _ => rfl, ?_⟩
  cases weighOfFields f with
  | none => exact asks_refuse
  | some x => exact asks_act fun _ _ => .of_mild (mild_takeWeigh _ _)

theorem requests_setCalibration (f : CalibrationFields) (s : State) : Requests 0x19 (execSetCalibration f) s :=
  ⟨_, fun _ => rfl, asks_ite _ (fun _ => asks_ite (s.wen.capture.isSome = true) (fun _ => asks_refuse) fun _ =>
    asks_act fun _ _ => .of_works (works_takeCalibration _ _)) fun _ => asks_refuse⟩

/-- A capture in the state it needs (R74 to R79). -/
theorem asks_capture {c : CaptureKind} {b : Option (Fin 8)} {m : Nat} {x : Status}
    (h1 : c = .zero ∨ c = .cylEmpty → s.ltr.state = .idle) (h2 : c = .span ∨ c = .cylLoad → s.ltr.state ≠ .idle)
    (h3 : c = .zero ∨ c = .span → tipReadable s = true) (h4 : c = .cylEmpty ∨ c = .cylLoad → b.isSome = true) :
    Asks k s fun q => answer k x [] (startCapture c b m) (s.queued q) :=
  asks_act fun _ _ => acts_startCapture _ _ _ _ h1 h2 h3 h4

theorem requests_calZero (s : State) : Requests 0x1B execCalZero s :=
  ⟨_, fun _ => rfl, asks_ite (s.wen.capture.isSome = true) (fun _ => asks_refuse) fun _ =>
    asks_ite ((s.ltr.state == .idle && tipReadable s) = true)
      (fun h => by
        simp only [Bool.and_eq_true, beq_iff_eq] at h
        exact asks_capture (fun _ => h.1) nofun (fun _ => h.2) nofun)
      fun _ => asks_refuse⟩

theorem massInGrapple_ne_idle (h : massInGrapple s = true) : s.ltr.state ≠ .idle := by
  intro hi
  simp [massInGrapple, hi] at h

theorem requests_calSpan (m : Nat) (s : State) : Requests 0x1C (execCalSpan m) s :=
  ⟨_, fun _ => rfl, asks_ite _ (fun _ => asks_ite (s.wen.capture.isSome = true) (fun _ => asks_refuse) fun _ =>
    asks_ite ((massInGrapple s && tipReadable s && s.wen.calibration.zeroValid) = true)
      (fun h => by
        simp only [Bool.and_eq_true] at h
        exact asks_capture nofun (fun _ => massInGrapple_ne_idle h.1.1) (fun _ => h.1.2) nofun)
      fun _ => asks_refuse) fun _ => asks_refuse⟩

theorem requests_calCylEmpty (s : State) : Requests 0x1D execCalCylEmpty s := by
  refine ⟨_, fun _ => rfl, asks_ite (s.wen.capture.isSome = true) (fun _ => asks_refuse) fun _ => ?_⟩
  show Asks _ s fun q => match s.wen.frameForce with
    | none => refuse 0x1D .state (s.queued q)
    | some f => _
  cases s.wen.frameForce with
  | none => exact asks_refuse
  | some f =>
    refine asks_ite ((s.ltr.state == .idle && boomStill s && cylinderReadable s) = true) (fun h => ?_)
      fun _ => asks_refuse
    simp only [Bool.and_eq_true, beq_iff_eq] at h
    exact asks_capture (fun _ => h.1.1) nofun nofun fun _ => rfl

theorem acts_startCylLoad (b : Fin 8) (m : Nat) (s : State) (h : s.ltr.state ≠ .idle) :
    Acts s (startCylLoad b m s) := by
  have hc : Acts s (startCapture .cylLoad (some b) m s) :=
    acts_startCapture _ _ _ _ nofun (fun _ => h) nofun fun _ => rfl
  unfold startCylLoad
  dsimp only
  split
  · exact hc
  · exact hc.trans (.of_works (works_failCapture .refl))

theorem requests_calCylLoad (m : Nat) (s : State) : Requests 0x1E (execCalCylLoad m) s := by
  refine ⟨_, fun _ => rfl, asks_ite _ (fun _ => asks_ite (s.wen.capture.isSome = true) (fun _ => asks_refuse)
    fun _ => ?_) fun _ => asks_refuse⟩
  show Asks _ s fun q => match s.wen.frameForce with
    | none => refuse 0x1E .state (s.queued q)
    | some f => _
  cases s.wen.frameForce with
  | none => exact asks_refuse
  | some f =>
    refine asks_ite ((massInGrapple s && cylinderReadable s) = true) (fun h => ?_) fun _ => asks_refuse
    simp only [Bool.and_eq_true] at h
    exact asks_act fun _ _ => acts_startCylLoad _ _ _ (massInGrapple_ne_idle h.1)

theorem requests_calAbort (s : State) : Requests 0x1F execCalAbort s :=
  ⟨_, fun _ => rfl, asks_ite (s.wen.capture.isSome = true)
    (fun _ => asks_act fun _ _ => .of_works (works_failCapture .refl)) fun _ => asks_refuse⟩

theorem requests_setLift (x : LiftSettings) (s : State) : Requests 0x20 (execSetLift x) s :=
  ⟨_, fun _ => rfl, asks_ite _ (fun _ => asks_act fun _ _ => .of_mild (.of_ltr _ _ rfl id)) fun _ => asks_refuse⟩

/-! ## TAL and LOG -/

theorem requests_selectAssortment (i : Nat) (s : State) : Requests 0x28 (execSelectAssortment i) s :=
  ⟨_, fun _ => rfl, asks_dite (i < 16) (fun h => asks_ite (s.tal.defined ⟨i, h⟩ = true)
    (fun hd => asks_act fun _ _ => .of_mild (.of_tal _ _ id (fun k => ⟨k.1, k.2.1, hd⟩) rfl)) fun _ => asks_refuse)
    fun _ => asks_refuse⟩

/-- A label of an entry past 0 keeps the labels and the selection (R108 to R110). -/
theorem Tal.takeLabel_labelled {x : Tal} {i : Fin 16} {l : Label} (hl : l.length ≤ 8) (hp : Label.printable l = true)
    (hi : i ≠ 0) (h : x.labelled) : ({ x with
      labels := x.labels.set i l
      selected := if l.isEmpty && x.selected == i then 0 else x.selected } : Tal).labelled := by
  obtain ⟨h0, ha, hs⟩ := h
  have hi' : (i : Nat) ≠ 0 := fun h => hi (Fin.ext h)
  have get : ∀ j : Fin 16, (x.labels.set i l)[j] = if i = j then l else x.labels[j] := fun j => by
    simp [Fin.getElem_fin, Vector.getElem_set, Fin.ext_iff]
  refine ⟨?_, fun j => ?_, ?_⟩
  · simpa [Vector.getElem_set, hi'] using h0
  · dsimp only
    rw [get]
    split
    · simp [Label.accepted, hl, hp]
    · exact ha j
  · unfold Tal.defined
    dsimp only
    split
    · rw [get, if_neg hi, show x.labels[(0 : Fin 16)] = Label.unsorted from h0]
      rfl
    · rename_i hx
      rw [get]
      split
      · rename_i hxi
        simpa [hxi] using hx
      · exact hs

theorem requests_defineAssortment (i : Nat) (l : List Byte) (s : State) :
    Requests 0x29 (execDefineAssortment i l) s := by
  refine ⟨_, fun _ => rfl, asks_ite _ (fun _ => asks_refuse) fun hl => asks_dite (i < 16) (fun hi =>
    asks_ite _ (fun _ => asks_refuse) fun h0 => asks_ite _ (fun _ => asks_refuse) fun hp =>
    asks_ite ((l.isEmpty && s.tal.hasFigures ⟨i, hi⟩) = true) (fun _ => asks_refuse) fun _ =>
    asks_act fun _ _ => .of_mild (.of_tal _ _ id (fun h => ?_) rfl)) fun _ => asks_refuse⟩
  exact Tal.takeLabel_labelled (by omega) (by simpa using hp) (fun h => h0 (congrArg Fin.val h)) h

theorem mild_takeTarget (x : Target) (s : State) : Mild s (takeTarget x s) := by
  refine .of_tal _ _ (fun h => ?_) id ?_
  · obtain ⟨hl, hh⟩ := h
    refine ⟨fun l hx => ?_, hh⟩
    obtain ⟨l', hl', rfl⟩ := Option.map_eq_some_iff.mp hx
    exact hl l' hl'
  · unfold Tal.total
    dsimp only
    cases s.tal.load <;> rfl

theorem requests_setTarget (f : TargetFields) (s : State) : Requests 0x2C (execSetTarget f) s := by
  refine ⟨_, fun _ => rfl, ?_⟩
  cases targetOfFields f with
  | none => exact asks_refuse
  | some x =>
    exact asks_ite ((x.assortmentOn && !s.tal.defined x.index) = true) (fun _ => asks_refuse) fun _ =>
      asks_act fun _ _ => .of_mild (mild_takeTarget x _)

theorem requests_closeLoad (s : State) : Requests 0x2D execCloseLoad s := by
  refine ⟨fun q => match s.tal.load with
    | none => refuse 0x2D .state (s.queued q)
    | some l => answer 0x2D .ok (u16 l.number ++ u32 l.total) (closeLoad .command) (s.queued q), fun _ => rfl, ?_⟩
  cases s.tal.load with
  | none => exact asks_refuse
  | some l => exact asks_act fun _ _ => .of_works (works_closeLoad .refl)

theorem requests_readAssortment (i : Nat) (s : State) : Requests 0x2F (execReadAssortment i) s :=
  ⟨_, fun _ => rfl, asks_dite (i < 16) (fun _ => asks_read fun _ => rfl) fun _ => asks_refuse⟩

theorem requests_readLoadHistory (p o : Nat) (s : State) : Requests 0x30 (execReadLoadHistory p o) s := by
  refine ⟨_, fun _ => rfl, asks_ite _ (fun _ => ?_) fun _ => asks_refuse⟩
  show Asks _ s fun q => match s.tal.history[p]? with
    | none => refuse 0x30 .state (s.queued q)
    | some x => _
  cases s.tal.history[p]? with
  | none => exact asks_refuse
  | some x => exact asks_read fun _ => rfl

theorem requests_setLog (f : EnableFields) (s : State) : Requests 0x3B (execSetLog f) s := by
  refine ⟨_, fun _ => rfl, ?_⟩
  cases enablesOfFields f with
  | none => exact asks_refuse
  | some e => exact asks_act fun _ _ => .of_mild (.of_log _ _ id)

theorem requests_readLog (n : Nat) (s : State) : Requests 0x3C (execReadLog n) s :=
  ⟨_, fun _ => rfl, asks_ite _ (fun _ => asks_answer (fun _ => rfl) fun _ _ =>
    .of_mild (.of_log _ _ (Log.drop_numbered _ n))) fun _ => asks_refuse⟩

/-! ## MLM and VDR -/

theorem takeHorn_stage (m : Mlm) (x : HornSettings) : (m.takeHorn x).stage = m.stage := by
  unfold Mlm.takeHorn
  split <;> rfl

theorem requests_setLimiter (x : LimiterSettings) (s : State) : Requests 0x40 (execSetLimiter x) s :=
  ⟨_, fun _ => rfl, asks_ite _ (fun _ => asks_act fun _ _ =>
    .of_works (.evaluation (.mild .refl (.of_mlm _ _ rfl)))) fun _ => asks_refuse⟩

theorem requests_setHorn (x : HornSettings) (s : State) : Requests 0x41 (execSetHorn x) s :=
  ⟨_, fun _ => rfl, asks_ite _ (fun _ => asks_act fun _ _ => .of_mild (.of_mlm _ _ (takeHorn_stage _ x)))
    fun _ => asks_refuse⟩

/-- A LEVER record of another length than six demands (R166). -/
theorem requests_lever {d : List Int} (h : d.length ≠ 6) (s : State) : Requests 0x48 (execLever d) s := by
  refine ⟨_, fun _ => rfl, ?_⟩
  rw [demandsOf_none h]
  exact asks_refuse

theorem performs_lever (d : List Int) (s : State) : Performs (execLever d s) s := by
  refine .next ?_
  split
  · exact acts_refuse _ _ s
  · split
    · exact acts_takeLever _ s
    · exact .refl s

theorem requests_setSection (v : Nat) (x : SectionSettings) (s : State) : Requests 0x49 (execSetSection v x) s := by
  refine ⟨_, fun _ => rfl, ?_⟩
  cases Section.choice v with
  | none => exact asks_refuse
  | some l =>
    exact asks_ite ((l.all fun v => x.accepted (s.sto.working.caps.get v)) = true)
      (fun _ => asks_act fun _ _ => .of_mild (mild_takeSection _ _ _)) fun _ => asks_refuse

theorem requests_readSection (v : Nat) (s : State) : Requests 0x4A (execReadSection v) s := by
  refine ⟨_, fun _ => rfl, ?_⟩
  cases Section.ofCode v with
  | none => exact asks_refuse
  | some v => exact asks_read fun _ => rfl

/-! ## STO and CLP -/

theorem not_frozen {f : FreezeState} (h : ¬f = .frozen) : f = .opened := by
  cases f with
  | opened => rfl
  | frozen => exact absurd rfl h

theorem requests_saveSettings (s : State) : Requests 0x50 execSaveSettings s :=
  ⟨_, fun _ => rfl, asks_ite (s.sto.write.isSome = true) (fun _ => asks_refuse) fun _ =>
    asks_act fun _ _ => .of_mild (mild_beginWrite _ _)⟩

theorem requests_profileSet (m : Nat) (f : ProfileFields) (s : State) : Requests 0x51 (execProfileSet m f) s :=
  ⟨_, fun _ => rfl, asks_ite _ (fun _ => asks_ite (s.sto.freeze = .frozen) (fun _ => asks_refuse) fun hf =>
    asks_ite (s.sto.write.isSome = true) (fun _ => asks_refuse) fun _ => asks_act fun _ _ =>
    Acts.trans (acts_changeProfile _ _ (profileAfterSet_withinFactory m f) (not_frozen hf))
      (.of_mild (mild_beginWrite _ _))) fun _ => asks_refuse⟩

theorem requests_profileRestore (s : State) : Requests 0x52 execProfileRestore s :=
  ⟨_, fun _ => rfl, asks_ite (s.sto.freeze = .frozen) (fun _ => asks_refuse) fun hf =>
    asks_ite (s.sto.write.isSome = true) (fun _ => asks_refuse) fun _ => asks_act fun _ _ =>
    Acts.trans (acts_changeProfile _ _ (fun _ => rfl) (not_frozen hf)) (.of_mild (mild_beginWrite _ _))⟩

theorem requests_profileFreeze (s : State) : Requests 0x53 execProfileFreeze s :=
  ⟨_, fun _ => rfl, asks_ite (s.sto.freeze = .frozen) (fun _ => asks_refuse) fun _ =>
    asks_ite (s.sto.write.isSome = true) (fun _ => asks_refuse) fun _ => asks_act fun _ _ => acts_freezeProfile _⟩

/-- Two condition tables with the same live states and latches. -/
def Clp.Masks (a b : Clp) : Prop := a.live = b.live ∧ a.latched = b.latched

theorem Clp.Masks.setLive {a b : Clp} (d : Condition) (v : Bool) (h : a.Masks b) : (a.setLive d v).Masks (b.setLive d v) := by
  have masks (c : Clp) : (c.setLive d v).live = (if c.isLive d = v then c else c.putLive d v).live
      ∧ (c.setLive d v).latched = (if c.isLive d = v then c else c.putLive d v).latched := by
    unfold Clp.setLive
    split
    · exact ⟨rfl, rfl⟩
    · dsimp only
      split <;> simp
  obtain ⟨hl, ht⟩ := h
  have hi : a.isLive d = b.isLive d := by
    unfold Clp.isLive
    rw [hl]
  unfold Clp.Masks
  rw [(masks a).1, (masks a).2, (masks b).1, (masks b).2, hi]
  split
  · exact ⟨hl, ht⟩
  · cases v <;> simp [Clp.putLive, hl, ht]

/-- The masks that CLEAR CONDITIONS reports do not depend on the frames waiting. -/
theorem clearConditions_masks (m : BitVec 30) (s : State) (q r : List TxFrame) :
    conditionMasks (clearConditions m (s.queued q)).clp = conditionMasks (clearConditions m (s.queued r)).clp := by
  have fold (p : Section → Bool) : ∀ (l : List Section) (a b : Clp), a.Masks b →
      (l.foldl (fun c v => if p v then c.setLive (.coilFault v) false else c) a).Masks
        (l.foldl (fun c v => if p v then c.setLive (.coilFault v) false else c) b) := by
    intro l
    induction l with
    | nil => exact fun _ _ => id
    | cons v l ih =>
      intro a b h
      refine ih _ _ ?_
      dsimp only
      split
      · exact h.setLive _ _
      · exact h
  obtain ⟨hl, ht⟩ := fold (fun v => (s.vdr.sections.get v).isDisabled) Section.list (s.queued q).clp (s.queued r).clp
    ⟨rfl, rfl⟩
  have hl' : (reenableSections (s.queued q)).clp.live = (reenableSections (s.queued r)).clp.live := hl
  have ht' : (reenableSections (s.queued q)).clp.latched = (reenableSections (s.queued r)).clp.latched := ht
  unfold conditionMasks clearConditions Clp.clearLatches
  dsimp only
  rw [hl', ht']

theorem requests_clearConditions (m : BitVec 32) (s : State) : Requests 0x58 (execClearConditions m) s :=
  ⟨_, fun _ => rfl, asks_ite _ (fun _ => asks_answer (fun q => clearConditions_masks _ s q []) fun _ _ =>
    acts_clearConditions _ _) fun _ => asks_refuse⟩

theorem requests_readConditions (s : State) : Requests 0x59 execReadConditions s :=
  ⟨_, fun _ => rfl, asks_answer (fun _ => rfl) fun _ _ => .of_mild (mild_clp _ _ rfl rfl rfl fun _ => Nat.zero_le _)⟩

theorem requests_setCabLine (p : Nat) (m : List Nat) (s : State) : Requests 0x5A (execSetCabLine p m) s := by
  refine ⟨_, fun _ => rfl, asks_ite _ (fun _ => asks_refuse) fun _ => ?_⟩
  cases cabOfFields p m with
  | none => exact asks_refuse
  | some x => exact asks_act fun _ _ => .of_mild (mild_clp _ _ rfl rfl rfl id)

theorem requests_restart (s : State) : Requests 0x5B execRestart s :=
  ⟨_, fun _ => rfl, asks_ite (s.sto.write.isSome = true) (fun _ => asks_refuse) fun _ =>
    asks_act fun _ _ => .of_mild (mild_clp _ _ rfl rfl rfl id)⟩

/-! ## Every request -/

/-- Every request but a LEVER record of six demands has one answer, under its own KIND. -/
theorem requestMeaning_requests {i : Instr} {p : List Byte} (hi : encodeRequest i = some (k, p))
    (hl : ∀ d, i = .lever d → d.length ≠ 6) (s : State) : Requests k (requestMeaning i) s := by
  cases i with
  | setChannel i x => cases hi; exact requests_setChannel i x s
  | readChannel i => cases hi; exact requests_readChannel i s
  | setLine l m e => cases hi; exact requests_setLine l m e s
  | writeLines m l => cases hi; exact requests_writeLines m l s
  | setTipLink e r => cases hi; exact requests_setTipLink e r s
  | linkRestart => cases hi; exact ⟨_, fun _ => rfl, asks_act fun _ _ => acts_freshBringUp _⟩
  | reportTipErrors => cases hi; exact requests_reportTipErrors s
  | setGeometry x => cases hi; exact requests_setGeometry x s
  | setZones x => cases hi; exact requests_setZones x s
  | setWeigh f => cases hi; exact requests_setWeigh f s
  | setCalibration f => cases hi; exact requests_setCalibration f s
  | calZero => cases hi; exact requests_calZero s
  | calSpan m => cases hi; exact requests_calSpan m s
  | calCylEmpty => cases hi; exact requests_calCylEmpty s
  | calCylLoad m => cases hi; exact requests_calCylLoad m s
  | calAbort => cases hi; exact requests_calAbort s
  | setLift x => cases hi; exact requests_setLift x s
  | selectAssortment i => cases hi; exact requests_selectAssortment i s
  | defineAssortment i l => cases hi; exact requests_defineAssortment i l s
  | holdTally | releaseTally =>
    cases hi
    exact ⟨_, fun _ => rfl, asks_act fun _ _ => .of_mild (.of_tal _ _ id id rfl)⟩
  | setTarget f => cases hi; exact requests_setTarget f s
  | closeLoad => cases hi; exact requests_closeLoad s
  | readAssortment i => cases hi; exact requests_readAssortment i s
  | readLoadHistory p o => cases hi; exact requests_readLoadHistory p o s
  | setClock n => cases hi; exact ⟨_, fun _ => rfl, asks_act fun _ _ => .of_mild (mild_takeClock n _)⟩
  | mark => cases hi; exact ⟨_, fun _ => rfl, asks_answer (fun _ => rfl) fun _ _ => .of_mild (mild_record _ _)⟩
  | setLog f => cases hi; exact requests_setLog f s
  | readLog n => cases hi; exact requests_readLog n s
  | setLimiter x => cases hi; exact requests_setLimiter x s
  | setHorn x => cases hi; exact requests_setHorn x s
  | lever d => cases hi; exact requests_lever (hl d rfl) s
  | setSection v x => cases hi; exact requests_setSection v x s
  | readSection v => cases hi; exact requests_readSection v s
  | saveSettings => cases hi; exact requests_saveSettings s
  | profileSet m f => cases hi; exact requests_profileSet m f s
  | profileRestore => cases hi; exact requests_profileRestore s
  | profileFreeze => cases hi; exact requests_profileFreeze s
  | clearConditions m => cases hi; exact requests_clearConditions m s
  | readConditions => cases hi; exact requests_readConditions s
  | setCabLine p m => cases hi; exact requests_setCabLine p m s
  | restart => cases hi; exact requests_restart s
  | readLines | readTipLink | readGeometry | readWeigh | readLift | readLoad | readClock | readLogStatus | readLimiter
  | profileIdentify | identify | readStore => cases hi; exact ⟨_, fun _ => rfl, asks_read fun _ => rfl⟩
  | _ => cases hi

theorem requestMeaning_performs (i : Instr) (s : State) : Performs (requestMeaning i s) s := by
  rcases he : encodeRequest i with _ | ⟨k, p⟩
  · cases i with
    | powerOn | restartPerformed | acquisitionFrame | driveUpdate | coilShort | hail | hailReply | probeEcho | dataFrame
    | damagedTipFrame | hailTimerExpiry | probeResend | probeWindowExpiry | goResend | startWindowExpiry
    | lossTimerExpiry | backOffExpiry | noiseIntervalExpiry | reportTimerExpiry | compensationUpdate | leverTimerExpiry
    | liveReportTimerExpiry | hornPatternStep | lampFlashStep | byteGapExpiry | cabFrameDiscarded | storeWritePart
    | unknownKind | cabLineByteReceived | frameTransmitted | lossOfSupply | clockMillisecond | hornHalfPeriod =>
      exact .next (.refl s)
    | _ => cases he
  · by_cases hl : ∃ d, i = .lever d
    · obtain ⟨d, rfl⟩ := hl
      exact performs_lever d s
    · exact (requestMeaning_requests he (fun d h => absurd ⟨d, h⟩ hl) s).performs

/-! ## The bytes of the cab line (R193, R194) -/

theorem acts_dispatchFrame (f : CabRecord) (s : State) : Acts s (dispatchFrame f s) := by
  unfold dispatchFrame
  split
  · exact acts_refuse _ _ s
  · exact acts_refuse _ _ s
  · rename_i i _
    obtain ⟨t, ht, ha⟩ := requestMeaning_performs i s
    rw [ht]
    exact ha

theorem acts_takeReceived (r : Receiver × List CabRecord) (s : State) : Acts s (takeReceived r s) := by
  have fold : ∀ (l : List CabRecord) (t : State), Acts t (l.foldl (fun u f => dispatchFrame f u) t) := by
    intro l
    induction l with
    | nil => exact .refl
    | cons f l ih => exact fun t => (acts_dispatchFrame f t).trans (ih _)
  exact (Acts.of_mild (mild_clp s { s.clp with receiver := r.1 } rfl rfl rfl id)).trans (fold _ _)

theorem acts_receiveByte (b : Byte) (s : State) : Acts s (receiveByte b s) := by
  unfold receiveByte
  split
  · exact acts_takeReceived _ s
  · exact .refl s

theorem acts_discardFrame (s : State) : Acts s (discardFrame s) := by
  unfold discardFrame
  split
  · exact acts_takeReceived _ s
  · exact .refl s

/-! ## Every command but a reset, a loss of supply and the two of the queue -/

theorem performs_powered {f : State → State} (h : Acts s (f s)) : Performs (.next (whenPowered f s)) s := by
  rcases whenPowered_cases f s with ⟨-, e⟩ | ⟨-, e⟩ <;> rw [e]
  · exact .next h
  · exact .next (.refl s)

theorem acts_stepPattern (s : State) : Acts s (stepPattern s) := by
  unfold stepPattern
  split
  · exact .of_mild (.of_mlm s _ rfl)
  · exact .refl s

theorem acts_toggleHorn (s : State) : Acts s (toggleHorn s) := by
  unfold toggleHorn
  split
  · exact .of_mild (.of_mlm s _ rfl)
  · exact .refl s

theorem acts_flashLamp (s : State) : Acts s (flashLamp s) := by
  unfold flashLamp
  split
  · exact .of_mild (.of_mlm s _ rfl)
  · exact .refl s

/-- The commands after which the module is the one before, moved on by acts. -/
def Instr.acts : Instr → Prop
  | .powerOn _ => False
  | .restartPerformed _ => False
  | .lossOfSupply => False
  | .frameTransmitted => False
  | .liveReportTimerExpiry => False
  | _ => True

/-- A request means the same from the cab line and as a command. -/
theorem exec_request (i : Instr) (s : State) (h : (encodeRequest i).isSome = true) :
    exec i s = requestMeaning i s := by
  cases i with
  | powerOn | restartPerformed | acquisitionFrame | driveUpdate | coilShort | hail | hailReply | probeEcho | dataFrame
  | damagedTipFrame | hailTimerExpiry | probeResend | probeWindowExpiry | goResend | startWindowExpiry
  | lossTimerExpiry | backOffExpiry | noiseIntervalExpiry | reportTimerExpiry | compensationUpdate | leverTimerExpiry
  | liveReportTimerExpiry | hornPatternStep | lampFlashStep | byteGapExpiry | cabFrameDiscarded | storeWritePart
  | unknownKind | cabLineByteReceived | frameTransmitted | lossOfSupply | clockMillisecond | hornHalfPeriod => cases h
  | _ => rfl

theorem exec_performs (c : Instr) (s : State) (hc : Instr.acts c) : Performs (exec c s) s := by
  cases c with
  | powerOn | restartPerformed | lossOfSupply | frameTransmitted | liveReportTimerExpiry => exact hc.elim
  | acquisitionFrame codes levels o => exact performs_powered (acts_takeFrame codes levels o s)
  | driveUpdate m => exact performs_powered (acts_updateDrive m s)
  | coilShort v x => exact performs_powered (acts_takeShort v x s)
  | hail => exact performs_powered (acts_freshBringUp s)
  | hailReply => exact performs_powered (acts_takeHailReply s)
  | probeEcho r n => exact performs_powered (acts_takeProbeEcho r n s)
  | dataFrame q f a x y => exact performs_powered (acts_takeData _ _ s)
  | damagedTipFrame => exact performs_powered (acts_takeDamaged s)
  | hailTimerExpiry => exact performs_powered (acts_expireHail s)
  | probeResend => exact performs_powered (acts_resendProbe s)
  | probeWindowExpiry => exact performs_powered (acts_expireProbe s)
  | goResend => exact performs_powered (acts_resendGo s)
  | startWindowExpiry => exact performs_powered (acts_expireStart s)
  | lossTimerExpiry => exact performs_powered (acts_expireLoss s)
  | backOffExpiry => exact performs_powered (acts_expireBackOff s)
  | noiseIntervalExpiry => exact performs_powered (.of_mild (mild_tlc s _ rfl rfl rfl rfl rfl rfl rfl rfl))
  | reportTimerExpiry => exact performs_powered (acts_expireReport s)
  | compensationUpdate =>
    exact performs_powered (.of_mild (.of_wen_lift s _ (.of_eq rfl rfl rfl rfl rfl rfl (.inr rfl)) rfl rfl))
  | leverTimerExpiry => exact performs_powered (acts_expireLever s)
  | hornPatternStep => exact performs_powered (acts_stepPattern s)
  | lampFlashStep => exact performs_powered (acts_flashLamp s)
  | byteGapExpiry => exact performs_powered (.of_mild (mild_clp s _ rfl rfl rfl id))
  | cabFrameDiscarded => exact performs_powered (acts_discardFrame s)
  | storeWritePart => exact performs_powered (acts_finishPart s)
  | unknownKind k => exact .next (acts_refuse k _ s)
  | cabLineByteReceived b => exact performs_powered (acts_receiveByte b s)
  | clockMillisecond => exact performs_powered (.of_mild (mild_passMillisecond s))
  | hornHalfPeriod => exact performs_powered (acts_toggleHorn s)
  | _ =>
    rw [exec_request _ s rfl]
    exact requestMeaning_performs _ s

end Sys2Proof.Machine
end

section
/-! PROOF. The two resets and the loss of supply, and what every step keeps. -/

namespace Sys2Proof.Machine

variable {s t u : State}

/-! ## The start-up (R191) -/

/-- What both resets leave before the start-up: a link not yet begun, no geometry, no source, no capture, and VDR's
lever timer and LEVER_STALE at rest. -/
structure Blank (s : State) : Prop where
  link : s.tlc.link = .hailing
  stuck : s.clp.isLive .tipStuck = false
  valid : s.geo.valid = false
  source : s.wen.source = .none
  capture : s.wen.capture = none
  leverTimer : s.vdr.leverTimer = none
  stale : s.clp.isLive .leverStale = false

/-- A bring-up that finds the link in HAILING and TIP_STUCK not live changes TLC and its two conditions alone. -/
theorem freshBringUp_of_hailing (hl : s.tlc.link = .hailing) (hk : s.clp.isLive .tipStuck = false) :
    freshBringUp s = linked s.tlc.fresh s := by
  have hm : moveLink s.tlc.fresh s = linked s.tlc.fresh s := by
    unfold moveLink handLink
    simp [hl, Tlc.fresh, Tlc.sendHail, linked]
  have hs : (linked s.tlc.fresh s).clp.isLive .tipStuck = false := by
    rw [linked_isLive _ _ (show Condition.tipDown ≠ .tipStuck from nofun)
      (show Condition.tipFailed ≠ .tipStuck from nofun)]
    exact hk
  unfold freshBringUp
  rw [hm]
  unfold setStuck
  rw [if_pos hs]

/-- The module as TLC has been started: HAILING, with no source yet. -/
def tlcStarted (s : State) : State := startTlc (startIau (judgePayload s))

theorem tlcStarted_eq (h : Blank s) : tlcStarted s
    = linked { s.tlc with noiseInterval := some 1000, reportTimer := some 1000 }.fresh
      { startIau (judgePayload s) with
        tlc := { s.tlc with noiseInterval := some 1000, reportTimer := some 1000 } } := by
  unfold tlcStarted startTlc
  refine freshBringUp_of_hailing h.link ?_
  show (judgePayload s).clp.isLive .tipStuck = false
  rw [judgePayload_isLive _ (show Condition.tipStuck ≠ .payload from nofun)]
  exact h.stuck

theorem tlcStarted_moves (h : Blank s) : Moves s (tlcStarted s) := by
  have hw : Works s { startIau (judgePayload s) with
      tlc := { s.tlc with noiseInterval := some 1000, reportTimer := some 1000 } } :=
    ((works_judgePayload .refl).mild (Mild.of_iau _ { s.iau with frameTimer := some 10 } fun _ => rfl)).mild
      (mild_tlc _ _ rfl rfl rfl rfl rfl rfl rfl rfl)
  rw [tlcStarted_eq h]
  exact .change (.works .refl hw) (.link _ fun _ => Tlc.fresh_orderly _ _)

theorem tlcStarted_tlc (h : Blank s) : (tlcStarted s).tlc.orderly ∧ (tlcStarted s).tipConditions := by
  rw [tlcStarted_eq h]
  refine ⟨Tlc.fresh_orderly _ _, ?_⟩
  unfold State.tipConditions linked
  refine ⟨?_, ?_⟩
  · show (Clp.setLive _ _ _).isLive _ = true ↔ (Tlc.leaveUp _ _).link ≠ _
    rw [setLive_other .tipFailed .tipDown nofun, Moves.leaveUp_link]
    show (Clp.setLive _ _ _).isLive _ = true ↔ _
    rw [Clp.setLive_self]
    simp
  · show (Clp.setLive _ _ _).isLive _ = true ↔ (Tlc.leaveUp _ _).link = _
    rw [Clp.setLive_self, Moves.leaveUp_link]
    simp

theorem tlcStarted_wen (h : Blank s) : (tlcStarted s).wen = s.wen := by
  rw [tlcStarted_eq h]
  rfl

theorem tlcStarted_leverTimer (h : Blank s) : (tlcStarted s).vdr.leverTimer = none := by
  rw [tlcStarted_eq h]
  exact h.leverTimer

theorem tlcStarted_payload (h : Blank s) : (tlcStarted s).payloadCondition := by
  rw [tlcStarted_eq h]
  exact linked_payload _ (judgePayload_condition s)

theorem tlcStarted_source (h : Blank s) : judgedSource (tlcStarted s) = .none := by
  have hl : (tlcStarted s).tlc.link = .hailing := by
    rw [tlcStarted_eq h, linked_link]
    rfl
  have hg : (tlcStarted s).geo.valid = false := by
    rw [tlcStarted_eq h]
    exact h.valid
  simp [judgedSource, available, cylinderReadable, hl, hg]

/-- Without a source to find, the start of WEN judges NO_CAL alone. -/
theorem startWen_works (h : Blank s) : Works (tlcStarted s) (startWen (tlcStarted s))
    ∧ (startWen (tlcStarted s)).judged ∧ (startWen (tlcStarted s)).noCalCondition := by
  have hw := tlcStarted_wen h
  have hj := tlcStarted_source h
  generalize tlcStarted s = a at hw hj
  have he : startWen a
      = calibrated a.wen.calibration { a with wen := { a.wen with compensationTimer := some a.wen.settings.period } } := by
    have hs : a.wen.source = judgedSource a := by rw [hw, hj, h.source]
    have hc : a.wen.capture = none := by rw [hw, h.capture]
    unfold startWen calibrated
    rw [← hs]
    dsimp only
    rw [← hc]
  have hm : Mild a { a with wen := { a.wen with compensationTimer := some a.wen.settings.period } } :=
    .of_wen_lift a _ (.of_eq rfl rfl rfl rfl rfl rfl (.inr rfl)) rfl rfl
  have judged : (startWen a).judged := by
    have hk : (startWen a).clp.isLive .tipStuck = a.clp.isLive .tipStuck := setLive_other .noCal .tipStuck nofun
    have hc : (startWen a).wen.calibration.tipValid = a.wen.calibration.tipValid := rfl
    have hf : Frame a (startWen a) := (Frame.wen _ _).trans (.setLive .noCal _ _)
    exact (hf.judgedSource hk hc).symm
  refine ⟨?_, judged, ?_⟩
  · rw [he] at judged ⊢
    exact .calibrate a.wen.calibration (.mild .refl hm) .refl judged
  · unfold State.noCalCondition
    show (Clp.setLive _ _ _).isLive _ = true ↔ _
    rw [Clp.setLive_self]
    simp [startWen, judgeNoCal]

/-- The lever timer and the coil driver's groups start (R180, log 30). -/
def valvesTimed (s : State) : State := { s with vdr := { s.vdr with leverTimer := some 150, groupTimer := some 2 } }

theorem valvesTimed_lever (h : s.clp.isLive .leverStale = false) : (valvesTimed s).leverCondition := by
  unfold State.leverCondition valvesTimed
  simp [h]

theorem valvesTimed_acts (hl : s.vdr.leverTimer = none) (hs : s.clp.isLive .leverStale = false) :
    Acts s (valvesTimed s) :=
  .of_valves _ s.clp (fun _ _ => id) rfl (.refl _) (fun _ _ => rfl) id fun h => by
    have := h.mpr hl
    rw [hs] at this
    cases this

theorem sendStarted_acts (k : ResetKind) (s : State) : Acts s (sendStarted k s) := by
  have h : Mild s (notify (.started k (s.clp.isLatched .storeInvalid) s.sto.report s.sto.freeze) s) :=
    mild_notify rfl s
  exact .of_mild (h.trans (mild_clp _ _ rfl rfl rfl id))

/-- The start-up from the reset on, and what it has judged. -/
theorem startUp_moves (k : ResetKind) (m : CoilSamples) (h : Blank s) : Moves s (startUp k m s)
    ∧ (startUp k m s).judged ∧ (s.capturing → (startUp k m s).capturing) ∧ (startUp k m s).payloadCondition
    ∧ (startUp k m s).tlc.orderly ∧ (startUp k m s).tipConditions ∧ (startUp k m s).holdCondition
    ∧ (startUp k m s).noCalCondition ∧ (startUp k m s).leverCondition := by
  have hm := tlcStarted_moves h
  obtain ⟨ho, ht⟩ := tlcStarted_tlc h
  obtain ⟨hw, hj, hn⟩ := startWen_works h
  have hwe : Works (tlcStarted s) (clampSections (evaluate (startWen (tlcStarted s)))) :=
    hw.evaluation.mild (mild_clampSections _)
  have hhold : (clampSections (evaluate (startWen (tlcStarted s)))).holdCondition := by
    refine (mild_clampSections _).works.holdCondition ?_
    unfold State.holdCondition
    show (Clp.setLive _ _ _).isLive _ = true ↔ _
    rw [Clp.setLive_self]
    exact beq_iff_eq
  have hjudged : (clampSections (evaluate (startWen (tlcStarted s)))).judged :=
    (mild_clampSections _).judged ((Works.evaluation .refl).judged hj)
  have hnocal : (clampSections (evaluate (startWen (tlcStarted s)))).noCalCondition :=
    (mild_clampSections _).works.noCalCondition ((Works.evaluation .refl).noCalCondition hn)
  have hlever : (clampSections (evaluate (startWen (tlcStarted s)))).vdr.leverTimer = none := by
    rw [← Option.not_isSome_iff_eq_none, hwe.frame.leverTimer, Option.not_isSome_iff_eq_none]
    exact tlcStarted_leverTimer h
  have hstale : (clampSections (evaluate (startWen (tlcStarted s)))).clp.isLive .leverStale = false := by
    rw [hwe.live (d := .leverStale) id id, tlcStarted_eq h, linked_isLive _ _ (show Condition.tipDown ≠ .leverStale from nofun)
      (show Condition.tipFailed ≠ .leverStale from nofun)]
    show (judgePayload s).clp.isLive .leverStale = false
    rw [judgePayload_isLive _ (show Condition.leverStale ≠ .payload from nofun)]
    exact h.stale
  have hcap : s.capturing → (clampSections (evaluate (startWen (tlcStarted s)))).capturing := fun _ =>
    hwe.capturing (.of_none ((congrArg Wen.capture (tlcStarted_wen h)).trans h.capture))
  have hpay := hwe.payloadCondition (tlcStarted_payload h)
  have hmoves := hm.works hwe
  have horder := (Moves.works .refl hwe).orderly ho
  have htip := (Moves.works .refl hwe).tipConditions ht
  have he : startUp k m s = sendStarted k (updateDrive m (valvesTimed (clampSections (evaluate (startWen (tlcStarted s)))))) := rfl
  rw [he]
  generalize clampSections (evaluate (startWen (tlcStarted s))) = b at *
  have hv := valvesTimed_acts hlever hstale
  have hd : Acts (valvesTimed b) (sendStarted k (updateDrive m (valvesTimed b))) :=
    (acts_updateDrive m _).trans (sendStarted_acts k _)
  have ha := hv.trans hd
  exact ⟨hmoves.trans ha.moves, ha.judged hjudged, ha.capturing ∘ hcap, ha.payload hpay, ha.moves.orderly horder,
    ha.moves.tipConditions htip, ha.moves.holdCondition hhold, ha.moves.noCalCondition hnocal,
    hd.moves.leverCondition (valvesTimed_lever hstale)⟩

end Sys2Proof.Machine
end

section
/-! PROOF. What every step keeps: a command moves the module on by acts, or leaves the queue alone changed, or ends in
what a reset or a loss of supply leaves. -/

namespace Sys2Proof.Machine

variable {s t u a : State}

/-! ## What a reset leaves of each block -/

/-- The blocks that a reset brings back, whatever their settings, with every condition not live. -/
structure Rested (s : State) : Prop where
  tlc : ∃ x, s.tlc = .afterReset x
  geo : ∃ g z, s.geo = .afterReset g z
  wen : ∃ c w z, s.wen = .afterReset c w z
  ltr : ∃ l n, s.ltr = .afterReset l n
  mlm : ∃ l h, s.mlm = .afterReset l h
  vdr : ∃ x, s.vdr = .afterReset x
  covered : s.clp.covered
  bounded : s.clp.bounded
  live : ∀ d, s.clp.isLive d = false

theorem SectionState.afterReset_safe (x : SectionSettings) : (SectionState.afterReset x).safe := by
  simp [SectionState.safe, SectionState.afterReset, SectionState.isDisabled]

theorem Clp.afterReset_isLive (c : CabSettings) (d : Condition) : (Clp.afterReset c).isLive d = false := by
  simp [Clp.isLive, Clp.afterReset]

namespace Rested

theorem blank (h : Rested s) : Blank s := by
  obtain ⟨⟨_, ht⟩, ⟨_, _, hg⟩, ⟨_, _, _, hw⟩, -, -, ⟨_, hv⟩, -, -, hl⟩ := h
  constructor <;> simp [ht, hg, hw, hv, hl, Tlc.afterReset, Geo.afterReset, Wen.afterReset, Vdr.afterReset]

theorem lift (h : Rested s) : s.ltr.consistent ∧ s.liftWindowed := by
  obtain ⟨_, _, _, hw⟩ := h.wen
  obtain ⟨_, _, hl⟩ := h.ltr
  simp [Ltr.consistent, State.liftWindowed, hl, hw, Ltr.afterReset, Wen.afterReset, LiftState.inLift]

theorem quiet (h : Rested s) : s.wen.quiet := by
  obtain ⟨_, _, _, hw⟩ := h.wen
  rw [hw]
  exact fun _ => ⟨rfl, rfl⟩

theorem capturing (h : Rested s) : s.capturing := .of_none h.blank.capture

theorem factors (h : Rested s) : s.vdr.factorsBounded ∧ s.withholds := by
  obtain ⟨_, hv⟩ := h.vdr
  obtain ⟨_, _, hm⟩ := h.mlm
  refine ⟨fun v => ?_, ?_⟩
  · rw [hv]
    cases v <;> exact ⟨Nat.zero_le _, Nat.zero_le _⟩
  · unfold State.withholds
    rw [hm]
    nofun

theorem section_eq (h : Rested s) (v : Section) : ∃ x, s.vdr.sections.get v = .afterReset x := by
  obtain ⟨x, hv⟩ := h.vdr
  rw [hv]
  exact ⟨x.get v, PerSection.get_map _ _ v⟩

theorem safe (h : Rested s) (v : Section) : (s.vdr.sections.get v).safe := by
  obtain ⟨x, hx⟩ := h.section_eq v
  rw [hx]
  exact SectionState.afterReset_safe x

theorem coilConditions (h : Rested s) : s.coilConditions := by
  intro v
  obtain ⟨x, hx⟩ := h.section_eq v
  rw [hx, h.live]
  simp [SectionState.isDisabled, SectionState.afterReset]

theorem sourced (h : Rested s) : s.sourced := by
  have b := h.blank
  refine ⟨?_, fun _ => h.quiet b.source⟩
  rw [b.source]
  simp [judgedSource, available, cylinderReadable, b.link, b.valid]

/-- A latched condition is not live by that. -/
theorem latch (d : Condition) (h : Rested s) : Rested (latch d s) where
  tlc := h.tlc
  geo := h.geo
  wen := h.wen
  ltr := h.ltr
  mlm := h.mlm
  vdr := h.vdr
  covered := Clp.latch_covered _ _ h.covered
  bounded := (Clp.Grows.latch _ d).bounded h.bounded
  live e := by
    have hl : (Machine.latch d s).clp.live = s.clp.live := by simp [Machine.latch]
    unfold Clp.isLive
    rw [hl]
    exact h.live e

theorem latchFailed (x : LoadResult) (h : Rested s) : Rested (latchFailed x s) := by
  cases x with
  | passed => exact h
  | failed => exact h.latch _

end Rested

theorem Clp.afterReset_covered (c : CabSettings) : (Clp.afterReset c).covered := by
  intro i hi
  simp [Clp.afterReset] at hi

theorem Clp.afterReset_bounded (c : CabSettings) : (Clp.afterReset c).bounded := ⟨Nat.zero_le _, Nat.zero_le _⟩

/-! ## The two resets -/

/-- What a reset keeps or brings into force. -/
structure Resets (s a : State) : Prop where
  rested : Rested a
  pending : a.pending = s.pending
  numbered : s.log.numbered → a.log.numbered
  bounded : s.tal.bounded → a.tal.bounded
  labelled : s.tal.labelled → a.tal.labelled
  tracked : s.wen.tracked → a.wen.tracked
  withinFactory : s.sto.working.withinFactory = true → a.sto.working.withinFactory = true

theorem Log.afterReset_numbered (e : Enables) : (Log.afterReset e).numbered :=
  ⟨Nat.zero_le _, fun _ h => absurd h (Nat.not_lt_zero _)⟩

theorem Tal.afterReset_bounded (l : Vector Label 16) (x : Target) : (Tal.afterReset l x).bounded :=
  ⟨nofun, Nat.zero_le _, Nat.le_refl _, show 1 ≤ 65535 by decide⟩

theorem Tal.afterReset_labelled {l : Vector Label 16} (x : Target) (h0 : l[0] = Label.unsorted)
    (h : ∀ i : Fin 16, Label.accepted l[i] = true) : (Tal.afterReset l x).labelled := by
  refine ⟨h0, h, ?_⟩
  show (!(l[0]).isEmpty) = true
  rw [h0]
  rfl

theorem defaultLabels_accepted (i : Fin 16) : Label.accepted defaultLabels[i] = true := by
  revert i
  decide

/-- The labels that POWER-ON brings into force are well formed. -/
theorem loadSettings_labels (x : Sto) : (x.loadSettings.getD .default).labels[0] = Label.unsorted
    ∧ ∀ i : Fin 16, Label.accepted (x.loadSettings.getD .default).labels[i] = true := by
  cases hr : x.loadSettings with
  | none => exact ⟨rfl, defaultLabels_accepted⟩
  | some r =>
    have hacc : r.accepted = true := by
      unfold Sto.loadSettings StoreSlot.passing at hr
      split at hr
      · cases hr
      · split at hr
        · rename_i h
          cases hr
          exact h.2.2
        · cases hr
    simp only [SettingsRecord.accepted, Bool.and_eq_true, beq_iff_eq] at hacc
    obtain ⟨⟨⟨⟨⟨⟨-, hl⟩, h0⟩, -⟩, -⟩, -⟩, -⟩ := hacc
    refine ⟨h0, fun i => ?_⟩
    rw [List.all_eq_true] at hl
    exact hl _ (by simp)

theorem loadProfile_withinFactory (x : Sto) : (x.loadProfile.getD .factory).withinFactory = true := by
  cases hp : x.loadProfile with
  | none => decide
  | some p =>
    unfold Sto.loadProfile StoreSlot.passing at hp
    split at hp
    · cases hp
    · split at hp
      · rename_i h
        cases hp
        exact h.2.2
      · cases hp

theorem powerOnBlocks_rested (x : Sto) (p : List Instr) : Rested (powerOnBlocks x p) where
  tlc := ⟨_, rfl⟩
  geo := ⟨_, _, rfl⟩
  wen := ⟨_, _, _, rfl⟩
  ltr := ⟨_, _, rfl⟩
  mlm := ⟨_, _, rfl⟩
  vdr := ⟨_, rfl⟩
  covered := Clp.afterReset_covered _
  bounded := Clp.afterReset_bounded _
  live := Clp.afterReset_isLive _

theorem latchFailed_frame (x : LoadResult) (s : State) : (latchFailed x s).pending = s.pending
    ∧ (latchFailed x s).log = s.log ∧ (latchFailed x s).tal = s.tal ∧ (latchFailed x s).wen = s.wen
    ∧ (latchFailed x s).sto = s.sto := by
  cases x <;> exact ⟨rfl, rfl, rfl, rfl, rfl⟩

theorem loadStore_frame (x : Sto) (p : List Instr) : (loadStore x p).pending = p
    ∧ (loadStore x p).log = (powerOnBlocks x p).log ∧ (loadStore x p).tal = (powerOnBlocks x p).tal
    ∧ (loadStore x p).wen = (powerOnBlocks x p).wen ∧ (loadStore x p).sto = x.loaded := by
  simp [loadStore, latchFailed_frame, latch, powerOnBlocks]

theorem loadStore_resets (s : State) : Resets s (loadStore s.sto.breakOff s.pending) := by
  obtain ⟨hp, hl, ht, hw, hs⟩ := loadStore_frame s.sto.breakOff s.pending
  have labels := loadSettings_labels s.sto.breakOff
  refine ⟨?_, hp, fun _ => ?_, fun _ => ?_, fun _ => ?_, fun _ => ?_, fun _ => ?_⟩
  · exact ((((powerOnBlocks_rested _ _).latchFailed _).latchFailed _).latchFailed _).latch _
  · rw [hl]
    exact Log.afterReset_numbered _
  · rw [ht]
    exact Tal.afterReset_bounded _ _
  · rw [ht]
    exact Tal.afterReset_labelled _ labels.1 labels.2
  · rw [hw]
    exact Nat.zero_le _
  · rw [hs]
    exact loadProfile_withinFactory _

theorem restartBlocks_resets (s : State) : Resets s (restartBlocks s) where
  rested := ⟨⟨_, rfl⟩, ⟨_, _, rfl⟩, ⟨_, _, _, rfl⟩, ⟨_, _, rfl⟩, ⟨_, _, rfl⟩, ⟨_, rfl⟩, Clp.afterReset_covered _,
    Clp.afterReset_bounded _, Clp.afterReset_isLive _⟩
  pending := rfl
  numbered := id
  bounded := id
  labelled := id
  tracked := id
  withinFactory := id

theorem unpowered_rested (x : Sto) (p : List Instr) : Rested (.unpowered x p) :=
  ⟨⟨_, rfl⟩, ⟨_, _, rfl⟩, ⟨_, _, _, rfl⟩, ⟨_, _, rfl⟩, ⟨_, _, rfl⟩, ⟨_, rfl⟩, Clp.afterReset_covered _,
    Clp.afterReset_bounded _, Clp.afterReset_isLive _⟩

theorem breakOff_kept (x : Sto) : x.breakOff.working = x.working ∧ x.breakOff.freeze = x.freeze := by
  unfold Sto.breakOff
  split
  · exact ⟨rfl, rfl⟩
  · dsimp only
    split <;> exact ⟨rfl, rfl⟩

theorem loseSupply_resets (s : State) : Resets s (loseSupply s) where
  rested := unpowered_rested _ _
  pending := rfl
  numbered _ := Log.afterReset_numbered _
  bounded _ := Tal.afterReset_bounded _ _
  labelled _ := Tal.afterReset_labelled _ rfl defaultLabels_accepted
  tracked _ := Nat.zero_le _
  withinFactory h := by
    rw [show (loseSupply s).sto.working = s.sto.working from (breakOff_kept _).1]
    exact h

/-! ## Every command -/

/-- Only the queue of CLP and its timer change, and no live state. -/
structure Relays (s t : State) : Prop where
  clp : ∃ c, t = { s with clp := c }
  live : t.clp.live = s.clp.live
  covered : s.clp.covered → t.clp.covered
  bounded : s.clp.bounded → t.clp.bounded

theorem send_relays (x : Timer) (n : Notice) (s : State) :
    Relays s (notify n { s with clp := { s.clp with liveTimer := x } }) where
  clp := ⟨_, rfl⟩
  live := (Clp.send_frame _ _).2.1
  covered := Clp.send_covered { s.clp with liveTimer := x } n
  bounded h := by
    have hq := Clp.send_queue_length { s.clp with liveTimer := x } n
    exact ⟨hq.trans (Nat.max_le.mpr ⟨h.1, by decide⟩), Clp.send_lost _ _ h.2⟩

theorem expireLive_relays (s : State) : Relays s (expireLive s) := by
  unfold expireLive
  split
  · exact send_relays _ _ s
  · exact ⟨⟨_, rfl⟩, rfl, id, id⟩

theorem frameTransmitted_relays (s : State) :
    Relays s { s with clp := { s.clp with queue := s.clp.queue.drop 1 } } :=
  ⟨⟨_, rfl⟩, rfl, id, fun h => ⟨by have := h.1; simp; omega, h.2⟩⟩

/-- What a command leaves of a module. -/
inductive Leaves (c : Instr) (s : State) : State → Prop
  | acts {t : State} (h : Acts s t) : Leaves c s t
  | relays {t : State} (h : Relays s t) : Leaves c s t
  | powerOn (m : CoilSamples) (hc : c = .powerOn m) :
      Leaves c s (startUp .powerOn m (loadStore s.sto.breakOff s.pending))
  | restart (m : CoilSamples) (hp : s.powered = true) : Leaves c s (startUp .restart m (restartBlocks s))
  | unpowered : Leaves c s (loseSupply s)

theorem exec_leaves_of_acts (c : Instr) (s : State) (hc : Instr.acts c) : ∃ t, exec c s = .next t ∧ Leaves c s t :=
  (exec_performs c s hc).imp fun _ => And.imp_right .acts

theorem exec_leaves (c : Instr) (s : State) : ∃ t, exec c s = .next t ∧ Leaves c s t := by
  have powered (f : State → State) (h : s.powered = true → Leaves c s (f s)) :
      ∃ t, (.next (whenPowered f s) : Host.Outcome State Fault Refusal) = .next t ∧ Leaves c s t := by
    rcases whenPowered_cases f s with ⟨hp, e⟩ | ⟨-, e⟩ <;> rw [e]
    · exact ⟨_, rfl, h hp⟩
    · exact ⟨_, rfl, .acts (.refl s)⟩
  cases c with
  | powerOn m => exact ⟨_, rfl, .powerOn m rfl⟩
  | restartPerformed m =>
    refine powered _ fun hp => ?_
    unfold performRestart
    split
    · exact .restart m hp
    · exact .acts (.refl s)
  | lossOfSupply => exact powered _ fun _ => .unpowered
  | frameTransmitted => exact powered _ fun _ => .relays (frameTransmitted_relays s)
  | liveReportTimerExpiry => exact powered _ fun _ => .relays (expireLive_relays s)
  | _ => exact exec_leaves_of_acts _ s trivial

/-- A step takes the front command off the queue and performs it, or idles. -/
theorem step_leaves (h : step s = .next t) : t = s
    ∨ ∃ c rest, s.pending = c :: rest ∧ Leaves c { s with pending := rest } t := by
  unfold step at h
  split at h
  · cases h
    exact .inl rfl
  · rename_i c rest hp
    obtain ⟨u, hu, hl⟩ := exec_leaves c { s with pending := rest }
    cases hu.symm.trans h
    exact .inr ⟨c, rest, hp, hl⟩

/-- A promise that does not read the queue of commands is kept by every step that every command keeps it by. -/
theorem step_keeps {p : State → Prop} (hq : ∀ (s : State) l, p s → p { s with pending := l })
    (hk : ∀ c s t, Leaves c s t → p s → p t) (hs : p s) (h : step s = .next t) : p t := by
  rcases step_leaves h with rfl | ⟨c, rest, -, hl⟩
  · exact hs
  · exact hk c _ t hl (hq s rest hs)

/-- A start-up moves on from the reset before it. -/
theorem Leaves.of_resets {p : State → Prop} (hr : ∀ s a, Resets s a → p s → p a) (hm : ∀ s t, Moves s t → p s → p t)
    (ha : ∀ s t, Relays s t → p s → p t) {c : Instr} (h : Leaves c s t) (hs : p s) : p t := by
  cases h with
  | acts h => exact hm _ _ h.moves hs
  | relays h => exact ha _ _ h hs
  | powerOn m =>
    have h := loadStore_resets s
    exact hm _ _ (startUp_moves _ m h.rested.blank).1 (hr _ _ h hs)
  | restart m =>
    have h := restartBlocks_resets s
    exact hm _ _ (startUp_moves _ m h.rested.blank).1 (hr _ _ h hs)
  | unpowered => exact hr _ _ (loseSupply_resets s) hs

/-! ## CLP, LOG, TAL, WEN and STO -/

theorem step_keeps_clp (hc : s.clp.covered) (hb : s.clp.bounded) (h : step s = .next t) :
    t.clp.covered ∧ t.clp.bounded :=
  step_keeps (p := fun s => s.clp.covered ∧ s.clp.bounded) (fun _ _ => id)
    (fun _ _ _ => Leaves.of_resets (fun _ _ h _ => ⟨h.rested.covered, h.rested.bounded⟩)
      (fun _ _ h => And.imp h.grows.covered h.grows.bounded) (fun _ _ h => And.imp h.covered h.bounded))
    ⟨hc, hb⟩ h

theorem step_keeps_numbered (hs : s.log.numbered) (h : step s = .next t) : t.log.numbered :=
  step_keeps (p := fun s => s.log.numbered) (fun _ _ => id)
    (fun _ _ _ => Leaves.of_resets (fun _ _ h => h.numbered) (fun _ _ h => h.numbered)
      (fun _ _ h => by obtain ⟨c, rfl⟩ := h.clp; exact id)) hs h

theorem step_keeps_bounded (hs : s.tal.bounded) (h : step s = .next t) : t.tal.bounded :=
  step_keeps (p := fun s => s.tal.bounded) (fun _ _ => id)
    (fun _ _ _ => Leaves.of_resets (fun _ _ h => h.bounded) (fun _ _ h => h.bounded)
      (fun _ _ h => by obtain ⟨c, rfl⟩ := h.clp; exact id)) hs h

theorem step_keeps_labelled (hs : s.tal.labelled) (h : step s = .next t) : t.tal.labelled :=
  step_keeps (p := fun s => s.tal.labelled) (fun _ _ => id)
    (fun _ _ _ => Leaves.of_resets (fun _ _ h => h.labelled) (fun _ _ h => h.labelled)
      (fun _ _ h => by obtain ⟨c, rfl⟩ := h.clp; exact id)) hs h

theorem step_keeps_tracked (hs : s.wen.tracked) (h : step s = .next t) : t.wen.tracked :=
  step_keeps (p := fun s => s.wen.tracked) (fun _ _ => id)
    (fun _ _ _ => Leaves.of_resets (fun _ _ h => h.tracked) (fun _ _ h => h.tracked)
      (fun _ _ h => by obtain ⟨c, rfl⟩ := h.clp; exact id)) hs h

theorem step_keeps_withinFactory (hs : s.sto.working.withinFactory = true) (h : step s = .next t) :
    t.sto.working.withinFactory = true :=
  step_keeps (p := fun s => s.sto.working.withinFactory = true) (fun _ _ => id)
    (fun _ _ _ => Leaves.of_resets (fun _ _ h => h.withinFactory) (fun _ _ h => h.withinFactory)
      (fun _ _ h => by obtain ⟨c, rfl⟩ := h.clp; exact id)) hs h

/-- Settles O55. -/
theorem logTallyAndQueueAreKept : Obligations.LogTallyAndQueueAreKept := by
  refine ⟨fun s t hc hb hn h => ?_, fun s t hb hl ht hw h => ?_⟩
  · exact ⟨(step_keeps_clp hc hb h).1, (step_keeps_clp hc hb h).2, step_keeps_numbered hn h⟩
  · exact ⟨step_keeps_bounded hb h, step_keeps_labelled hl h, step_keeps_tracked ht h, step_keeps_withinFactory hw h⟩

/-! ## Lift, source and capture -/

theorem step_keeps_lift (hc : s.ltr.consistent) (hw : s.liftWindowed) (h : step s = .next t) :
    t.ltr.consistent ∧ t.liftWindowed :=
  step_keeps (p := fun s => s.ltr.consistent ∧ s.liftWindowed) (fun _ _ => id)
    (fun _ _ _ => Leaves.of_resets (fun _ _ h _ => h.rested.lift) (fun _ _ h => h.lift)
      (fun _ _ h => by obtain ⟨c, rfl⟩ := h.clp; exact id)) ⟨hc, hw⟩ h

/-- A relay leaves what the judgement of the sources and of a capture reads. -/
theorem Relays.isLive (h : Relays s t) (d : Condition) : t.clp.isLive d = s.clp.isLive d := by
  unfold Clp.isLive
  rw [h.live]

theorem Relays.sourced (h : Relays s t) (hs : s.sourced) : t.sourced := by
  have hl := h.isLive .tipStuck
  obtain ⟨c, rfl⟩ := h.clp
  have hj : judgedSource { s with clp := c } = judgedSource s := judgedSource_of rfl hl rfl rfl (fun _ => rfl) rfl
  exact ⟨hs.1.trans hj.symm, hs.2⟩

theorem Relays.capturing (h : Relays s t) (hs : s.capturing) : t.capturing := by
  have hl := h.isLive .tipStuck
  obtain ⟨c, rfl⟩ := h.clp
  exact hs.of_eq (.inr (.inl rfl)) rfl (tipReadable_of rfl hl)

/-- A start-up judges the source that its reset leaves. -/
theorem startUp_sourced (k : ResetKind) (m : CoilSamples) (h : Rested a) : (startUp k m a).sourced := by
  obtain ⟨hm, hj, -⟩ := startUp_moves k m h.blank
  exact ⟨hj, hm.quiet h.quiet⟩

theorem startUp_capturing (k : ResetKind) (m : CoilSamples) (h : Rested a) : (startUp k m a).capturing :=
  (startUp_moves k m h.blank).2.2.1 h.capturing

theorem Leaves.sourced {c : Instr} (h : Leaves c s t) (hs : s.sourced) : t.sourced := by
  cases h with
  | acts h => exact h.sourced hs
  | relays h => exact h.sourced hs
  | powerOn m => exact startUp_sourced _ m (loadStore_resets s).rested
  | restart m => exact startUp_sourced _ m (restartBlocks_resets s).rested
  | unpowered => exact (unpowered_rested _ _).sourced

theorem Leaves.capturing {c : Instr} (h : Leaves c s t) (hs : s.capturing) : t.capturing := by
  cases h with
  | acts h => exact h.capturing hs
  | relays h => exact h.capturing hs
  | powerOn m => exact startUp_capturing _ m (loadStore_resets s).rested
  | restart m => exact startUp_capturing _ m (restartBlocks_resets s).rested
  | unpowered => exact (unpowered_rested _ _).capturing

/-- Settles O56. -/
theorem liftSourceAndCaptureAreKeptConsistent : Obligations.LiftSourceAndCaptureAreKeptConsistent :=
  ⟨fun _ _ => step_keeps_lift,
    fun _ _ => step_keeps (p := State.sourced) (fun _ _ => id) fun _ _ _ => Leaves.sourced,
    fun _ _ => step_keeps (p := State.capturing) (fun _ _ => id) fun _ _ _ => Leaves.capturing⟩

/-! ## Valves -/

/-- The promise of VDR, with the factors apart. -/
def State.valvesKept (s : State) : Prop :=
  (∀ v, (s.vdr.sections.get v).safe) ∧ s.vdr.factorsBounded ∧ s.withholds

theorem valvesKept_iff (s : State) : s.valvesKept ↔ s.vdr.safe ∧ s.withholds :=
  ⟨fun ⟨hs, hf, hw⟩ => ⟨fun v => ⟨hs v, hf v⟩, hw⟩, fun ⟨h, hw⟩ => ⟨fun v => (h v).1, fun v => (h v).2, hw⟩⟩

/-- Settles O57. -/
theorem valveSectionsAreKeptSafe : Obligations.ValveSectionsAreKeptSafe := by
  intro s t hs hw h
  rw [← valvesKept_iff]
  refine step_keeps (p := State.valvesKept) (fun _ _ => id) (fun _ _ _ => Leaves.of_resets ?_ ?_ ?_)
    ((valvesKept_iff s).mpr ⟨hs, hw⟩) h
  · exact fun _ _ h _ => ⟨h.rested.safe, h.rested.factors⟩
  · exact fun _ _ h k => ⟨fun v => h.safe k.2 v (k.1 v), h.factors k.2⟩
  · intro _ _ h
    obtain ⟨c, rfl⟩ := h.clp
    exact id

/-! ## Link and conditions -/

/-- What the link promises in a module with supply. -/
def State.linkKept (s : State) : Prop := s.tlc.orderly ∧ s.tipConditions

/-- What the conditions promise in a module with supply. -/
def State.conditionsKept (s : State) : Prop :=
  s.holdCondition ∧ s.payloadCondition ∧ s.noCalCondition ∧ s.coilConditions ∧ s.leverCondition

theorem startUp_conditions (k : ResetKind) (m : CoilSamples) (h : Rested a) : (startUp k m a).conditionsKept := by
  obtain ⟨hm, -, -, hp, -, -, hh, hn, hl⟩ := startUp_moves k m h.blank
  exact ⟨hh, hp, hn, hm.coilConditions h.coilConditions, hl⟩

theorem startUp_link (k : ResetKind) (m : CoilSamples) (h : Rested a) :
    (startUp k m a).linkKept := by
  obtain ⟨-, -, -, -, ho, ht, -⟩ := startUp_moves k m h.blank
  exact ⟨ho, ht⟩

theorem Acts.conditions (h : Acts s t) (hs : s.conditionsKept) : t.conditionsKept := by
  obtain ⟨hh, hp, hn, hc, hl⟩ := hs
  exact ⟨h.moves.holdCondition hh, h.payload hp, h.moves.noCalCondition hn, h.moves.coilConditions hc,
    h.moves.leverCondition hl⟩

theorem Relays.conditions (h : Relays s t) (hs : s.conditionsKept) : t.conditionsKept := by
  have hl := h.isLive
  obtain ⟨c, rfl⟩ := h.clp
  obtain ⟨hh, hp, hn, hc, hv⟩ := hs
  unfold State.conditionsKept State.holdCondition State.payloadCondition State.noCalCondition State.coilConditions
    State.leverCondition
  simp only [hl]
  exact ⟨hh, hp, hn, hc, hv⟩

theorem Relays.tipConditions (h : Relays s t) (hs : s.tipConditions) : t.tipConditions := by
  have hl := h.isLive
  obtain ⟨c, rfl⟩ := h.clp
  unfold State.tipConditions
  simp only [hl]
  exact hs

/-- A promise of a module with supply: kept by every act and relay, and made anew by every start-up. -/
theorem Leaves.powered {p : State → Prop} (ha : ∀ s t, Acts s t → p s → p t) (hr : ∀ s t, Relays s t → p s → p t)
    (hu : ∀ k m a, Rested a → p (startUp k m a)) {c : Instr} (h : Leaves c s t) (hs : s.powered = true → p s) :
    t.powered = true → p t := by
  cases h with
  | acts h => exact fun hp => ha _ _ h (hs (h.moves.powered ▸ hp))
  | relays h =>
    refine fun hp => hr _ _ h (hs ?_)
    obtain ⟨c, rfl⟩ := h.clp
    exact hp
  | powerOn m => exact fun _ => hu _ _ _ (loadStore_resets s).rested
  | restart m => exact fun _ => hu _ _ _ (restartBlocks_resets s).rested
  | unpowered => nofun

/-- Settles O58. -/
theorem tipLinkAndConditionsAreKept : Obligations.TipLinkAndConditionsAreKept := by
  refine ⟨fun s t => step_keeps (p := fun s => s.powered = true → s.linkKept) (fun _ _ => id)
    (fun _ _ _ => Leaves.powered (p := State.linkKept) ?_ ?_ fun k m _ => startUp_link k m), fun s t => step_keeps (p := fun s => s.powered = true → s.conditionsKept)
    (fun _ _ => id) (fun _ _ _ => Leaves.powered (fun _ _ => Acts.conditions) (fun _ _ => Relays.conditions)
      fun k m _ => startUp_conditions k m)⟩
  · exact fun _ _ h => And.imp h.moves.orderly h.moves.tipConditions
  · intro _ _ h hs
    refine ⟨?_, h.tipConditions hs.2⟩
    obtain ⟨c, rfl⟩ := h.clp
    exact hs.1

/-! ## Every command completes -/

theorem Leaves.pending {c : Instr} (h : Leaves c s t) : t.pending = s.pending := by
  cases h with
  | acts h => exact h.moves.pending
  | relays h =>
    obtain ⟨c, rfl⟩ := h.clp
    rfl
  | powerOn m => exact (startUp_moves _ m (loadStore_resets s).rested.blank).1.pending.trans (loadStore_resets s).pending
  | restart m => exact (startUp_moves _ m (restartBlocks_resets s).rested.blank).1.pending
  | unpowered => rfl

/-- A request that CLP does not dispatch does nothing. -/
theorem Requests.of_not_dispatching {k : Byte} {o : State → Host.Outcome State Fault Refusal} (h : Requests k o s)
    (hd : s.dispatching = false) : o s = .next s := by
  obtain ⟨g, hg, x, d, ha⟩ := h
  obtain ⟨e, he, -⟩ := ha s.clp.queue
  exact (hg s.clp.queue).trans (congrArg _ (he.trans (answer_of_not_dispatching hd)))

theorem exec_of_not_dispatching {i : Instr} (hi : (encodeRequest i).isSome = true) (hd : s.dispatching = false) :
    exec i s = .next s := by
  obtain ⟨⟨k, p⟩, he⟩ := Option.isSome_iff_exists.mp hi
  rw [exec_request i s hi]
  by_cases hl : ∃ d, i = .lever d
  · obtain ⟨d, rfl⟩ := hl
    show execLever d s = _
    unfold execLever
    split
    · exact congrArg _ (answer_of_not_dispatching hd)
    · exact congrArg _ (if_neg (by simp [hd]))
  · exact (requestMeaning_requests he (fun d h => absurd ⟨d, h⟩ hl) s).of_not_dispatching hd

/-- Without supply nothing but POWER_ON acts (log 6). -/
theorem exec_of_unpowered (c : Instr) (h : s.powered = false) (hc : ∀ m, c ≠ .powerOn m) : exec c s = .next s := by
  have hd : s.dispatching = false := by simp [State.dispatching, h]
  have unpowered (f : State → State) : (.next (whenPowered f s) : Host.Outcome State Fault Refusal) = .next s := by
    simp [whenPowered, h]
  cases c with
  | powerOn m => exact absurd rfl (hc m)
  | unknownKind k => exact congrArg _ (answer_of_not_dispatching hd)
  | restartPerformed | acquisitionFrame | driveUpdate | coilShort | hail | hailReply | probeEcho | dataFrame
  | damagedTipFrame | hailTimerExpiry | probeResend | probeWindowExpiry | goResend | startWindowExpiry
  | lossTimerExpiry | backOffExpiry | noiseIntervalExpiry | reportTimerExpiry | compensationUpdate | leverTimerExpiry
  | liveReportTimerExpiry | hornPatternStep | lampFlashStep | byteGapExpiry | cabFrameDiscarded | storeWritePart
  | cabLineByteReceived | frameTransmitted | lossOfSupply | clockMillisecond | hornHalfPeriod => exact unpowered _
  | _ => exact exec_of_not_dispatching rfl hd

/-- Settles O2. -/
theorem everyCommandCompletes : Obligations.EveryCommandCompletes :=
  ⟨fun c s => (exec_leaves c s).imp fun _ => And.imp_right Leaves.pending, fun c _ h hc => exec_of_unpowered c h hc⟩

/-- A request dispatched: lost without room, and otherwise its reply joins the queue before all that it causes. -/
theorem Requests.of_dispatching {k : Byte} {o : State → Host.Outcome State Fault Refusal} (h : Requests k o s)
    (hd : s.dispatching = true) : ∃ (x : Status) (d : List Byte), ∀ q : List TxFrame,
      (64 < q.length + (replyFrames k x d).length → o (s.queued q) = .next { s.queued q with clp := (s.queued q).clp.lose })
      ∧ (q.length + (replyFrames k x d).length ≤ 64 →
        ∃ t rest, o (s.queued q) = .next t ∧ t.clp.queue = q ++ replyFrames k x d ++ rest) := by
  obtain ⟨g, hg, x, d, ha⟩ := h
  refine ⟨x, d, fun q => ?_⟩
  obtain ⟨e, he, hacts⟩ := ha q
  rw [hg q, he]
  rcases answer_cases k x d e (s.queued q) with ⟨hn, -⟩ | ⟨-, hq, hx⟩ | ⟨-, hq, hx⟩
  · exact absurd (hd.symm.trans hn) nofun
  · rw [hx]
    exact ⟨fun _ => rfl, fun h => absurd hq (Nat.not_lt.mpr h)⟩
  · rw [hx]
    refine ⟨fun h => absurd h (Nat.not_lt.mpr hq), fun _ => ?_⟩
    obtain ⟨rest, hr⟩ := (hacts (q ++ replyFrames k x d)).moves.grows.queue
    exact ⟨_, rest, rfl, hr⟩

/-- Settles O3. -/
theorem requestsWithoutRoomAreLost : Obligations.RequestsWithoutRoomAreLost := by
  intro i s k p hi
  have hs : (encodeRequest i).isSome = true := Option.isSome_iff_exists.mpr ⟨_, hi⟩
  refine ⟨exec_of_not_dispatching hs, fun hd hl => ?_⟩
  obtain ⟨x, d, h⟩ := (requestMeaning_requests hi hl s).of_dispatching hd
  refine ⟨x, d, fun q => ?_⟩
  have he := exec_request i (s.queued q) hs
  obtain ⟨hlost, hfits⟩ := h q
  exact ⟨fun hq => he.trans (hlost hq), fun hq =>
    (hfits hq).imp fun t => Exists.imp fun rest => And.imp_left he.trans⟩

/-! ## The freeze (R189) -/

/-- A frozen profile stands through every command but POWER_ON. -/
theorem Leaves.frozen {c : Instr} (h : Leaves c s t) (hc : ∀ m, c ≠ .powerOn m) (hs : s.sto.freeze = .frozen) :
    t.sto.working = s.sto.working ∧ t.sto.freeze = .frozen := by
  cases h with
  | acts h => exact h.moves.frozen hs
  | relays h =>
    obtain ⟨c, rfl⟩ := h.clp
    exact ⟨rfl, hs⟩
  | powerOn m hm => exact absurd hm (hc m)
  | restart m => exact (startUp_moves _ m (restartBlocks_resets s).rested.blank).1.frozen hs
  | unpowered => exact ⟨(breakOff_kept _).1, (breakOff_kept _).2.trans hs⟩

theorem step_frozen (hs : s.sto.freeze = .frozen) (h : step s = .next t)
    (hp : ∀ m rest, s.pending ≠ .powerOn m :: rest) :
    t.sto.working = s.sto.working ∧ t.sto.freeze = .frozen := by
  rcases step_leaves h with rfl | ⟨c, rest, hq, hl⟩
  · exact ⟨rfl, hs⟩
  · exact hl.frozen (fun m hm => hp m rest (hm ▸ hq)) hs

/-- Settles O47. -/
theorem profileRestoreAndFreeze : Obligations.ProfileRestoreAndFreeze := by
  refine ⟨fun s hs => ?_, fun s t hf h hp => step_frozen hf h hp⟩
  obtain ⟨hfrozen, hbusy, htaken⟩ := profileRestore_and_freeze s hs
  refine ⟨hfrozen, hbusy, fun ho hw => ⟨?_, (htaken ho hw).2⟩⟩
  let u : State := { s.replied 0x52 .accepted [] with sto := { s.sto with working := .factory } }
  have hsto : (handProfile u).sto = u.sto := by simp
  refine ⟨_, (htaken ho hw).1, ?_, handProfile_condition u, handProfile_source u, fun v => ?_, ?_⟩
  · show ({ (handProfile u).sto with write := _ } : Sto) = _
    rw [hsto]
    rfl
  · show ((handProfile u).vdr.sections.get v).settings.iMax = _
    rw [handProfile_section, withinCap_eq]
    show min _ (Profile.factory.caps.get v) = _
    rw [show Profile.factory.caps.get v = 2000 from PerSection.get_all 2000 v]
    rfl
  · refine handProfile_mem_queue rfl ?_
    show _ ∈ (s.replied _ _ _).clp.queue
    rw [replied_short (by simp)]
    simp

end Sys2Proof.Machine
end

section
/-! PROOF. What a start-up leaves of each block (R191), and the statements about POWER-ON, RESTART and saved
settings. -/

namespace Sys2Proof.Machine

variable {s t u a : State}

/-! ## The condition table before STARTED -/

/-- Conditions in `D` have gone live for the first time and latched, and no notice has been sent. -/
def Clp.Raised (D : List Condition) (c c' : Clp) : Prop :=
  ∃ m : BitVec 30, c' = { c with live := c.live ||| m, latched := c.latched ||| m }
    ∧ ∀ d : Condition, m.getLsbD d.index.val = true → d ∈ D

namespace Clp.Raised

theorem refl (c : Clp) : c.Raised [] c := ⟨0, by simp, fun d h => by simp at h⟩

/-- Before STARTED a condition not yet raised is set without a notice (R197). -/
theorem setLive {D : List Condition} {c c' : Clp} (h : c.Raised D c') (hs : c.started = false)
    (hl : ∀ d, c.isLive d = false) (d : Condition) (v : Bool) (hd : d ∉ D) : c.Raised (d :: D) (c'.setLive d v) := by
  obtain ⟨m, rfl, hm⟩ := h
  have hb : m.getLsbD d.index.val = false := by
    by_contra x
    exact hd (hm d (by simpa using x))
  have hn : Clp.isLive { c with live := c.live ||| m, latched := c.latched ||| m } d = false := by
    have := hl d
    unfold Clp.isLive at this ⊢
    rw [BitVec.getLsbD_or, this, hb]
    rfl
  cases v with
  | false =>
    refine ⟨m, ?_, fun e he => List.mem_cons_of_mem _ (hm e he)⟩
    unfold Clp.setLive
    rw [if_pos hn]
  | true =>
    refine ⟨m ||| d.bit, ?_, fun e he => ?_⟩
    · unfold Clp.setLive
      rw [hn, if_neg nofun]
      simp [Clp.liveNotice, hs, Clp.putLive, BitVec.or_assoc]
    · rw [BitVec.getLsbD_or, Bool.or_eq_true] at he
      rcases he with he | he
      · exact List.mem_cons_of_mem _ (hm e he)
      · have hx : e = d := by
          by_contra x
          have := e.index.isLt
          have hx : ¬e.index.val = d.index.val := fun y => x (Condition.index_injective (Fin.ext y))
          simp [Condition.bit, hx] at he
        exact hx ▸ List.mem_cons_self

theorem isLatched {D : List Condition} {c c' : Clp} (h : c.Raised D c') (d : Condition) (hd : d ∉ D) :
    c'.isLatched d = c.isLatched d := by
  obtain ⟨m, rfl, hm⟩ := h
  have hb : m.getLsbD d.index.val = false := by
    by_contra x
    exact hd (hm d (by simpa using x))
  unfold Clp.isLatched
  rw [BitVec.getLsbD_or, hb, Bool.or_false]

end Clp.Raised

/-! ## A section that has not been driven -/

/-- The first drive update measures the currents of a section at rest and drives nothing (R180). -/
theorem afterReset_update (x : SectionSettings) (v : Section) (f : FactorPair) (m : CoilPair) :
    (SectionState.afterReset x).update v f m = { SectionState.afterReset x with measured := m } := by
  have hf : factorInUse v 0 f = 1000 := by simp [factorInUse]
  have hc : activeCurrent x 0 = 0 := by rw [activeCurrent_eq]; simp
  simp [SectionState.update, SectionState.afterReset, failsOpen, openJudged, SectionState.drive, hf,
    composedTarget_whole, rampOutput_self, setpoints, hc, dutyCode, roundDiv]

/-! ## The start-up before its drive update -/

/-- The module as the start-up has it before VDR's timers start. -/
def readied (a : State) : State := clampSections (evaluate (startWen (tlcStarted a)))

theorem startUp_eq (k : ResetKind) (m : CoilSamples) (a : State) :
    startUp k m a = sendStarted k (updateDrive m (valvesTimed (readied a))) := rfl

/-- TLC as its start leaves it: HAIL 1 sent (R22, R40). -/
def hailed (x : TipSettings) : Tlc :=
  { Tlc.afterReset x with
    hailTimer := some 10, noiseInterval := some 1000, reportTimer := some 1000, hailCount := 1, sent := some .hail }

theorem tlcStarted_eq_hailed (h : Rested a) {x : TipSettings} (hx : a.tlc = .afterReset x) :
    (tlcStarted a).tlc = hailed x := by
  rw [tlcStarted_eq h.blank]
  show (Tlc.fresh _).leaveUp _ = _
  rw [hx]
  rfl

/-- What the start-up has done before VDR is started. -/
structure Readied (a b : State) : Prop where
  powered : b.powered = a.powered
  pending : b.pending = a.pending
  iau : b.iau = { a.iau with frameTimer := some 10 }
  tlc : ∀ x, a.tlc = .afterReset x → b.tlc = hailed x
  geo : b.geo = a.geo
  wen : b.wen = { a.wen with compensationTimer := some a.wen.settings.period }
  ltr : b.ltr = a.ltr
  tal : b.tal = a.tal
  log : b.log = a.log
  sto : b.sto = a.sto
  limiter : b.mlm.limiter = a.mlm.limiter
  horn : b.mlm.horn = a.mlm.horn
  sections : ∀ v x, a.vdr.sections.get v = .afterReset x →
    b.vdr.sections.get v = .afterReset (withinCap (a.sto.working.caps.get v) x)
  leverTimer : b.vdr.leverTimer = none
  driveTimer : b.vdr.driveTimer = a.vdr.driveTimer
  evaluated : ∃ st, b.evaluated st
  clp : a.clp.Raised [.limitHold, .noCal, .tipFailed, .tipDown, .payload] b.clp

theorem tlcStarted_clp (h : Rested a) (hs : a.clp.started = false) :
    a.clp.Raised [.tipFailed, .tipDown, .payload] (tlcStarted a).clp := by
  rw [tlcStarted_eq h.blank]
  exact ((Clp.Raised.refl a.clp).setLive hs h.live .payload _ nofun).setLive hs h.live .tipDown _ (by simp)
    |>.setLive hs h.live .tipFailed _ (by simp)

theorem tlcStarted_frame (h : Rested a) : (tlcStarted a).powered = a.powered ∧ (tlcStarted a).pending = a.pending
    ∧ (tlcStarted a).iau = { a.iau with frameTimer := some 10 } ∧ (tlcStarted a).geo = a.geo
    ∧ (tlcStarted a).ltr = a.ltr ∧ (tlcStarted a).tal = a.tal ∧ (tlcStarted a).log = a.log
    ∧ (tlcStarted a).sto = a.sto ∧ (tlcStarted a).mlm = a.mlm ∧ (tlcStarted a).vdr = a.vdr := by
  rw [tlcStarted_eq h.blank]
  exact ⟨rfl, rfl, rfl, rfl, rfl, rfl, rfl, rfl, rfl, rfl⟩

theorem startWen_wen (h : Rested a) : (startWen (tlcStarted a)).wen
    = { a.wen with compensationTimer := some a.wen.settings.period } := by
  have hw := tlcStarted_wen h.blank
  show { (tlcStarted a).wen with
    source := judgedSource (tlcStarted a), compensationTimer := some (tlcStarted a).wen.settings.period } = _
  rw [tlcStarted_source h.blank, hw, ← h.blank.source]

theorem readied_blocks (h : Rested a) (hs : a.clp.started = false) : Readied a (readied a) := by
  obtain ⟨hp, hq, hi, hg, hl, ht, hlog, hsto, hm, hv⟩ := tlcStarted_frame h
  have evaluated := evaluate_evaluated (startWen (tlcStarted a))
  have hclp : (readied a).clp = (evaluate (startWen (tlcStarted a))).clp := by simp [readied]
  refine ⟨hp, hq, hi, fun x hx => tlcStarted_eq_hailed h hx, hg, startWen_wen h, hl, ht, hlog, hsto, ?_, ?_,
    fun v x hx => ?_, ?_, ?_, ⟨(startWen (tlcStarted a)).mlm.stage, ?_⟩, ?_⟩
  · obtain ⟨-, -, -, -, -, -, hx, -⟩ := evaluatedMlm_frame (startWen (tlcStarted a))
    exact hx.trans (congrArg Mlm.limiter hm)
  · obtain ⟨-, -, -, -, -, -, -, hx⟩ := evaluatedMlm_frame (startWen (tlcStarted a))
    exact hx.trans (congrArg Mlm.horn hm)
  · show ((evaluate (startWen (tlcStarted a))).vdr.sections.map _).get v = _
    rw [PerSection.get_map]
    show ({ (tlcStarted a).vdr.sections.get v with
      settings := withinCap ((tlcStarted a).sto.working.caps.get v) ((tlcStarted a).vdr.sections.get v).settings
      } : SectionState) = _
    rw [hv, hsto, hx]
    rfl
  · show (tlcStarted a).vdr.leverTimer = none
    rw [hv]
    exact h.blank.leverTimer
  · show (tlcStarted a).vdr.driveTimer = _
    rw [hv]
  · exact evaluated.congr rfl rfl rfl rfl rfl rfl rfl rfl rfl rfl rfl (by rw [hclp])
  · rw [hclp]
    exact ((tlcStarted_clp h hs).setLive hs h.live .noCal _ (by simp)).setLive hs h.live .limitHold _ (by simp)

/-! ## The start-up -/

/-- A section as the start-up leaves it: at rest, its currents measured once (R180). -/
def measuredAt (m : CoilSamples) (v : Section) (x : SectionSettings) : SectionState :=
  { SectionState.afterReset x with measured := m.get v }

/-- What a start-up leaves of a reset module. -/
structure Started (k : ResetKind) (m : CoilSamples) (a t : State) : Prop where
  powered : t.powered = a.powered
  pending : t.pending = a.pending
  iau : t.iau = { a.iau with frameTimer := some 10 }
  tlc : ∀ x, a.tlc = .afterReset x → t.tlc = hailed x
  geo : t.geo = a.geo
  wen : t.wen = { a.wen with compensationTimer := some a.wen.settings.period }
  ltr : t.ltr = a.ltr
  tal : t.tal = a.tal
  log : t.log = a.log
  sto : t.sto = a.sto
  limiter : t.mlm.limiter = a.mlm.limiter
  horn : t.mlm.horn = a.mlm.horn
  sections : ∀ v x, a.vdr.sections.get v = .afterReset x →
    t.vdr.sections.get v = measuredAt m v (withinCap (a.sto.working.caps.get v) x)
  leverTimer : t.vdr.leverTimer = some 150
  groupTimer : t.vdr.groupTimer = some 2
  evaluated : ∃ st, t.evaluated st
  clp : ∃ c, a.clp.Raised [.limitHold, .noCal, .tipFailed, .tipDown, .payload] c ∧ t.clp = { c with
    queue := [.notice (.started k (a.clp.isLatched .storeInvalid) a.sto.report a.sto.freeze)]
    started := true
    liveTimer := c.settings.period.timer }

/-- The first drive update finds every section at rest, and no coil open (R180). -/
theorem firstUpdate_clp (m : CoilSamples) {b : State}
    (hb : ∀ v, ∃ x, b.vdr.sections.get v = .afterReset x) : (updateDrive m b).clp = b.clp := by
  have none (v : Section) : ((updatedSections m b.vdr).get v).isDisabled = false := by
    obtain ⟨x, hx⟩ := hb v
    rw [show (updatedSections m b.vdr).get v = _ from PerSection.get_map _ _ v, hx, afterReset_update]
    rfl
  show noteCoilFaults b.vdr.sections (updatedSections m b.vdr) b.clp = b.clp
  simp [noteCoilFaults, none]

theorem sendStarted_eq (k : ResetKind) {b : State} (hq : b.clp.queue = []) : sendStarted k b = { b with clp := { b.clp with
    queue := [.notice (.started k (b.clp.isLatched .storeInvalid) b.sto.report b.sto.freeze)]
    started := true
    liveTimer := b.clp.settings.period.timer } } := by
  unfold sendStarted notify
  rw [Clp.send_of_short rfl (by rw [hq]; decide), hq]
  rfl

theorem startUp_started (k : ResetKind) (m : CoilSamples) (h : Rested a) (hs : a.clp.started = false)
    (hq : a.clp.queue = []) : Started k m a (startUp k m a) := by
  have r := readied_blocks h hs
  obtain ⟨n, hn, hD⟩ := id r.clp
  have hv : ∀ v, ∃ x, (valvesTimed (readied a)).vdr.sections.get v = .afterReset x := fun v => by
    obtain ⟨x, hx⟩ := h.section_eq v
    exact ⟨_, r.sections v x hx⟩
  have hc : (updateDrive m (valvesTimed (readied a))).clp = (readied a).clp := firstUpdate_clp m hv
  have hsto : (updateDrive m (valvesTimed (readied a))).sto = a.sto := r.sto
  have hlatch : (readied a).clp.isLatched .storeInvalid = a.clp.isLatched .storeInvalid := r.clp.isLatched _ (by simp)
  have he : startUp k m a = { updateDrive m (valvesTimed (readied a)) with clp := { (readied a).clp with
      queue := [.notice (.started k (a.clp.isLatched .storeInvalid) a.sto.report a.sto.freeze)]
      started := true
      liveTimer := (readied a).clp.settings.period.timer } } := by
    rw [startUp_eq, sendStarted_eq k (by rw [hc, hn]; exact hq), hc, hsto, hlatch, ← hsto]
  have hu : State.evaluated _ (readied a) := r.evaluated.choose_spec
  rw [he]
  refine ⟨r.powered, r.pending, r.iau, r.tlc, r.geo, r.wen, r.ltr, r.tal, r.log, r.sto, r.limiter, r.horn,
    fun v x hx => ?_, rfl, rfl, ⟨_, hu.congr rfl rfl rfl rfl rfl rfl rfl rfl rfl rfl rfl rfl⟩, _, r.clp, rfl⟩
  show (updatedSections m (valvesTimed (readied a)).vdr).get v = _
  rw [show (updatedSections m (valvesTimed (readied a)).vdr).get v = _ from PerSection.get_map _ _ v]
  show ((readied a).vdr.sections.get v).update v _ _ = _
  rw [r.sections v x hx]
  exact afterReset_update _ _ _ _

/-! ## The two resets before their start-up -/

/-- Before STARTED a condition is latched without a notice. -/
theorem latch_clp (d : Condition) (h : s.clp.started = false) :
    (latch d s).clp = { s.clp with latched := s.clp.latched ||| d.bit } := by
  simp [latch, Clp.latch, h]

/-- The latch of a record that fails (R183). -/
def LoadResult.bit : LoadResult → BitVec 30
  | .passed => 0
  | .failed => Condition.storeInvalid.bit

theorem latchFailed_clp (x : LoadResult) (h : s.clp.started = false) :
    (latchFailed x s).clp = { s.clp with latched := s.clp.latched ||| x.bit } := by
  cases x with
  | passed => simp [latchFailed, LoadResult.bit]
  | failed => exact latch_clp _ h

/-- The latches that the loading leaves (R129, R183). -/
def LoadReport.latches (r : LoadReport) : BitVec 30 :=
  0 ||| r.profile.bit ||| r.settings.bit ||| r.calibration.bit ||| Condition.tallyLost.bit

theorem LoadReport.latches_tallyLost (r : LoadReport) : r.latches.getLsbD Condition.tallyLost.index.val = true := by
  obtain ⟨p, x, c⟩ := r
  cases p <;> cases x <;> cases c <;> decide

theorem LoadReport.latches_storeInvalid (r : LoadReport) :
    r.latches.getLsbD Condition.storeInvalid.index.val = true ↔ r ≠ ⟨.passed, .passed, .passed⟩ := by
  obtain ⟨p, x, c⟩ := r
  cases p <;> cases x <;> cases c <;> decide

/-- What the loading of the store leaves of CLP: its settings, and the latches of what it found. -/
theorem loadStore_clp (x : Sto) (p : List Instr) : (loadStore x p).clp
    = { Clp.afterReset (x.loadSettings.getD .default).cab with latched := x.loaded.report.latches } := by
  let b := powerOnBlocks x p
  let b1 := latchFailed b.sto.report.profile b
  let b2 := latchFailed b.sto.report.settings b1
  let b3 := latchFailed b.sto.report.calibration b2
  have h1 : b1.clp = _ := latchFailed_clp _ rfl
  have h2 : b2.clp = _ := latchFailed_clp _ (by rw [h1]; rfl)
  have h3 : b3.clp = _ := latchFailed_clp _ (by rw [h2, h1]; rfl)
  have h4 : (latch .tallyLost b3).clp = _ := latch_clp _ (by rw [h3, h2, h1]; rfl)
  show (latch .tallyLost b3).clp = _
  rw [h4, h3, h2, h1]
  rfl

/-- What POWER-ON leaves of a module with the store `x`. -/
theorem powerUp_started (m : CoilSamples) (s : State) :
    Started .powerOn m (loadStore s.sto.breakOff s.pending) (powerUp m s) := by
  have hc := loadStore_clp s.sto.breakOff s.pending
  exact startUp_started _ _ (loadStore_resets s).rested (by rw [hc]; rfl) (by rw [hc]; rfl)

theorem restart_started (m : CoilSamples) (s : State) :
    Started .restart m (restartBlocks s) (startUp .restart m (restartBlocks s)) :=
  startUp_started _ _ (restartBlocks_resets s).rested rfl rfl

/-! ## The module right after POWER-ON (log 2) -/

theorem powerUp_blank_section (v : Section) : (powerUp (.all ⟨0, 0⟩) (.unpowered .blank [])).vdr.sections.get v
    = State.reset.vdr.sections.get v := by
  have h := powerUp_started (.all ⟨0, 0⟩) (.unpowered .blank [])
  rw [h.sections v .default (by cases v <;> rfl)]
  cases v <;> rfl

theorem powerUp_blank : powerUp (.all ⟨0, 0⟩) (.unpowered .blank []) = State.reset := by
  have hv : (powerUp (.all ⟨0, 0⟩) (.unpowered .blank [])).vdr
      = { State.reset.vdr with sections := (powerUp (.all ⟨0, 0⟩) (.unpowered .blank [])).vdr.sections } := by rfl
  rw [PerSection.ext_get powerUp_blank_section] at hv
  refine State.ext_parts ?_ ?_ ?_ ?_ ?_ ?_ ?_ ?_ ?_ hv ?_ ?_ ?_
  all_goals rfl

/-- Settles O59: the reset is a start-up, and meets what every start-up meets. -/
theorem resetMeetsEveryInvariant : Obligations.ResetMeetsEveryInvariant := by
  have r := loadStore_resets (.unpowered .blank [])
  have h := r.rested
  have he : startUp .powerOn (.all ⟨0, 0⟩) (loadStore (State.unpowered .blank []).sto.breakOff
    (State.unpowered .blank []).pending) = State.reset := powerUp_blank
  have hm := (startUp_moves .powerOn (.all ⟨0, 0⟩) h.blank).1
  have hc := startUp_conditions .powerOn (.all ⟨0, 0⟩) h
  have hl := startUp_link .powerOn (.all ⟨0, 0⟩) h
  have hs := startUp_sourced .powerOn (.all ⟨0, 0⟩) h
  have hx := startUp_capturing .powerOn (.all ⟨0, 0⟩) h
  have u := loseSupply_resets (.unpowered .blank [])
  have hn := u.numbered
  rw [he] at hm hc hl hs hx
  obtain ⟨hhold, hpay, hnocal, hcoil, hlever⟩ := hc
  have hf := hm.factors h.factors
  refine ⟨congrArg _ powerUp_blank, hm.grows.covered h.covered, hm.grows.bounded h.bounded,
    hm.numbered (r.numbered (Log.afterReset_numbered _)), hm.bounded (r.bounded (Tal.afterReset_bounded _ _)),
    hm.labelled (r.labelled (Tal.afterReset_labelled _ rfl defaultLabels_accepted)), hm.tracked (r.tracked (Nat.zero_le _)),
    by decide, (hm.lift h.lift).1, (hm.lift h.lift).2, hs, hx, fun v => ⟨hm.safe h.factors v (h.safe v), hf.1 v⟩, hf.2,
    hl.1, hl.2, hhold, hpay, hnocal, hcoil, hlever⟩

end Sys2Proof.Machine
end

section
/-! PROOF. POWER-ON with what the store holds, the settings that come back, RESTART, and the requests about conditions. -/

namespace Sys2Proof.Machine

variable {s t u a : State}

/-! ## Records that pass their check and records that fail it (R182, R183) -/

theorem StoreSlot.passing_of {α : Type} {kind : RecordKind} {valid : α → Bool} {x : α} (hx : valid x = true) :
    (StoreSlot.record x (some kind) 0).passing kind valid = some x := by
  simp [StoreSlot.passing, hx]

theorem StoreSlot.passing_none {α : Type} {kind : RecordKind} {valid : α → Bool} {x : α} {sig : Option RecordKind} {sum : Byte}
    (h : sum ≠ 0 ∨ sig ≠ some kind ∨ valid x = false) : (StoreSlot.record x sig sum).passing kind valid = none := by
  unfold StoreSlot.passing
  dsimp only
  rw [if_neg]
  rintro ⟨h1, h2, h3⟩
  rcases h with h | h | h
  · exact h h1
  · exact h h2
  · rw [h3] at h
    cases h

/-- A record that cannot be read, or whose write is broken off by the loss of supply, fails its check. -/
theorem breakOff_profile {x : Sto} (h : x.profileSlot = .unreadable ∨ ∃ k p, x.write = some (.profile k p)) :
    x.breakOff.loadProfile = none := by
  have hs : x.breakOff.profileSlot = .unreadable := by
    rcases h with h | ⟨k, p, h⟩
    · cases hw : x.write with
      | none => simp [Sto.breakOff, hw, h]
      | some w =>
        rw [breakOff_of hw]
        cases w.record with
        | profile => rfl
        | settings => exact h
        | calibration => exact h
    · rw [breakOff_of h]
      rfl
  unfold Sto.loadProfile
  rw [hs]
  rfl

theorem breakOff_settings {x : Sto} (h : x.settingsSlot = .unreadable ∨ ∃ r c, x.write = some (.save r c .settings)) :
    x.breakOff.loadSettings = none := by
  have hs : x.breakOff.settingsSlot = .unreadable := by
    rcases h with h | ⟨k, p, h⟩
    · cases hw : x.write with
      | none => simp [Sto.breakOff, hw, h]
      | some w =>
        rw [breakOff_of hw]
        cases w.record with
        | profile => exact h
        | settings => rfl
        | calibration => exact h
    · rw [breakOff_of h]
      rfl
  unfold Sto.loadSettings
  rw [hs]
  rfl

theorem breakOff_calibration {x : Sto}
    (h : x.calibrationSlot = .unreadable ∨ ∃ r c, x.write = some (.save r c .calibration)) :
    x.breakOff.loadCalibration = none := by
  have hs : x.breakOff.calibrationSlot = .unreadable := by
    rcases h with h | ⟨k, p, h⟩
    · cases hw : x.write with
      | none => simp [Sto.breakOff, hw, h]
      | some w =>
        rw [breakOff_of hw]
        cases w.record with
        | profile => exact h
        | settings => exact h
        | calibration => rfl
    · rw [breakOff_of h]
      rfl
  unfold Sto.loadCalibration
  rw [hs]
  rfl

theorem breakOff_ended {x : Sto} (h : x.write = none) : x.breakOff = x := by simp [Sto.breakOff, h]

/-! ## What POWER-ON brings into force -/

/-- The settings record that the store gives (R183). -/
def loadedSettings (x : Sto) : SettingsRecord := x.loadSettings.getD .default

theorem powerUp_sto (m : CoilSamples) (s : State) : (powerUp m s).sto = s.sto.breakOff.loaded := by
  rw [(powerUp_started m s).sto]
  exact (loadStore_frame _ _).2.2.2.2

/-- The blocks that the start-up finds are those of the loading, and only the latches come on top. -/
theorem loadStore_eq (x : Sto) (p : List Instr) :
    loadStore x p = { powerOnBlocks x p with clp := (loadStore x p).clp } := by
  simp only [loadStore, latch]
  cases (powerOnBlocks x p).sto.report.calibration <;> cases (powerOnBlocks x p).sto.report.settings
    <;> cases (powerOnBlocks x p).sto.report.profile <;> rfl

theorem powerUp_settled (m : CoilSamples) (s : State) : (powerUp m s).settledOn (loadedSettings s.sto.breakOff) := by
  have h := powerUp_started m s
  have hs := powerUp_sto m s
  have hc := loadStore_clp s.sto.breakOff s.pending
  have hsec (v : Section) := h.sections v _ (by rw [loadStore_eq]; exact PerSection.get_map _ _ v)
  obtain ⟨c, ⟨n, hn, -⟩, hclp⟩ := h.clp
  rw [loadStore_eq] at h
  refine ⟨fun c => ?_, fun l => ?_, ?_, ?_, ?_, ?_, ?_, ?_, ?_, ?_, ?_, ?_, ?_, fun v => ?_⟩
  · rw [h.iau]
    exact congrArg ChannelState.settings (PerChannel.get_map _ _ c)
  · rw [h.iau]
    exact congrArg LineState.settings (PerLine.get_map _ _ l)
  · rw [h.tlc _ rfl]
    rfl
  · rw [h.geo]
    rfl
  · rw [h.geo]
    rfl
  · rw [h.wen]
    rfl
  · rw [h.ltr]
    rfl
  · rw [h.tal]
    rfl
  · rw [h.tal]
    rfl
  · rw [h.log]
    rfl
  · rw [h.limiter]
    rfl
  · rw [h.horn]
    rfl
  · rw [hclp, hn, hc]
    rfl
  · rw [hsec v, hs]
    show withinCap ((loadStore s.sto.breakOff s.pending).sto.working.caps.get v) _ = _
    rw [(loadStore_frame _ _).2.2.2.2, withinCap_eq]
    rfl

theorem powerUp_calibration (m : CoilSamples) (s : State) :
    (powerUp m s).wen.calibration = s.sto.breakOff.loadCalibration.getD .default := by
  rw [(powerUp_started m s).wen, loadStore_eq]
  rfl

/-- The defaults of every block, written out (R183). -/
theorem settledOn_default (h : t.settledOn .default) :
    (∀ c : Channel, (t.iau.channels.get c).settings = ⟨200, c.range.1, 3895, c.range.2, 200, 3895⟩)
    ∧ (∀ l : Line, (t.iau.lines.get l).settings = ⟨.input, .rising⟩)
    ∧ t.tlc.settings = ⟨.auto, .lenient⟩ ∧ t.geo.geometry = ⟨5000, 4200, 2000, 1800⟩
    ∧ t.geo.zones = ⟨1200, 2400, 1000, 6500, 3300, 300, 2500⟩
    ∧ t.wen.settings = ⟨50, 300, 32, 150, 20, 2000, true, 250⟩
    ∧ t.ltr.settings = ⟨9000, 4000, 200, 150, 300, 150, 300, 200⟩
    ∧ t.tal.labels[0] = [0x55, 0x4E, 0x53, 0x4F, 0x52, 0x54, 0x45, 0x44]
    ∧ (∀ i : Fin 16, i ≠ 0 → t.tal.labels[i] = [])
    ∧ t.tal.target = ⟨false, false, false, 1, 1, 0, 1⟩
    ∧ t.log.enables = ⟨true, false, true, true, true⟩ ∧ t.mlm.limiter = ⟨30, 300, 850⟩
    ∧ t.mlm.horn = ⟨4, 9⟩ ∧ t.clp.settings = ⟨.ms100, Vector.replicate 30 .rise⟩
    ∧ ∀ v : Section, let cap := t.sto.working.caps.get v
      (t.vdr.sections.get v).settings = ⟨min 300 (min 1200 cap), min 1200 cap, 20, 50, 100⟩ := by
  obtain ⟨hc, hl, ht, hg, hz, hw, hx, hlab, htar, he, hm, hh, hcab, hv⟩ := h
  refine ⟨fun c => ?_, fun l => ?_, ht, hg, hz, hw, hx, ?_, ?_, htar, he, hm, hh, hcab, fun v => ?_⟩
  · rw [hc]
    cases c <;> rfl
  · rw [hl]
    cases l <;> rfl
  · rw [hlab]
    rfl
  · rw [hlab]
    decide
  · rw [hv, show (SettingsRecord.default.sections).get v = .default from PerSection.get_all _ v]
    rfl

/-- A section as POWER-ON leaves it: at rest, with the current of the first drive update (R180). -/
theorem Started.section {k : ResetKind} {m : CoilSamples} (h : Started k m a t) (hr : Rested a) (v : Section) :
    (t.vdr.sections.get v).output = 0 ∧ (t.vdr.sections.get v).latch = true
      ∧ (t.vdr.sections.get v).setpoint = ⟨0, 0⟩ ∧ (t.vdr.sections.get v).measured = m.get v
      ∧ (t.vdr.sections.get v).duty = ⟨0, 0⟩ ∧ (t.vdr.sections.get v).driven = ⟨0, 0⟩ := by
  obtain ⟨x, hx⟩ := hr.section_eq v
  rw [h.sections v x hx]
  exact ⟨rfl, rfl, rfl, rfl, rfl, rfl⟩

/-- Settles O50: the store loaded, and what the start-up leaves of the loaded blocks. -/
theorem powerOnStartsEveryBlock : Obligations.PowerOnStartsEveryBlock := by
  intro m s
  have h := powerUp_started m s
  have hr := (loadStore_resets s).rested
  have hsto := powerUp_sto m s
  have hset := powerUp_settled m s
  have hcal := powerUp_calibration m s
  have hsec := h.section hr
  have hcond := startUp_conditions .powerOn m hr
  have hsource := startUp_sourced .powerOn m hr
  obtain ⟨b, hfig, hlim⟩ := h.evaluated
  obtain ⟨c, hraised, hclp⟩ := h.clp
  have hc := loadStore_clp s.sto.breakOff s.pending
  have hlatch (d : Condition) (hd : d ∉ [Condition.limitHold, .noCal, .tipFailed, .tipDown, .payload]) :
      (powerUp m s).clp.isLatched d = s.sto.breakOff.loaded.report.latches.getLsbD d.index.val := by
    rw [hclp]
    show c.isLatched d = _
    rw [hraised.isLatched d hd, hc]
    rfl
  have factory (hn : s.sto.breakOff.loadProfile = none) : (powerUp m s).sto.working = ⟨11000, 250, true, 16000, .all 2000⟩
      ∧ (powerUp m s).sto.report.profile = .failed := by
    rw [hsto]
    unfold Sto.loaded
    rw [hn]
    exact ⟨rfl, rfl⟩
  have defaults (hn : s.sto.breakOff.loadSettings = none) : (powerUp m s).sto.report.settings = .failed
      ∧ (powerUp m s).settledOn .default := by
    unfold loadedSettings at hset
    rw [hn] at hset
    refine ⟨?_, hset⟩
    rw [hsto]
    unfold Sto.loaded
    rw [hn]
    rfl
  have uncalibrated (hn : s.sto.breakOff.loadCalibration = none) : (powerUp m s).sto.report.calibration = .failed
      ∧ (powerUp m s).wen.calibration
        = ⟨0, false, 1, false, 0, 0, 20, 0, 0, Vector.replicate 8 ⟨0, false, 1, false⟩⟩ := by
    rw [hcal, hsto]
    unfold Sto.loaded
    rw [hn]
    exact ⟨rfl, rfl⟩
  refine ⟨_, b, rfl, ⟨fun p sig sum he hp => ?_, fun hn => factory (breakOff_profile hn), fun r sig sum he hp => ?_,
    fun hn => (defaults (breakOff_settings hn)).imp_right settledOn_default, fun c sig sum he hp => ?_,
    fun hn => uncalibrated (breakOff_calibration hn)⟩, ?_⟩
  · have hl : s.sto.breakOff.loadProfile = (StoreSlot.record p sig sum).passing .profile Profile.withinFactory := by
      rw [breakOff_ended he, ← hp]
      rfl
    refine ⟨?_, fun hf => factory (hl.trans (StoreSlot.passing_none hf))⟩
    rintro rfl rfl hv
    rw [hsto]
    unfold Sto.loaded
    rw [hl, StoreSlot.passing_of hv]
    exact ⟨rfl, rfl⟩
  · have hl : s.sto.breakOff.loadSettings = (StoreSlot.record r sig sum).passing .settings SettingsRecord.accepted := by
      rw [breakOff_ended he, ← hp]
      rfl
    refine ⟨?_, fun hf => (defaults (hl.trans (StoreSlot.passing_none hf))).imp_right settledOn_default⟩
    rintro rfl rfl hv
    unfold loadedSettings at hset
    rw [hl, StoreSlot.passing_of hv] at hset
    refine ⟨hset, ?_⟩
    rw [hsto]
    unfold Sto.loaded
    rw [hl, StoreSlot.passing_of hv]
    rfl
  · have hl : s.sto.breakOff.loadCalibration
        = (StoreSlot.record c sig sum).passing .calibration Calibration.accepted := by
      rw [breakOff_ended he, ← hp]
      rfl
    refine ⟨?_, fun hf => uncalibrated (hl.trans (StoreSlot.passing_none hf))⟩
    rintro rfl rfl hv
    rw [hcal, hsto]
    unfold Sto.loaded
    rw [hl, StoreSlot.passing_of hv]
    exact ⟨rfl, rfl⟩
  · obtain ⟨hhold, hpay, hnocal, hcoil, hlever⟩ := hcond
    have hreport : (powerUp m s).sto.report = s.sto.breakOff.loaded.report := congrArg Sto.report hsto
    have hinvalid : (powerUp m s).clp.isLatched .storeInvalid = (loadStore s.sto.breakOff s.pending).clp.isLatched .storeInvalid := by
      rw [hlatch .storeInvalid (by simp), hc]
      rfl
    have e := h
    obtain ⟨n, hn, -⟩ := hraised
    rw [loadStore_eq] at e
    refine ⟨e.powered, e.pending, congrArg Sto.freeze hsto, congrArg Sto.write hsto, ?_, ?_, congrArg Log.clock e.log,
      congrArg Log.ring e.log, congrArg Log.nextSequence e.log, congrArg Tal.load e.tal, congrArg Tal.nextNumber e.tal,
      congrArg Tal.history e.tal, congrArg Tal.selected e.tal, congrArg Tal.commandedHold e.tal,
      congrArg Ltr.state e.ltr, congrArg Ltr.number e.ltr, congrArg Wen.zeroOffset e.wen, congrArg Wen.k e.wen,
      congrArg Wen.capture e.wen, congrArg Iau.frameTimer e.iau, congrArg Tlc.link (e.tlc _ rfl),
      congrArg Tlc.hailCount (e.tlc _ rfl), congrArg Tlc.sent (e.tlc _ rfl), congrArg Tlc.errorCounter (e.tlc _ rfl),
      hfig, hlim, hpay, hsource, hnocal, hsec, e.leverTimer, e.groupTimer, ?_, ?_, ?_, ?_⟩
    · rw [hlatch .tallyLost (by simp)]
      exact LoadReport.latches_tallyLost _
    · rw [hlatch .storeInvalid (by simp), hreport]
      exact LoadReport.latches_storeInvalid _
    · rw [hclp]
    · rw [hclp, hn, hc]
      rfl
    · rw [hclp]
    · rw [hinvalid, hclp]
      show [TxFrame.notice (.started _ _ _ _)] = _
      rw [hreport, (loadStore_frame _ _).2.2.2.2]
      rfl

/-- Settles O49: the two parts written, the loading finds both records passing their checks. -/
theorem savedSettingsComeBack : Obligations.SavedSettingsComeBack := by
  intro m s hs hw hq hr hc
  have hp : s.powered = true := hs.powered
  let x : StoreWrite := .save (currentSettings s) s.wen.calibration .settings
  let a := beginWrite x (s.replied 0x50 .accepted [])
  let b : State := { a with sto := { a.sto with
    settingsSlot := .record (currentSettings s) (some .settings) 0
    write := some (.save (currentSettings s) s.wen.calibration .calibration) } }
  let c := notify (.storeDone .saveSettings) { b with sto := { b.sto with
    calibrationSlot := .record s.wen.calibration (some .calibration) 0, write := none } }
  let d := loseSupply c
  have ha : exec .saveSettings s = .next a := congrArg _ (answer_of_neg hs (by simp [hw]))
  have hb : exec .storeWritePart a = .next b := congrArg Host.Outcome.next ((whenPowered_eq (s := a) hp).trans (finishPart_save rfl))
  have hcb : exec .storeWritePart b = .next c := congrArg Host.Outcome.next ((whenPowered_eq (s := b) hp).trans (finishPart_calibration rfl))
  have hd : exec .lossOfSupply c = .next d := congrArg Host.Outcome.next (whenPowered_eq (s := c) hp)
  have hsto : d.sto.breakOff = c.sto := breakOff_ended rfl
  have hset : d.sto.breakOff.loadSettings = some (currentSettings s) := by
    rw [hsto]
    exact StoreSlot.passing_of hr
  have hcal : d.sto.breakOff.loadCalibration = some s.wen.calibration := by
    rw [hsto]
    exact StoreSlot.passing_of hc
  have settled := powerUp_settled m d
  have calibration := powerUp_calibration m d
  have report : (powerUp m d).sto.report = ⟨loadResult d.sto.breakOff.loadProfile, .passed, .passed⟩ := by
    rw [powerUp_sto]
    unfold Sto.loaded
    rw [hset, hcal]
    rfl
  unfold loadedSettings at settled
  rw [hset, Option.getD_some] at settled
  rw [hcal] at calibration
  obtain ⟨h1, h2, h3, h4, h5, h6, h7, h8, h9, h10, h11, h12, h13, h14⟩ := settled
  refine ⟨a, b, c, d, _, ha, hb, hcb, hd, rfl, congrArg LoadReport.settings report, congrArg LoadReport.calibration report,
    calibration, fun ch => (h1 ch).trans (PerChannel.get_map _ _ ch), fun l => (h2 l).trans (PerLine.get_map _ _ l),
    h3, h4, h5, h6, h7, h8, h9, h10, h11, h12, h13, fun v => ?_⟩
  rw [h14 v, show (currentSettings s).sections.get v = _ from PerSection.get_map _ _ v, withinCap_eq]

/-! ## RESTART (R200) -/

/-- Settles O51: what the blocks keep across their reset, and what the start-up leaves of them. -/
theorem restartKeepsWhatIsKept : Obligations.RestartKeepsWhatIsKept := by
  intro m s
  refine ⟨fun hs => ⟨fun hw => refusedWith_of hs (congrArg _ (if_pos hw)), fun hw => ?_⟩, fun hp hr => ?_,
    fun hp hr => ?_⟩
  · refine ⟨_, congrArg Host.Outcome.next (answer_of_neg hs (by simp [hw])), ?_, ?_⟩
    · simp [State.dispatching]
    · rw [replied_short (by simp)]
  · refine congrArg _ ((whenPowered_eq hp).trans ?_)
    unfold performRestart
    rw [hr]
    rfl
  · have h := restart_started m s
    have hrest := (restartBlocks_resets s).rested
    have he : exec (.restartPerformed m) s = .next (startUp .restart m (restartBlocks s)) :=
      congrArg _ ((whenPowered_eq hp).trans (if_pos hr))
    have hsec (v : Section) := h.sections v _ (PerSection.get_map _ _ v)
    obtain ⟨b, hfig, hlim⟩ := h.evaluated
    obtain ⟨c, ⟨n, hn, -⟩, hclp⟩ := h.clp
    refine ⟨_, b, he, h.powered.trans hp, h.sto, h.log, h.tal, (congrArg Wen.calibration h.wen :), (congrArg Wen.zeroOffset h.wen :),
      (congrArg Wen.settings h.wen :), (congrArg Wen.capture h.wen :), (congrArg Wen.k h.wen :), (congrArg Ltr.number h.ltr :),
      (congrArg Ltr.settings h.ltr :), (congrArg Ltr.state h.ltr :), (congrArg Ltr.result h.ltr :),
      (congrArg Tlc.settings (h.tlc _ rfl) :), (congrArg Tlc.errorCounter (h.tlc _ rfl) :), (congrArg Tlc.link (h.tlc _ rfl) :),
      (congrArg Tlc.hailCount (h.tlc _ rfl) :), (congrArg Geo.geometry h.geo :), (congrArg Geo.zones h.geo :),
      (congrArg Geo.valid h.geo :), h.limiter, h.horn, hfig, hlim, fun c => ?_, fun l => ?_, fun v => ?_, ?_, ?_, ?_, ?_, ?_, ?_⟩
    · have hx : (startUp .restart m (restartBlocks s)).iau.channels.get c
          = .afterReset (s.iau.channels.get c).settings := by
        rw [h.iau]
        exact (PerChannel.get_map _ _ c).trans (congrArg _ (PerChannel.get_map _ _ c))
      rw [hx]
      exact ⟨rfl, rfl, rfl⟩
    · have hx : (startUp .restart m (restartBlocks s)).iau.lines.get l = .afterReset (s.iau.lines.get l).settings := by
        rw [h.iau]
        exact (PerLine.get_map _ _ l).trans (congrArg _ (PerLine.get_map _ _ l))
      rw [hx]
      exact ⟨rfl, rfl, rfl⟩
    · rw [hsec v, PerSection.get_map]
      exact ⟨rfl, rfl, rfl, rfl⟩
    all_goals rw [hclp]
    · rw [hn]
      rfl
    · rw [hn]
      rfl
    · rw [hn]
      rfl
    · rw [hn]
      rfl
    · rw [hn]
      rfl
    · have hf : (restartBlocks s).clp.isLatched .storeInvalid = false := by
        show (0 : BitVec 30).getLsbD _ = false
        simp
      rw [hf]
      rfl

/-! ## CLEAR CONDITIONS, READ CONDITIONS and SET CAB LINE (R198, R199) -/

/-- A section re-enabled (R198). -/
theorem SectionState.reenable_disabled {x : SectionState} {f : CoilFault} (h : x.coil = .disabled f) :
    x.reenable = { x with coil := .enabled, latch := true, target := 0, openCount := ⟨0, 0⟩ } := by
  simp [SectionState.reenable, SectionState.isDisabled, SectionState.hold, h]

theorem SectionState.reenable_enabled {x : SectionState} (h : x.coil = .enabled) : x.reenable = x := by
  simp [SectionState.reenable, SectionState.isDisabled, h]

theorem clearConditions_section (m : BitVec 30) (s : State) (v : Section) :
    (clearConditions m s).vdr.sections.get v = (s.vdr.sections.get v).reenable := PerSection.get_map _ _ v

theorem clearConditions_coilFault (m : BitVec 30) (s : State) (v : Section) : (clearConditions m s).clp.isLive (.coilFault v)
    = if (s.vdr.sections.get v).isDisabled = true then false else s.clp.isLive (.coilFault v) := by
  have h := foldl_coilFault_isLive (fun w => (s.vdr.sections.get w).isDisabled) false Section.list s.clp v
  simp only [Section.mem_list, true_and] at h
  exact h

theorem clearConditions_isLive (m : BitVec 30) (s : State) (d : Condition) (hd : ∀ v, d ≠ .coilFault v) :
    (clearConditions m s).clp.isLive d = s.clp.isLive d :=
  foldl_coilFault_other (fun w => (s.vdr.sections.get w).isDisabled) false Section.list s.clp d hd

/-- A condition that goes non-live keeps every latch (R196). -/
theorem setLive_false_latched (d : Condition) (c : Clp) : (c.setLive d false).latched = c.latched := by
  unfold Clp.setLive
  split
  · rfl
  · dsimp only
    split <;> simp [Clp.putLive]

theorem reenableSections_latched (s : State) : (reenableSections s).clp.latched = s.clp.latched := by
  have fold (p : Section → Bool) : ∀ (l : List Section) (c : Clp),
      (l.foldl (fun c v => if p v then c.setLive (.coilFault v) false else c) c).latched = c.latched := by
    intro l
    induction l with
    | nil => exact fun _ => rfl
    | cons v l ih =>
      intro c
      refine (ih _).trans ?_
      dsimp only
      split
      · exact setLive_false_latched _ c
      · rfl
  exact fold (fun v => (s.vdr.sections.get v).isDisabled) Section.list s.clp

/-- The latches that the mask names and that are not live are cleared, and no other (R198). -/
theorem clearConditions_isLatched (m : BitVec 30) (s : State) (d : Condition) : (clearConditions m s).clp.isLatched d
    = (s.clp.isLatched d && (!m.getLsbD d.index.val || (clearConditions m s).clp.isLive d)) := by
  show ((reenableSections s).clp.latched &&& (~~~m ||| (reenableSections s).clp.live)).getLsbD _ = _
  rw [BitVec.getLsbD_and, BitVec.getLsbD_or, BitVec.getLsbD_not, reenableSections_latched]
  simp only [d.index.isLt, decide_true, Bool.true_and]
  rfl

/-- CLEAR CONDITIONS as the module performs it. -/
theorem exec_clearConditions {mask : BitVec 32} (hs : s.serves 1) (h : mask.toNat < 2 ^ 30) :
    ∃ data t, exec (.clearConditions mask) s = .next t ∧ t = clearConditions (mask.truncate 30) (s.replied 0x58 .ok data)
      ∧ .reply 0x58 .ok 0 true (u32 t.clp.live.toNat ++ u32 t.clp.latched.toNat) ∈ t.clp.queue := by
  let d := conditionMasks (clearConditions (mask.truncate 30) s).clp
  let t := clearConditions (mask.truncate 30) (s.replied 0x58 .ok d)
  have hd : u32 t.clp.live.toNat ++ u32 t.clp.latched.toNat = d :=
    clearConditions_masks (mask.truncate 30) s (s.clp.queue ++ replyFrames 0x58 .ok d) s.clp.queue
  have he : exec (.clearConditions mask) s = .next t :=
    congrArg Host.Outcome.next ((if_pos h).trans (answer_short hs (by simp [conditionMasks])))
  refine ⟨d, t, he, rfl, ?_⟩
  obtain ⟨rest, hr⟩ := (acts_clearConditions (mask.truncate 30) (s.replied 0x58 .ok d)).moves.grows.queue
  rw [hd, hr, replied_short (by simp [d, conditionMasks])]
  simp

theorem decodeAll_map {α : Type} {f : Nat → Option α} {g : α → Nat} (h : ∀ x, f (g x) = some x) (l : List α) :
    decodeAll f (l.map g) = some l := by
  induction l with
  | nil => rfl
  | cons x l ih => simp [decodeAll, h, ih]

theorem decodeAll_none {α : Type} {f : Nat → Option α} {l : List Nat} (h : ∃ x ∈ l, f x = none) : decodeAll f l = none := by
  obtain ⟨x, hx, hf⟩ := h
  induction l with
  | nil => cases hx
  | cons y l ih =>
    rcases List.mem_cons.mp hx with rfl | hx
    · simp [decodeAll, hf]
    · simp [decodeAll, ih hx]

theorem cabOfFields_codes (p : LivePeriod) (modes : Vector NoticeMode 30) :
    cabOfFields p.code (modes.toList.map NoticeMode.code) = some ⟨p, modes⟩ := by
  unfold cabOfFields
  rw [LivePeriod.ofCode_code, decodeAll_map NoticeMode.ofCode_code]
  exact dif_pos (by simp)

theorem cabOfFields_none {n : Nat} {ms : List Nat} (h : 5 ≤ n ∨ ∃ x ∈ ms, 3 ≤ x) : cabOfFields n ms = none := by
  unfold cabOfFields
  rcases h with h | ⟨x, hx, h⟩
  · rw [LivePeriod.ofCode_none h]
  · rw [decodeAll_none ⟨x, hx, NoticeMode.ofCode_none h⟩]
    cases LivePeriod.ofCode n <;> rfl

/-- Settles O52. -/
theorem conditionRequestsActOnTheLatches : Obligations.ConditionRequestsActOnTheLatches := by
  refine ⟨fun s hs => ⟨fun mask hm => ?_, fun mask hm => ?_, ?_⟩, fun p modes s hs => ⟨?_, fun n ms hl hx => ?_,
    fun n ms hl => ?_⟩⟩
  · obtain ⟨data, t, he, ht, hq⟩ := exec_clearConditions hs hm
    have hbit (d : Condition) : (mask.truncate 30).getLsbD d.index.val = mask.getLsbD d.index.val := by simp
    refine ⟨t, he, ?_, hq, fun v f hv => ?_, fun v hv => ?_, fun d hd => ?_, fun d => ?_⟩
    all_goals rw [ht]
    · rfl
    · rw [clearConditions_section, clearConditions_coilFault]
      exact ⟨SectionState.reenable_disabled hv, if_pos (by simp [SectionState.isDisabled, hv])⟩
    · rw [clearConditions_section, clearConditions_coilFault]
      exact ⟨SectionState.reenable_enabled hv, if_neg (by simp [SectionState.isDisabled, hv])⟩
    · exact clearConditions_isLive _ _ d hd
    · rw [clearConditions_isLatched, hbit]
      rfl
  · exact refusedWith_of hs (congrArg _ (if_neg (Nat.not_lt.mpr hm)))
  · refine congrArg Host.Outcome.next (answer_short hs ?_)
    simp [readConditionsData, conditionMasks]
  · refine congrArg Host.Outcome.next ?_
    rw [if_neg (by simp), cabOfFields_codes]
    exact answer_ok hs
  · refine refusedWith_of hs (congrArg Host.Outcome.next ((if_neg (by simp [hl])).trans ?_))
    rw [cabOfFields_none hx]
  · exact refusedWith_of hs (congrArg _ (if_pos hl))

end Sys2Proof.Machine
end

section
/-! PROOF. The read requests: each reply's bytes, and that they find room in 16 parts. -/

namespace Sys2Proof.Machine

variable {s t u a : State}

/-! ## Lengths of the replies -/

theorem opt_length_le {α : Type} (f : α → List Byte) (n : Nat) (o : Option α) (h : ∀ x, (f x).length ≤ n) :
    (opt f o).length ≤ n + 1 := by
  cases o with
  | none => exact Nat.le_add_left 1 n
  | some x => exact Nat.add_le_add_right (h x) 1

theorem readChannelData_length (s : State) (c : Channel) : (readChannelData s c).length ≤ 960 := by
  have h1 := opt_length_le (fun r : RawCode => u16 r.val) 2 (s.iau.channels.get c).raw fun _ => Nat.le_refl 2
  have h2 := opt_length_le i16 2 (s.iau.channels.get c).value fun _ => Nat.le_refl 2
  have h3 := opt_length_le (fun r : RawCode => u16 r.val) 2 (s.iau.channels.get c).lastGood fun _ => Nat.le_refl 2
  simp only [readChannelData, ChannelSettings.bytes, List.length_append, u8_length, u16_length, i16_length, flag_length]
  omega

theorem lineBytes_length (l : Line) (x : LineState) : (lineBytes l x).length ≤ 20 := by
  have h1 := opt_length_le (fun x : Level => u8 x.code) 1 x.sampled fun _ => Nat.le_refl 1
  have h2 := opt_length_le (fun x : Level => u8 x.code) 1 x.debounced fun _ => Nat.le_refl 1
  simp only [lineBytes, List.length_append, u8_length, flag_length]
  split <;> simp only [flag_length, List.length_nil] <;> omega

theorem readGeometryData_length (s : State) : (readGeometryData s).length ≤ 960 := by
  have h1 := opt_length_le u16 2 (s.geo.position.map Position.slew) fun _ => Nat.le_refl 2
  have h2 := opt_length_le u16 2 (s.geo.position.map Position.reach) fun _ => Nat.le_refl 2
  have h3 := opt_length_le i16 2 (s.geo.position.map Position.height) fun _ => Nat.le_refl 2
  have h4 := opt_length_le u16 2 (s.geo.position.map Position.extension) fun _ => Nat.le_refl 2
  have h5 := opt_length_le i16 2 (s.geo.position.map Position.direction) fun _ => Nat.le_refl 2
  have h6 := opt_length_le i16 2 s.geo.tau fun _ => Nat.le_refl 2
  have h7 := opt_length_le u16 2 s.geo.tilt fun _ => Nat.le_refl 2
  have h8 := opt_length_le (fun c : ZoneCandidate => u8 c.zone.code ++ u8 c.count) 2 s.geo.candidate
    fun _ => Nat.le_refl 2
  simp only [readGeometryData, GeometrySettings.bytes, ZoneSettings.bytes, List.length_append, u8_length, u16_length,
    flag_length]
  omega

theorem Window.bytes_length (w : Window) : w.bytes.length ≤ 13 := by
  have h1 := opt_length_le i32 4 w.low fun _ => Nat.le_refl 4
  have h2 := opt_length_le i32 4 w.high fun _ => Nat.le_refl 4
  simp only [Window.bytes, List.length_append, u8_length]
  omega

theorem Capture.bytes_length (c : Capture) : c.bytes.length ≤ 4 := by
  have h := opt_length_le (fun b : Fin 8 => u8 b.val) 1 c.band fun _ => Nat.le_refl 1
  simp only [Capture.bytes, List.length_append, u8_length]
  omega

theorem Calibration.bytes_length (c : Calibration) : c.bytes.length = 79 := by
  have h : (c.bands.toList.flatMap Band.bytes).length = 64 := by
    simp [List.length_flatMap, Band.bytes, i32_length]
  simp only [Calibration.bytes, List.length_append, h, u16_length, i16_length, i8_length, flag_length]

theorem readWeighData_length (s : State) : (readWeighData s).length ≤ 960 := by
  have h1 := opt_length_le (fun x : Source => u8 x.code) 1 s.wen.liftSource fun _ => Nat.le_refl 1
  have h2 := opt_length_le i32 4 s.wen.liveEstimate fun _ => Nat.le_refl 4
  have h3 := opt_length_le i8 1 s.wen.latestTemperature fun _ => Nat.le_refl 1
  have h4 := opt_length_le (fun e : Window => u8 e.count) 1 s.wen.emptyWindow fun _ => Nat.le_refl 1
  have h5 := opt_length_le Capture.bytes 4 s.wen.capture Capture.bytes_length
  have h6 := opt_length_le Window.bytes 13 s.wen.liftWindow Window.bytes_length
  simp only [readWeighData, WeighSettings.bytes, List.length_append, Calibration.bytes_length, u8_length, u16_length,
    u32_length, i16_length, flag_length]
  omega

theorem readLiftData_length (l : Ltr) : (readLiftData l).length ≤ 960 := by
  have stamp (o : Option Stamp) := opt_length_le stampBytes 6 o fun _ => Nat.le_refl 6
  have h1 := stamp l.gripTime
  have h2 := stamp l.liftOffTime
  have h3 := opt_length_le (fun z : Zone => u8 z.code) 1 l.fromZone fun _ => Nat.le_refl 1
  have h4 := opt_length_le (fun x : Source => u8 x.code) 1 l.source fun _ => Nat.le_refl 1
  have h5 := opt_length_le LiftResult.bytes 8 l.result fun _ => Nat.le_refl 8
  have h6 := stamp l.gripStart
  have h7 := stamp l.releaseStart
  have h8 := stamp l.liftOffStart
  have h9 := stamp l.dropStart
  simp only [readLiftData, qualificationBytes, LiftSettings.bytes, List.length_append, u8_length, u16_length, u32_length,
    flag_length]
  omega

theorem readLoadData_length (s : State) : (readLoadData s).length ≤ 960 := by
  have h : (loadBytes s.tal.load).length ≤ 20 := by
    cases s.tal.load <;> simp [loadBytes]
  simp only [readLoadData, Target.bytes, List.length_append, u8_length, u16_length, u32_length, flag_length]
  omega

theorem summaryBytes_length (n : Nat) (x : Summary) (m : Nat) : (summaryBytes n x m).length ≤ 960 := by
  have h : (((x.pairs.drop m).take 6).flatMap SummaryPair.bytes).length ≤ 30 := by
    have hl := List.length_take_le 6 (x.pairs.drop m)
    have hb : ∀ p, (SummaryPair.bytes p).length = 5 := fun p => by simp [SummaryPair.bytes]
    simp only [List.length_flatMap, hb, List.map_const', List.sum_replicate_nat]
    omega
  simp only [summaryBytes, List.length_append, u8_length, u16_length, u32_length, flag_length, stampBytes_length]
  omega

theorem readLimiterData_length (s : State) : (readLimiterData s).length ≤ 960 := by
  have h1 := opt_length_le i16 2 s.mlm.figures.tau fun _ => Nat.le_refl 2
  have h2 := opt_length_le u16 2 s.mlm.figures.tilt fun _ => Nat.le_refl 2
  have h3 : (s.mlm.factors.toList.flatMap FactorPair.bytes).length = 24 := by simp [PerSection.toList, FactorPair.bytes]
  unfold readLimiterData
  simp only [List.length_append]
  rw [h3]
  simp only [u8_length, u16_length, flag_length]
  simp only [u32_length, i32_length]
  omega

theorem readStoreData_length (t : Sto) : (readStoreData t).length ≤ 960 := by
  have h1 := opt_length_le (fun w : StoreWrite => u8 w.kind.code ++ u8 w.record.code) 2 t.write fun _ => Nat.le_refl 2
  have h2 : (t.working.caps.toList.flatMap u16).length = 12 := rfl
  simp only [readStoreData, Profile.bytes, List.length_append, h2, u8_length, u16_length, u32_length]
  omega

/-! ## The replies -/

/-- A read whose data fits in 16 parts. -/
theorem reads_of {i : Instr} {k : Byte} {data bytes : List Byte} (hs : s.serves 16)
    (he : exec i s = .next (answer k .ok data id s)) (hl : data.length ≤ 960) (hd : data = bytes) :
    exec i s = .next (s.replied k .ok bytes) := by
  rw [he, ← hd]
  exact congrArg _ (answer_parts (n := 15) hs hl)

theorem exec_readAssortment (i : Fin 16) (s : State) : exec (.readAssortment i.val) s = .next (answer 0x2F .ok
    (u8 i.val ++ u8 s.tal.labels[i].length ++ s.tal.labels[i] ++ flag (s.tal.selected == i) ++ u16 (s.tal.figuresOf i).mass
      ++ u16 (s.tal.figuresOf i).lifts ++ u16 (s.tal.figuresOf i).unweighed) id s) :=
  congrArg _ (dif_pos i.isLt)

theorem exec_readLoadHistory {n m : Nat} (hn : n ≤ 7) (hm : m ≤ 15) (s : State) : exec (.readLoadHistory n m) s
    = .next (match s.tal.history[n]? with
      | none => refuse 0x30 .state s
      | some x => answer 0x30 .ok (summaryBytes s.tal.history.length x m) id s) := by
  refine congrArg _ ((if_pos (by simp [hn, hm])).trans ?_)
  cases s.tal.history[n]? <;> rfl

/-- Settles O54: each reply's bytes are the model's, which fit in 16 parts. -/
theorem readsChangeNothing : Obligations.ReadsChangeNothing := by
  refine ⟨Config.revisionLessOne.val + 1, Config.serialLessOne.val + 1, by omega, by omega, by omega, by omega,
    fun s hs => ?_⟩
  have h1 : s.serves 1 := hs.mono (by decide)
  refine ⟨fun c => ?_, fun n hn => ?_, ?_, ?_, ?_, ?_, ?_, ?_, fun hl i => ?_, fun n hn => ?_, fun n m x hn hm hx => ?_,
    fun n m hn hm hl => ?_, fun n m h => ?_, ?_, ?_, fun v => ?_, fun n hn => ?_, ?_, ?_, ?_⟩
  · have he : exec (.readChannel c.code) s = .next (answer 0x02 .ok (readChannelData s c) id s) := by
      show execReadChannel c.code s = _
      unfold execReadChannel
      rw [Channel.ofCode_code]
    exact reads_of hs he (readChannelData_length s c) (by simp [readChannelData, ChannelSettings.bytes])
  · refine refusedWith_of h1 (congrArg Host.Outcome.next ?_)
    rw [Channel.ofCode_none hn]
  · refine reads_of hs rfl ?_ ?_
    · have := lineBytes_length .dl0 s.iau.lines.dl0
      have := lineBytes_length .dl1 s.iau.lines.dl1
      have := lineBytes_length .dl2 s.iau.lines.dl2
      have := lineBytes_length .dl3 s.iau.lines.dl3
      simp only [PerLine.map, PerLine.toList, List.flatten_cons, List.flatten_nil, List.length_append, List.length_nil]
      omega
    · simp [PerLine.map, PerLine.toList, lineBytes, LineState.switchState, PerLine.get]
  · refine reads_of hs rfl ?_ ?_
    · have h := opt_length_le lastSampleBytes 7 s.tlc.lastSample fun _ => Nat.le_refl 7
      simp only [List.length_append, u8_length, u16_length, flag_length]
      omega
    · rfl
  · exact reads_of hs rfl (readGeometryData_length s) (by
      simp [readGeometryData, GeometrySettings.bytes, ZoneSettings.bytes])
  · exact reads_of hs rfl (readWeighData_length s) (by
      simp [readWeighData, Calibration.bytes, WeighSettings.bytes, onOffCode]
      rfl)
  · exact reads_of hs rfl (readLiftData_length s.ltr) (by
      have h1 : s.ltr.state.releaseRuns = (s.ltr.state != .idle) := by cases s.ltr.state <;> rfl
      have h2 : s.ltr.state.inLift = (s.ltr.state == .lifted || s.ltr.state == .weighed) := by
        cases s.ltr.state <;> rfl
      simp [readLiftData, qualificationBytes, LiftSettings.bytes, h1, h2]
      rfl)
  · exact reads_of hs rfl (readLoadData_length s) (by
      cases h : s.tal.load <;> simp [readLoadData, loadBytes, h, Target.bytes, onOffCode, Tal.holdActive])
  · refine reads_of hs (exec_readAssortment i s) ?_ rfl
    have := hl.2.1 i
    simp only [Label.accepted, Bool.and_eq_true, decide_eq_true_eq] at this
    simp only [List.length_append, u8_length, u16_length, flag_length]
    omega
  · exact refusedWith_of h1 (congrArg _ (dif_neg (Nat.not_lt.mpr hn)))
  · have he := exec_readLoadHistory hn hm s
    rw [hx] at he
    exact reads_of hs he (summaryBytes_length _ _ _) rfl
  · have he := exec_readLoadHistory hn hm s
    rw [List.getElem?_eq_none hl] at he
    exact refusedWith_of h1 he
  · refine refusedWith_of h1 (congrArg _ (if_neg ?_))
    simp only [Bool.and_eq_true, decide_eq_true_eq]
    omega
  · refine reads_of hs rfl ?_ ?_
    · have h := opt_length_le (fun e : Entry => u32 e.sequence.toNat) 4 s.log.ring.head? fun _ => Nat.le_refl 4
      simp only [Enables.bytes, List.length_append, u8_length, u32_length]
      omega
    · simp [Enables.bytes, onOffCode]
  · exact reads_of hs rfl (readLimiterData_length s) rfl
  · have he : exec (.readSection v.code) s = .next (answer 0x4A .ok (readSectionData s v) id s) := by
      show execReadSection v.code s = _
      unfold execReadSection
      rw [Section.ofCode_code]
    exact reads_of hs he (by simp [readSectionData, FactorPair.bytes, CoilPair.u16s, CoilPair.u8s, SectionSettings.bytes])
      (by simp [readSectionData, FactorPair.bytes, CoilPair.u16s, CoilPair.u8s, SectionSettings.bytes])
  · refine refusedWith_of h1 (congrArg Host.Outcome.next ?_)
    rw [Section.ofCode_none hn]
  · exact reads_of hs rfl (by decide) (by decide)
  · exact reads_of hs rfl (by simp [identifyData, vendorName, partName]) rfl
  · exact reads_of hs rfl (readStoreData_length s.sto) (by simp [readStoreData, Profile.bytes, fallbackCode])

end Sys2Proof.Machine
end

section
/-! PROOF. The transmit queue and the LIVE notice, and the frames of the tip unit. -/

namespace Sys2Proof.Machine

variable {s t u a : State}

/-! ## LIVE in the queue (R195, R199) -/

theorem not_any_isLive {q : List TxFrame} (h : q.all (fun f => !f.isLive) = true) : ¬q.any TxFrame.isLive = true := by
  rw [List.any_eq_true]
  rintro ⟨f, hf, hl⟩
  have := List.all_eq_true.mp h f hf
  simp [hl] at this

theorem map_of_not_isLive {q : List TxFrame} (h : q.all (fun f => !f.isLive) = true) (n : TxFrame) :
    q.map (fun f => if f.isLive then n else f) = q := by
  refine (List.map_congr_left fun f hf => ?_).trans (List.map_id q)
  have := List.all_eq_true.mp h f hf
  simp only [Bool.not_eq_true'] at this
  simp [this]

/-- A LIVE notice takes the place of the one that waits. -/
theorem Clp.send_live_replaces {c : Clp} {a b : List TxFrame} {r r' : LiveReport}
    (hq : c.queue = a ++ .notice (.live r) :: b) (ha : a.all (fun f => !f.isLive) = true)
    (hb : b.all (fun f => !f.isLive) = true) :
    c.send (.live r') = { c with queue := a ++ .notice (.live r') :: b } := by
  have hany : c.queue.any TxFrame.isLive = true := by
    rw [hq, List.any_eq_true]
    exact ⟨_, List.mem_append_right a List.mem_cons_self, rfl⟩
  unfold Clp.send
  rw [if_pos (by rw [hany]; rfl), hq, List.map_append, List.map_cons, map_of_not_isLive ha, map_of_not_isLive hb]
  rfl

/-- With no LIVE waiting it joins the end, or is lost behind 32 frames. -/
theorem Clp.send_live_joins {c : Clp} (r : LiveReport) (h : c.queue.all (fun f => !f.isLive) = true) : c.send (.live r)
    = if 32 ≤ c.queue.length then c.lose else { c with queue := c.queue ++ [.notice (.live r)] } := by
  unfold Clp.send
  rw [if_neg (by rw [Bool.and_eq_true]; exact fun x => not_any_isLive h x.2)]

theorem liveReport_bytes (r : LiveReport) : r.bytes
    = u8 ((if r.liveEstimate.isSome then 1 else 0) + (if r.reach.isSome then 2 else 0) + if r.tau.isSome then 4 else 0)
      ++ i32 (r.liveEstimate.getD 0)
      ++ u8 (match r.source with | .none => 0 | .tip => 1 | .cylinder => 2)
      ++ u8 (match r.liftState with | .idle => 0 | .gripped => 1 | .lifted => 2 | .weighed => 3)
      ++ u8 (match r.zone with | .cab => 0 | .bunk => 1 | .ground => 2 | .unknown => 3)
      ++ u16 (r.reach.getD 0) ++ i16 (r.tau.getD 0) ++ u16 r.utilisation
      ++ u8 (match r.stage with | .free => 0 | .derate => 1 | .hold => 2)
      ++ u8 r.selected.val ++ u24 r.total := by
  have h0 (b : Bool) : flagBit 0 b = if b then 1 else 0 := rfl
  have h1 (b : Bool) : flagBit 1 b = if b then 2 else 0 := rfl
  have h2 (b : Bool) : flagBit 2 b = if b then 4 else 0 := rfl
  unfold LiveReport.bytes
  rw [h0, h1, h2]
  rfl

/-- Settles O8. -/
theorem queueIsFirstInFirstOut : Obligations.QueueIsFirstInFirstOut := by
  refine ⟨fun s hp => ⟨fun f rest hq => ?_, fun hq => ?_, fun ht => ?_, fun ht => ?_⟩, fun c n hn => ⟨fun h => ?_,
    fun h => ?_⟩, fun r => ⟨rfl, ?_, ?_⟩⟩
  · exact congrArg Host.Outcome.next ((whenPowered_eq hp).trans (by rw [hq]; rfl))
  · have hd : s.clp.queue.drop 1 = s.clp.queue := by
      rw [hq]
      rfl
    refine congrArg Host.Outcome.next ((whenPowered_eq hp).trans ?_)
    dsimp only
    rw [hd]
  · intro report
    let c : Clp := { s.clp with liveTimer := s.clp.settings.period.timer }
    have he : exec .liveReportTimerExpiry s = .next { s with clp := c.send (.live report) } :=
      congrArg Host.Outcome.next ((whenPowered_eq hp).trans (if_pos ht))
    refine ⟨_, he, ?_, fun x r y hq hx hy => ?_, fun hq hl => ?_, fun hq hl => ?_⟩
    · have hc : c.send (.live report) = { c with
          queue := (c.send (.live report)).queue, lost := (c.send (.live report)).lost } := by
        unfold Clp.send Clp.lose
        split
        · rfl
        · split <;> rfl
      exact congrArg (fun x => { s with clp := x }) hc
    · show (c.send _).queue = _ ∧ (c.send _).lost = _
      rw [Clp.send_live_replaces (c := c) hq hx hy]
      exact ⟨rfl, rfl⟩
    · show (c.send _).queue = _ ∧ (c.send _).lost = _
      rw [Clp.send_live_joins (c := c) report hq, if_neg (Nat.not_le.mpr hl)]
      exact ⟨rfl, rfl⟩
    · show (c.send _).queue = _ ∧ (c.send _).lost = _
      rw [Clp.send_live_joins (c := c) report hq, if_pos hl]
      exact ⟨rfl, rfl⟩
  · exact congrArg Host.Outcome.next ((whenPowered_eq hp).trans (if_neg (by rw [ht]; nofun)))
  · exact Clp.send_of_short (notice_isLive hn) h
  · exact Clp.send_of_long (notice_isLive hn) h
  · rfl
  · exact liveReport_bytes r

/-! ## The frames of the tip unit (R19, R203) -/

/-- The sum of bytes of R19 is their sum modulo 256. -/
theorem byteSum_eq_sum (bs : List Byte) : byteSum bs = bs.sum := by
  have h (c : Byte) : bs.foldl (· + ·) c = c + bs.sum := by
    induction bs generalizing c with
    | nil => simp
    | cons b bs ih => rw [List.foldl_cons, ih, List.sum_cons, add_assoc]
  exact (h 0).trans (zero_add _)

/-- A frame ends with the byte that brings its sum to 0. -/
theorem byteSum_bytes (f : TipFrame) : byteSum f.bytes = 0 := by
  unfold TipFrame.bytes checkByte
  rw [byteSum_eq_sum, byteSum_eq_sum, List.sum_append, List.sum_singleton]
  ring

theorem tipIntact_bytes (f : TipFrame) : tipIntact f.bytes = true := by
  have h := byteSum_bytes f
  cases f with
  | _ => simpa [tipIntact, TipFrame.bytes, TipFrame.body, tipLength, u16] using h

/-- One changed byte changes the sum. -/
theorem byteSum_changed {a b : List Byte} {x y : Byte} (h : byteSum (a ++ x :: b) = 0) (hxy : x ≠ y) :
    byteSum (a ++ y :: b) ≠ 0 := by
  intro h'
  rw [byteSum_eq_sum, List.sum_append, List.sum_cons] at h h'
  refine hxy ?_
  have : x + b.sum = y + b.sum := add_left_cancel (h.trans h'.symm)
  exact add_right_cancel this

theorem tipIntact_of_sum {bs : List Byte} (h : byteSum bs ≠ 0) : tipIntact bs = false := by
  cases bs with
  | nil => rfl
  | cons k bs =>
    unfold tipIntact
    dsimp only
    rw [beq_false_of_ne h, Bool.and_false]

/-- The two bytes of a number are the number. -/
theorem u16_bytes (c : BitVec 16) : (BitVec.ofNat 8 (c.toNat / 256) ++ BitVec.ofNat 8 c.toNat : BitVec 16) = c := by
  apply BitVec.eq_of_toNat_eq
  rw [BitVec.toNat_append]
  have := c.isLt
  simp only [BitVec.toNat_ofNat]
  rw [Nat.shiftLeft_eq, Nat.mul_comm, ← Nat.two_pow_add_eq_or_of_lt (Nat.mod_lt _ (by decide))]
  omega

/-- Settles O9. -/
theorem tipFramesStandForTheirCommands : Obligations.TipFramesStandForTheirCommands := by
  refine ⟨if_pos (tipIntact_bytes .hail), if_pos (tipIntact_bytes .hailReply),
    fun r n => if_pos (tipIntact_bytes (.probeEcho r n)), fun q c a t x => ?_, fun r n => if_pos (tipIntact_bytes (.probe r n)),
    fun r => if_pos (tipIntact_bytes (.go r)), fun bs h => if_neg (by simp [h]), fun f a b x y hf hxy => ?_⟩
  · refine (if_pos (tipIntact_bytes (.data q c a t x))).trans ?_
    show some (Instr.dataFrame q (_ ++ _) (_ ++ _) t x) = _
    rw [u16_bytes, u16_bytes]
  · exact tipIntact_of_sum (byteSum_changed (hf ▸ byteSum_bytes f) hxy)

end Sys2Proof.Machine
end

section
/-! PROOF. Requests read back from their frames (R194, R202, R203). -/

namespace Sys2Proof.Machine

/-! ## Numbers read back -/

theorem byte_read {n : Nat} (h : fits8 n = true) : (BitVec.ofNat 8 n).toNat = n := by
  simp only [fits8, decide_eq_true_eq] at h
  rw [BitVec.toNat_ofNat]
  omega

theorem word_read {n : Nat} (h : fits16 n = true) :
    (BitVec.ofNat 8 (n / 256)).toNat * 256 + (BitVec.ofNat 8 n).toNat = n := by
  simp only [fits16, decide_eq_true_eq] at h
  rw [BitVec.toNat_ofNat, BitVec.toNat_ofNat]
  omega

theorem long_read {n : Nat} (h : fits32 n = true) :
    ((BitVec.ofNat 8 (n / 16777216)).toNat * 256 + (BitVec.ofNat 8 (n / 65536)).toNat) * 65536
      + ((BitVec.ofNat 8 (n / 256)).toNat * 256 + (BitVec.ofNat 8 n).toNat) = n := by
  simp only [fits32, decide_eq_true_eq] at h
  rw [BitVec.toNat_ofNat, BitVec.toNat_ofNat, BitVec.toNat_ofNat, BitVec.toNat_ofNat]
  omega

theorem fits16_emod (x : Int) : fits16 (x % 65536).toNat = true := by
  simp only [fits16, decide_eq_true_eq]
  omega

/-- A two-byte signed number read back (R1). -/
theorem signedWord_read {x : Int} (h : fitsI16 x = true) {p : List Byte} {i : Nat}
    (hp : u16At p i = (x % 65536).toNat) : i16At p i = x := by
  simp only [fitsI16, Int.inRange, Bool.and_eq_true, decide_eq_true_eq] at h
  unfold i16At
  rw [hp]
  dsimp only
  split <;> omega

theorem signedByte_read {x : Int} (h : fitsI8 x = true) {p : List Byte} {i : Nat}
    (hp : byteAt p i = (x % 256).toNat) : i8At p i = x := by
  simp only [fitsI8, Int.inRange, Bool.and_eq_true, decide_eq_true_eq] at h
  unfold i8At
  rw [hp]
  dsimp only
  split <;> omega

theorem num16_read {signed : Bool} {x : Int} (h : fitsNum16 signed x = true) {p : List Byte} {i : Nat}
    (hp : u16At p i = (x % 65536).toNat) : num16At signed p i = x := by
  cases signed with
  | true => exact signedWord_read h hp
  | false =>
    simp only [fitsNum16, Int.inRange, Bool.false_eq_true, if_false, Bool.and_eq_true, decide_eq_true_eq] at h
    show (u16At p i : Int) = x
    rw [hp]
    omega

/-! ## Records read back -/

theorem channelSettings_read {signed : Bool} {t : ChannelSettings} (c : Nat) (h : t.wellFormed signed = true) :
    channelSettingsAt signed (u8 c ++ ChannelSettings.payload t) 1 = t := by
  obtain ⟨a, b, d, e, f, g⟩ := t
  simp only [ChannelSettings.wellFormed, Bool.and_eq_true] at h
  obtain ⟨⟨⟨⟨⟨ha, hb⟩, hd⟩, he⟩, hf⟩, hg⟩ := h
  show ChannelSettings.mk _ _ _ _ _ _ = _
  congr 1
  · exact word_read ha
  · exact num16_read hb (word_read (fits16_emod b))
  · exact word_read hd
  · exact num16_read he (word_read (fits16_emod e))
  · exact word_read hf
  · exact word_read hg

theorem fits8_emod (x : Int) : fits8 (x % 256).toNat = true := by
  simp only [fits8, decide_eq_true_eq]
  omega

theorem geometrySettings_read {t : GeometrySettings} (h : t.wellFormed = true) :
    geometrySettingsOf (u16 t.l1 ++ u16 t.l2 ++ u16 t.h0 ++ u16 t.eMax) = t := by
  obtain ⟨a, b, c, d⟩ := t
  simp only [GeometrySettings.wellFormed, Bool.and_eq_true] at h
  obtain ⟨⟨⟨ha, hb⟩, hc⟩, hd⟩ := h
  show GeometrySettings.mk _ _ _ _ = _
  congr 1
  · exact word_read ha
  · exact word_read hb
  · exact word_read hc
  · exact word_read hd

theorem zoneSettings_read {t : ZoneSettings} (h : t.wellFormed = true) :
    zoneSettingsOf (u16 t.bunkFrom ++ u16 t.bunkTo ++ u16 t.bunkMin ++ u16 t.bunkMax ++ u16 t.cabFrom ++ u16 t.cabTo ++ u16 t.cabRadius) = t := by
  obtain ⟨a, b, c, d, e, f, g⟩ := t
  simp only [ZoneSettings.wellFormed, Bool.and_eq_true] at h
  obtain ⟨⟨⟨⟨⟨⟨ha, hb⟩, hc⟩, hd⟩, he⟩, hf⟩, hg⟩ := h
  show ZoneSettings.mk _ _ _ _ _ _ _ = _
  congr 1
  · exact word_read ha
  · exact word_read hb
  · exact word_read hc
  · exact word_read hd
  · exact word_read he
  · exact word_read hf
  · exact word_read hg

theorem weighFields_read {t : WeighFields} (h : t.wellFormed = true) :
    weighFieldsOf (u16 t.swing ++ u16 t.jitter ++ u8 t.windowSize ++ u16 t.spread ++ u8 t.minLift ++ u16 t.period ++ u8 t.autoZero ++ u16 t.tracking) = t := by
  obtain ⟨a, b, c, d, e, f, g, i⟩ := t
  simp only [WeighFields.wellFormed, Bool.and_eq_true] at h
  obtain ⟨⟨⟨⟨⟨⟨⟨ha, hb⟩, hc⟩, hd⟩, he⟩, hf⟩, hg⟩, hi⟩ := h
  show WeighFields.mk _ _ _ _ _ _ _ _ = _
  congr 1
  · exact word_read ha
  · exact word_read hb
  · exact byte_read hc
  · exact word_read hd
  · exact byte_read he
  · exact word_read hf
  · exact byte_read hg
  · exact word_read hi

theorem calibrationFields_read {t : CalibrationFields} (h : t.wellFormed = true) :
    calibrationFieldsOf (u16 t.tare ++ i16 t.kt ++ i8 t.tref ++ u16 t.areaHead ++ u16 t.areaRod) = t := by
  obtain ⟨a, b, c, d, e⟩ := t
  simp only [CalibrationFields.wellFormed, Bool.and_eq_true] at h
  obtain ⟨⟨⟨⟨ha, hb⟩, hc⟩, hd⟩, he⟩ := h
  show CalibrationFields.mk _ _ _ _ _ = _
  congr 1
  · exact word_read ha
  · exact signedWord_read hb (word_read (fits16_emod b))
  · exact signedByte_read hc (byte_read (fits8_emod c))
  · exact word_read hd
  · exact word_read he

theorem liftSettings_read {t : LiftSettings} (h : t.wellFormed = true) :
    liftSettingsOf (u16 t.gripThreshold ++ u16 t.releaseThreshold ++ u16 t.gripTime ++ u16 t.releaseTime ++ u16 t.liftOffThreshold ++ u16 t.dropThreshold ++ u16 t.liftOffTime ++ u16 t.dropTime) = t := by
  obtain ⟨a, b, c, d, e, f, g, i⟩ := t
  simp only [LiftSettings.wellFormed, Bool.and_eq_true] at h
  obtain ⟨⟨⟨⟨⟨⟨⟨ha, hb⟩, hc⟩, hd⟩, he⟩, hf⟩, hg⟩, hi⟩ := h
  show LiftSettings.mk _ _ _ _ _ _ _ _ = _
  congr 1
  · exact word_read ha
  · exact word_read hb
  · exact word_read hc
  · exact word_read hd
  · exact word_read he
  · exact word_read hf
  · exact word_read hg
  · exact word_read hi

theorem targetFields_read {t : TargetFields} (h : t.wellFormed = true) :
    targetFieldsOf (u8 t.totalEnable ++ u8 t.liftsEnable ++ u8 t.assortmentEnable ++ u32 t.total ++ u16 t.lifts ++ u8 t.index ++ u16 t.mass) = t := by
  obtain ⟨a, b, c, d, e, f, g⟩ := t
  simp only [TargetFields.wellFormed, Bool.and_eq_true] at h
  obtain ⟨⟨⟨⟨⟨⟨ha, hb⟩, hc⟩, hd⟩, he⟩, hf⟩, hg⟩ := h
  show TargetFields.mk _ _ _ _ _ _ _ = _
  congr 1
  · exact byte_read ha
  · exact byte_read hb
  · exact byte_read hc
  · exact long_read hd
  · exact word_read he
  · exact byte_read hf
  · exact word_read hg

theorem enableFields_read {t : EnableFields} (h : t.wellFormed = true) :
    enableFieldsOf (u8 t.tallied ++ u8 t.untallied ++ u8 t.dropped ++ u8 t.mark ++ u8 t.system) = t := by
  obtain ⟨a, b, c, d, e⟩ := t
  simp only [EnableFields.wellFormed, Bool.and_eq_true] at h
  obtain ⟨⟨⟨⟨ha, hb⟩, hc⟩, hd⟩, he⟩ := h
  show EnableFields.mk _ _ _ _ _ = _
  congr 1
  · exact byte_read ha
  · exact byte_read hb
  · exact byte_read hc
  · exact byte_read hd
  · exact byte_read he

theorem sectionSettings_read {t : SectionSettings} (v : Nat) (h : t.wellFormed = true) :
    sectionSettingsAt (u8 v ++ u16 t.iMin ++ u16 t.iMax ++ u8 t.deadband ++ u16 t.up ++ u16 t.down) 1 = t := by
  obtain ⟨a, b, c, d, e⟩ := t
  simp only [SectionSettings.wellFormed, Bool.and_eq_true] at h
  obtain ⟨⟨⟨⟨ha, hb⟩, hc⟩, hd⟩, he⟩ := h
  show SectionSettings.mk _ _ _ _ _ = _
  congr 1
  · exact word_read ha
  · exact word_read hb
  · exact byte_read hc
  · exact word_read hd
  · exact word_read he

theorem profileFields_read {f : ProfileFields} (m : Nat) (h : f.wellFormed = true) :
    profileFieldsAt (u16 m ++ ProfileFields.payload f) 2 = f := by
  obtain ⟨base, tilt, fallback, payload, ⟨c0, c1, c2, c3, c4, c5⟩⟩ := f
  simp only [ProfileFields.wellFormed, PerSection.toList, List.all_cons, List.all_nil, Bool.and_eq_true] at h
  obtain ⟨⟨⟨⟨hb, ht⟩, hf⟩, hp⟩, h0, h1, h2, h3, h4, h5, -⟩ := h
  show ProfileFields.mk _ _ _ _ (PerSection.mk _ _ _ _ _ _) = _
  congr 1
  · exact word_read hb
  · exact word_read ht
  · exact byte_read hf
  · exact long_read hp
  · congr 1
    · exact word_read h0
    · exact word_read h1
    · exact word_read h2
    · exact word_read h3
    · exact word_read h4
    · exact word_read h5

theorem demands_read {d : List Int} (hl : d.length = 6) (h : d.all fitsI16 = true) :
    demandsAt (d.flatMap i16) = d := by
  obtain ⟨a, b, c, e, f, g, rfl⟩ : ∃ a b c e f g, d = [a, b, c, e, f, g] := by
    match d, hl with
    | [a, b, c, e, f, g], _ => exact ⟨a, b, c, e, f, g, rfl⟩
  simp only [List.all_cons, List.all_nil, Bool.and_eq_true] at h
  obtain ⟨ha, hb, hc, he, hf, hg, -⟩ := h
  have word {x : Int} (hx : fitsI16 x = true) {p : List Byte} {i : Nat}
      (hp : u16At p i = (BitVec.ofNat 8 ((x % 65536).toNat / 256)).toNat * 256
        + (BitVec.ofNat 8 (x % 65536).toNat).toNat) : i16At p i = x :=
    signedWord_read hx (hp.trans (word_read (fits16_emod x)))
  exact congrArg₂ List.cons (word ha rfl) (congrArg₂ List.cons (word hb rfl)
    (congrArg₂ List.cons (word hc rfl) (congrArg₂ List.cons (word he rfl)
      (congrArg₂ List.cons (word hf rfl) (congrArg₂ List.cons (word hg rfl) rfl)))))

theorem codes_read {codes : List Nat} (h : codes.all fits8 = true) : bytesAt (codes.flatMap u8) = codes := by
  induction codes with
  | nil => rfl
  | cons n codes ih =>
    simp only [List.all_cons, Bool.and_eq_true] at h
    exact congrArg₂ List.cons (byte_read h.1) (ih h.2)

theorem long_of_bits (t : BitVec 32) {p : List Byte} {i : Nat}
    (hp : u32At p i = ((BitVec.ofNat 8 (t.toNat / 16777216)).toNat * 256
      + (BitVec.ofNat 8 (t.toNat / 65536)).toNat) * 65536
        + ((BitVec.ofNat 8 (t.toNat / 256)).toNat * 256 + (BitVec.ofNat 8 t.toNat).toNat)) :
    BitVec.ofNat 32 (u32At p i) = t := by
  rw [hp, long_read (decide_eq_true t.isLt)]
  exact BitVec.eq_of_toNat_eq (by rw [BitVec.toNat_ofNat, Nat.mod_eq_of_lt t.isLt])

/-! ## Requests read back -/

/-- The frame that carries a request is read back as that request (R194, R202). -/
def Instr.ReadBack (i : Instr) : Prop :=
  ∀ (k : Byte) (p : List Byte), encodeRequest i = some (k, p) → decodeRequest k p = .request i

theorem readBack_of_none {i : Instr} (h : encodeRequest i = none) : Instr.ReadBack i := by
  intro k p e
  rw [h] at e
  cases e

theorem readBack_of_form {i : Instr} {kind : Byte} {payload : List Byte} {f : RequestForm}
    (h : encodeRequest i = some (kind, payload)) (hf : requestForm kind.toNat = some f)
    (hs : f.suits payload.length = true) (hr : f.read payload = i) : Instr.ReadBack i := by
  intro k p e
  rw [h] at e
  obtain ⟨rfl, rfl⟩ := Prod.mk.inj (Option.some.inj e)
  simp only [decodeRequest, hf, hs, if_true, hr]

theorem readBack_of_wellFormed : ∀ {i : Instr}, i.wellFormed = true → Instr.ReadBack i
  | .setChannel c t, h => by
    obtain ⟨hc, ht⟩ := Bool.and_eq_true_iff.1 h
    have hi : byteAt (u8 c ++ ChannelSettings.payload t) 0 = c := byte_read hc
    refine readBack_of_form rfl rfl rfl ?_
    show Instr.setChannel (byteAt _ 0) (channelSettingsAt (signedValue (byteAt _ 0)) _ 1) = _
    rw [hi, channelSettings_read c ht]
  | .readChannel c, h => readBack_of_form rfl rfl rfl (congrArg Instr.readChannel (byte_read h))
  | .setLine l m e, h => by
    simp only [Instr.wellFormed, Bool.and_eq_true] at h
    obtain ⟨⟨hl, hm⟩, he⟩ := h
    refine readBack_of_form rfl rfl rfl ?_
    show Instr.setLine _ _ _ = _
    congr 1
    · exact byte_read hl
    · exact byte_read hm
    · exact byte_read he
  | .writeLines m l, h => by
    obtain ⟨hx, hy⟩ := Bool.and_eq_true_iff.1 h
    exact readBack_of_form rfl rfl rfl (congrArg₂ Instr.writeLines (byte_read hx) (byte_read hy))
  | .readLines, _ => readBack_of_form rfl rfl rfl rfl
  | .setTipLink e r, h => by
    obtain ⟨hx, hy⟩ := Bool.and_eq_true_iff.1 h
    exact readBack_of_form rfl rfl rfl (congrArg₂ Instr.setTipLink (byte_read hx) (byte_read hy))
  | .linkRestart, _ => readBack_of_form rfl rfl rfl rfl
  | .readTipLink, _ => readBack_of_form rfl rfl rfl rfl
  | .reportTipErrors, _ => readBack_of_form rfl rfl rfl rfl
  | .setGeometry t, h => readBack_of_form rfl rfl rfl (congrArg Instr.setGeometry (geometrySettings_read h))
  | .setZones t, h => readBack_of_form rfl rfl rfl (congrArg Instr.setZones (zoneSettings_read h))
  | .readGeometry, _ => readBack_of_form rfl rfl rfl rfl
  | .setWeigh t, h => readBack_of_form rfl rfl rfl (congrArg Instr.setWeigh (weighFields_read h))
  | .setCalibration t, h => readBack_of_form rfl rfl rfl (congrArg Instr.setCalibration (calibrationFields_read h))
  | .readWeigh, _ => readBack_of_form rfl rfl rfl rfl
  | .calZero, _ => readBack_of_form rfl rfl rfl rfl
  | .calSpan m, h => readBack_of_form rfl rfl rfl (congrArg Instr.calSpan (word_read h))
  | .calCylEmpty, _ => readBack_of_form rfl rfl rfl rfl
  | .calCylLoad m, h => readBack_of_form rfl rfl rfl (congrArg Instr.calCylLoad (word_read h))
  | .calAbort, _ => readBack_of_form rfl rfl rfl rfl
  | .setLift t, h => readBack_of_form rfl rfl rfl (congrArg Instr.setLift (liftSettings_read h))
  | .readLift, _ => readBack_of_form rfl rfl rfl rfl
  | .selectAssortment i, h => readBack_of_form rfl rfl rfl (congrArg Instr.selectAssortment (byte_read h))
  | .defineAssortment i label, h => by
    simp only [Instr.wellFormed, Bool.and_eq_true, decide_eq_true_eq] at h
    obtain ⟨hi, hl⟩ := h
    refine readBack_of_form rfl rfl ?_ (congrArg (Instr.defineAssortment · label) (byte_read hi))
    show Nat.inRange 1 9 (label.length + 1) = true
    simp only [Nat.inRange, Bool.and_eq_true, decide_eq_true_eq]
    omega
  | .holdTally, _ => readBack_of_form rfl rfl rfl rfl
  | .releaseTally, _ => readBack_of_form rfl rfl rfl rfl
  | .setTarget t, h => readBack_of_form rfl rfl rfl (congrArg Instr.setTarget (targetFields_read h))
  | .closeLoad, _ => readBack_of_form rfl rfl rfl rfl
  | .readLoad, _ => readBack_of_form rfl rfl rfl rfl
  | .readAssortment i, h => readBack_of_form rfl rfl rfl (congrArg Instr.readAssortment (byte_read h))
  | .readLoadHistory a b, h => by
    obtain ⟨hx, hy⟩ := Bool.and_eq_true_iff.1 h
    exact readBack_of_form rfl rfl rfl (congrArg₂ Instr.readLoadHistory (byte_read hx) (byte_read hy))
  | .setClock t, h => by
    refine readBack_of_form rfl rfl rfl (congrArg Instr.setClock ?_)
    exact long_of_bits t rfl
  | .readClock, _ => readBack_of_form rfl rfl rfl rfl
  | .mark, _ => readBack_of_form rfl rfl rfl rfl
  | .setLog t, h => readBack_of_form rfl rfl rfl (congrArg Instr.setLog (enableFields_read h))
  | .readLog n, h => readBack_of_form rfl rfl rfl (congrArg Instr.readLog (byte_read h))
  | .readLogStatus, _ => readBack_of_form rfl rfl rfl rfl
  | .setLimiter ⟨a, b, c⟩, h => by
    simp only [Instr.wellFormed, LimiterSettings.wellFormed, Bool.and_eq_true] at h
    obtain ⟨⟨ha, hb⟩, hc⟩ := h
    refine readBack_of_form rfl rfl rfl (congrArg Instr.setLimiter ?_)
    show LimiterSettings.mk _ _ _ = _
    congr 1
    · exact byte_read ha
    · exact word_read hb
    · exact word_read hc
  | .setHorn ⟨a, b⟩, h => by
    obtain ⟨ha, hb⟩ := Bool.and_eq_true_iff.1 h
    exact readBack_of_form rfl rfl rfl
      (congrArg Instr.setHorn (congrArg₂ HornSettings.mk (byte_read ha) (byte_read hb)))
  | .readLimiter, _ => readBack_of_form rfl rfl rfl rfl
  | .lever d, h => by
    simp only [Instr.wellFormed, Bool.and_eq_true, beq_iff_eq] at h
    obtain ⟨hl, hd⟩ := h
    refine readBack_of_form rfl rfl ?_ (congrArg Instr.lever (demands_read hl hd))
    show ((d.flatMap i16).length == 12) = true
    rw [Laws.length_flatMap_i16, hl]
    rfl
  | .setSection v t, h => by
    obtain ⟨hv, ht⟩ := Bool.and_eq_true_iff.1 h
    exact readBack_of_form rfl rfl rfl
      (congrArg₂ Instr.setSection (byte_read hv) (sectionSettings_read v ht))
  | .readSection v, h => readBack_of_form rfl rfl rfl (congrArg Instr.readSection (byte_read h))
  | .saveSettings, _ => readBack_of_form rfl rfl rfl rfl
  | .profileSet m f, h => by
    obtain ⟨hm, hf⟩ := Bool.and_eq_true_iff.1 h
    exact readBack_of_form rfl rfl rfl
      (congrArg₂ Instr.profileSet (word_read hm) (profileFields_read m hf))
  | .profileRestore, _ => readBack_of_form rfl rfl rfl rfl
  | .profileFreeze, _ => readBack_of_form rfl rfl rfl rfl
  | .profileIdentify, _ => readBack_of_form rfl rfl rfl rfl
  | .identify, _ => readBack_of_form rfl rfl rfl rfl
  | .readStore, _ => readBack_of_form rfl rfl rfl rfl
  | .clearConditions m, h => by
    refine readBack_of_form rfl rfl rfl (congrArg Instr.clearConditions ?_)
    exact long_of_bits m rfl
  | .readConditions, _ => readBack_of_form rfl rfl rfl rfl
  | .setCabLine p ms, h => by
    simp only [Instr.wellFormed, Bool.and_eq_true, beq_iff_eq] at h
    obtain ⟨⟨hp, hl⟩, hm⟩ := h
    refine readBack_of_form rfl rfl ?_ (congrArg₂ Instr.setCabLine (byte_read hp) (codes_read hm))
    show ((ms.flatMap u8).length + 1 == 31) = true
    rw [Laws.length_flatMap_u8, hl]
    rfl
  | .restart, _ => readBack_of_form rfl rfl rfl rfl
  | .powerOn _, _ => readBack_of_none rfl
  | .restartPerformed _, _ => readBack_of_none rfl
  | .acquisitionFrame _ _ _, _ => readBack_of_none rfl
  | .driveUpdate _, _ => readBack_of_none rfl
  | .coilShort _ _, _ => readBack_of_none rfl
  | .hail, _ => readBack_of_none rfl
  | .hailReply, _ => readBack_of_none rfl
  | .probeEcho _ _, _ => readBack_of_none rfl
  | .dataFrame _ _ _ _ _, _ => readBack_of_none rfl
  | .damagedTipFrame, _ => readBack_of_none rfl
  | .hailTimerExpiry, _ => readBack_of_none rfl
  | .probeResend, _ => readBack_of_none rfl
  | .probeWindowExpiry, _ => readBack_of_none rfl
  | .goResend, _ => readBack_of_none rfl
  | .startWindowExpiry, _ => readBack_of_none rfl
  | .lossTimerExpiry, _ => readBack_of_none rfl
  | .backOffExpiry, _ => readBack_of_none rfl
  | .noiseIntervalExpiry, _ => readBack_of_none rfl
  | .reportTimerExpiry, _ => readBack_of_none rfl
  | .compensationUpdate, _ => readBack_of_none rfl
  | .leverTimerExpiry, _ => readBack_of_none rfl
  | .liveReportTimerExpiry, _ => readBack_of_none rfl
  | .hornPatternStep, _ => readBack_of_none rfl
  | .lampFlashStep, _ => readBack_of_none rfl
  | .byteGapExpiry, _ => readBack_of_none rfl
  | .cabFrameDiscarded, _ => readBack_of_none rfl
  | .storeWritePart, _ => readBack_of_none rfl
  | .unknownKind _, _ => readBack_of_none rfl
  | .cabLineByteReceived _, _ => readBack_of_none rfl
  | .frameTransmitted, _ => readBack_of_none rfl
  | .lossOfSupply, _ => readBack_of_none rfl
  | .clockMillisecond, _ => readBack_of_none rfl
  | .hornHalfPeriod, _ => readBack_of_none rfl

/-- Settles O5: each field of a well-formed request fits the bytes that carry it. -/
theorem encodedRequestsDecode : Obligations.EncodedRequestsDecode :=
  fun _ k p hi he => readBack_of_wellFormed hi k p he

end Sys2Proof.Machine
end

section
/-! PROOF. Frames of the cab line taken byte by byte (R193, R194). -/

namespace Sys2Proof.Machine

variable {s : State} {r r' : Receiver} {b : Byte} {k : Byte} {p : List Byte}

/-! ## One byte -/

/-- The state with another receiver (R193). -/
def State.receiving (s : State) (r : Receiver) : State := { s with clp := { s.clp with receiver := r } }

theorem receiving_self (h : s.clp.receiver = r) : s.receiving r = s := by
  subst h
  rfl

theorem receiveAll_cons {bs : List Byte} {t : State} (h : exec (.cabLineByteReceived b) s = .next t) :
    receiveAll (b :: bs) s = receiveAll bs t := by
  rw [receiveAll, h]

/-- A byte received in time is taken in the receiver's state. -/
theorem receive_in_time (h : r.sinceByte.getD 0 ≤ 5) :
    r.receive b = Receiver.feed (feedFuel (r.kept.length + 1)) r [b] := if_neg (Nat.not_lt.2 h)

theorem feed_going {n : Nat} {bs : List Byte} (h : r.take b = .going r') :
    Receiver.feed (n + 1) r (b :: bs) = Receiver.feed n r' bs := by
  rw [Receiver.feed, h]

theorem feed_complete {n : Nat} {bs : List Byte} {f : CabRecord} (h : r.take b = .complete f) :
    Receiver.feed (n + 1) r (b :: bs)
      = ((Receiver.feed n .idle bs).1, f :: (Receiver.feed n .idle bs).2) := by
  rw [Receiver.feed, h]

theorem feed_nil (n : Nat) (r : Receiver) : Receiver.feed n r [] = (r, []) := by cases n <;> rfl

theorem feedFuel_pos (n : Nat) : ∃ m, feedFuel n = m + 1 := ⟨n * n + n + n, by unfold feedFuel; ring⟩

theorem receive_going (hs : r.sinceByte.getD 0 ≤ 5) (h : r.take b = .going r') : r.receive b = (r', []) := by
  obtain ⟨m, hm⟩ := feedFuel_pos (r.kept.length + 1)
  rw [receive_in_time hs, hm, feed_going h, feed_nil]

theorem receive_complete {f : CabRecord} (hs : r.sinceByte.getD 0 ≤ 5) (h : r.take b = .complete f) :
    r.receive b = (.idle, [f]) := by
  obtain ⟨m, hm⟩ := feedFuel_pos (r.kept.length + 1)
  rw [receive_in_time hs, hm, feed_complete h, feed_nil]

theorem exec_byteReceived (hp : s.powered = true) (hs : s.clp.started = true) :
    exec (.cabLineByteReceived b) s = .next (takeReceived (s.clp.receiver.receive b) s) :=
  congrArg Host.Outcome.next ((whenPowered_eq hp).trans (if_pos hs))

/-- A byte that ends no frame changes the receiver alone. -/
theorem receiveAll_going {bs : List Byte} (hp : s.powered = true) (hs : s.clp.started = true)
    (ht : r.sinceByte.getD 0 ≤ 5) (h : r.take b = .going r') :
    receiveAll (b :: bs) (s.receiving r) = receiveAll bs (s.receiving r') := by
  refine receiveAll_cons ((exec_byteReceived (s := s.receiving r) hp hs).trans ?_)
  rw [show (s.receiving r).clp.receiver = r from rfl, receive_going ht h]
  rfl

/-- The byte that completes a frame dispatches it (log 23). -/
theorem receiveAll_complete {f : CabRecord} (hp : s.powered = true) (hs : s.clp.started = true)
    (ht : r.sinceByte.getD 0 ≤ 5) (h : r.take b = .complete f) :
    receiveAll [b] (s.receiving r) = .next (dispatchFrame f (s.receiving .idle)) := by
  refine receiveAll_cons (bs := []) ((exec_byteReceived (s := s.receiving r) hp hs).trans ?_)
  rw [show (s.receiving r).clp.receiver = r from rfl, receive_complete ht h]
  rfl

/-! ## The bytes of a frame -/

theorem keptLength_append {kept : List Byte} (h : 2 ≤ kept.length) (bs : List Byte) :
    keptLength (kept ++ bs) = keptLength kept := by
  unfold keptLength byteAt
  rw [List.getD_append _ _ _ _ h]

/-- The body of a frame is kept byte by byte, up to the LENGTH it began with. -/
theorem receiveAll_body (hp : s.powered = true) (hs : s.clp.started = true) {rest : List Byte} :
    ∀ (bs kept : List Byte), bs ≠ [] → 2 ≤ kept.length → kept.length + bs.length = keptLength kept + 2 →
      receiveAll (bs ++ rest) (s.receiving ⟨.body, kept, some 0⟩)
        = receiveAll rest (s.receiving ⟨.check, kept ++ bs, some 0⟩)
  | [], _, h, _, _ => absurd rfl h
  | b :: bs, kept, _, hk, hl => by
    have hn := keptLength_append hk [b]
    rw [List.length_cons] at hl
    rcases List.eq_nil_or_concat bs with rfl | ⟨_, _, hb⟩
    · refine receiveAll_going hp hs (Nat.zero_le _) ?_
      refine if_neg ?_
      rw [hn, List.length_append]
      simp only [List.length_cons, List.length_nil] at hl ⊢
      omega
    · have hb' : bs ≠ [] := by
        rw [hb]
        rw [List.concat_eq_append]
        exact List.append_ne_nil_of_right_ne_nil _ (List.cons_ne_nil _ _)
      have hpos : 0 < bs.length := List.length_pos_iff.2 hb'
      refine (receiveAll_going (r' := ⟨.body, kept ++ [b], some 0⟩) hp hs (Nat.zero_le _) ?_).trans ?_
      · refine if_pos ?_
        show (kept ++ [b]).length < keptLength (kept ++ [b]) + 2
        rw [hn, List.length_append, List.length_singleton]
        omega
      · have ih := receiveAll_body hp hs (rest := rest) bs (kept ++ [b]) hb'
          (by rw [List.length_append]; omega)
          (by rw [hn, List.length_append, List.length_singleton]; omega)
        rw [List.append_assoc] at ih
        exact ih

theorem bytes_of_word (c : BitVec 16) :
    (BitVec.ofNat 8 (c.toNat / 256)).toNat * 256 + (BitVec.ofNat 8 c.toNat).toNat = c.toNat :=
  word_read (decide_eq_true c.isLt)

/-- LENGTH, KIND and payload: what the CRC-16 of a frame is over (R193). -/
def frameBody (k : Byte) (p : List Byte) : List Byte := u8 (p.length + 1) ++ [k] ++ p

theorem frameBody_length (k : Byte) (p : List Byte) : (frameBody k p).length = p.length + 2 := rfl

theorem keptLength_frameBody (hp : p.length ≤ 63) (rest : List Byte) :
    keptLength ([0xA5] ++ frameBody k p ++ rest) = p.length + 1 :=
  byte_read (decide_eq_true (by omega))

/-- The second CRC byte of a frame as sent completes the record it carries. -/
theorem judgeCrc_of_sent (hp : p.length ≤ 63) :
    judgeCrc ([0xA5] ++ frameBody k p ++ u16 (crc16 (frameBody k p)).toNat) = .complete ⟨k, p⟩ := by
  unfold judgeCrc
  dsimp only
  rw [keptLength_frameBody hp]
  have hbody : (([0xA5] ++ frameBody k p ++ u16 (crc16 (frameBody k p)).toNat).drop 1).take (p.length + 1 + 1)
      = frameBody k p := List.take_left (l₁ := frameBody k p)
  have hcrc : u16At ([0xA5] ++ frameBody k p ++ u16 (crc16 (frameBody k p)).toNat) (p.length + 1 + 2)
      = (crc16 (frameBody k p)).toNat := by
    have hlen : ([0xA5] ++ frameBody k p).length = p.length + 1 + 2 := rfl
    unfold u16At byteAt
    rw [List.getD_append_right _ _ _ _ (by omega), List.getD_append_right _ _ _ _ (by omega), hlen, Nat.sub_self,
      Nat.add_sub_cancel_left]
    exact bytes_of_word _
  rw [hbody, hcrc, if_pos rfl]
  exact congrArg (fun q => RxResult.complete ⟨k, q⟩) (List.take_left (l₁ := p))

/-- A frame received by a receiver at rest is dispatched, and leaves the receiver at rest. -/
theorem receiveAll_cabFrame (hw : s.powered = true) (hs : s.clp.started = true) (hr : s.clp.receiver = .idle)
    (hp : p.length ≤ 63) : receiveAll (cabFrame k p) s = .next (dispatchFrame ⟨k, p⟩ s) := by
  have hn : keptLength [0xA5, BitVec.ofNat 8 (p.length + 1)] = p.length + 1 :=
    byte_read (decide_eq_true (by omega))
  have hin : Nat.inRange 1 64 (BitVec.ofNat 8 (p.length + 1)).toNat = true := by
    rw [byte_read (decide_eq_true (by omega))]
    simp only [Nat.inRange, Bool.and_eq_true, decide_eq_true_eq]
    omega
  calc receiveAll (cabFrame k p) s
      = receiveAll (cabFrame k p) (s.receiving .idle) := by rw [receiving_self hr]
    _ = receiveAll (frameBody k p ++ u16 (crc16 (frameBody k p)).toNat) (s.receiving ⟨.length, [0xA5], some 0⟩) :=
        receiveAll_going hw hs (Nat.zero_le _) rfl
    _ = receiveAll ((k :: p) ++ u16 (crc16 (frameBody k p)).toNat)
          (s.receiving ⟨.body, [0xA5, BitVec.ofNat 8 (p.length + 1)], some 0⟩) :=
        receiveAll_going hw hs (Nat.zero_le _) (if_pos hin)
    _ = receiveAll (u16 (crc16 (frameBody k p)).toNat) (s.receiving ⟨.check, [0xA5] ++ frameBody k p, some 0⟩) := by
        have hlen : [0xA5, BitVec.ofNat 8 (p.length + 1)].length + (k :: p).length
            = keptLength [0xA5, BitVec.ofNat 8 (p.length + 1)] + 2 := by
          rw [hn, List.length_cons, List.length_cons, List.length_cons, List.length_nil]
          omega
        have htwo : 2 ≤ [(0xA5 : Byte), BitVec.ofNat 8 (p.length + 1)].length := by simp
        have h := receiveAll_body hw hs (rest := u16 (crc16 (frameBody k p)).toNat) (k :: p) _
          (List.cons_ne_nil k p) htwo hlen
        exact h
    _ = receiveAll [BitVec.ofNat 8 (crc16 (frameBody k p)).toNat]
          (s.receiving ⟨.check, [0xA5] ++ frameBody k p ++ [BitVec.ofNat 8 ((crc16 (frameBody k p)).toNat / 256)],
            some 0⟩) := by
        refine receiveAll_going hw hs (Nat.zero_le _) (if_pos ?_)
        dsimp only
        rw [keptLength_frameBody hp]
        simp only [List.length_append, frameBody_length, List.length_singleton]
        omega
    _ = .next (dispatchFrame ⟨k, p⟩ (s.receiving .idle)) := by
        refine receiveAll_complete hw hs (Nat.zero_le _) ((if_neg ?_).trans ?_)
        · dsimp only
          rw [List.append_assoc, keptLength_frameBody hp]
          simp only [List.length_append, frameBody_length, List.length_singleton]
          omega
        · dsimp only
          rw [List.append_assoc]
          exact judgeCrc_of_sent hp
    _ = .next (dispatchFrame ⟨k, p⟩ s) := by rw [receiving_self hr]

/-! ## What a frame performs -/

theorem dispatchFrame_request {i : Instr} (hi : (encodeRequest i).isSome = true)
    (h : decodeRequest k p = .request i) : .next (dispatchFrame ⟨k, p⟩ s) = exec i s := by
  obtain ⟨t, ht, -⟩ := requestMeaning_performs i s
  rw [exec_request i s hi, ht]
  unfold dispatchFrame
  dsimp only
  rw [h]
  dsimp only
  rw [ht]
  rfl

theorem dispatchFrame_unknown (h : requestForm k.toNat = none) :
    dispatchFrame ⟨k, p⟩ s = refuse k .badKind s := by
  simp only [dispatchFrame, decodeRequest, h]

theorem dispatchFrame_badLength {f : RequestForm} (h : requestForm k.toNat = some f)
    (hl : f.suits p.length = false) : dispatchFrame ⟨k, p⟩ s = refuse k .badLength s := by
  simp only [dispatchFrame, decodeRequest, h, hl, Bool.false_eq_true, if_false]

/-- Every request kind's payload fits a frame (R202). -/
theorem suits_le {kind n : Nat} {f : RequestForm} (h : requestForm kind = some f) (hs : f.suits n = true) :
    n ≤ 63 := by
  unfold requestForm at h
  split at h <;> cases h <;> simp only [fixedForm, emptyForm, Nat.inRange, beq_iff_eq, Bool.and_eq_true,
    decide_eq_true_eq] at hs <;> omega

theorem payload_fits {i : Instr} (hi : i.wellFormed = true) (he : encodeRequest i = some (k, p)) :
    p.length ≤ 63 := by
  have hd := encodedRequestsDecode i k p hi he
  unfold decodeRequest at hd
  split at hd
  · cases hd
  · next hf =>
    split at hd
    · next hs => exact suits_le hf hs
    · cases hd

/-- Settles O6: the frame's bytes carry the receiver from SYNC to CHECK and dispatch the record they complete. -/
theorem receivedFramesPerformTheirRequests : Obligations.ReceivedFramesPerformTheirRequests := by
  refine ⟨fun s hw hs hr => ⟨fun i k p hi he => ?_, fun k p hp hk => ?_, fun k p f hp hk hl hv => ?_⟩,
    fun k s hv => refusedWith_of hv rfl⟩
  · exact (receiveAll_cabFrame hw hs hr (payload_fits hi he)).trans
      (dispatchFrame_request (by rw [he]; rfl) (encodedRequestsDecode i k p hi he))
  · exact (receiveAll_cabFrame hw hs hr hp).trans (congrArg Host.Outcome.next (dispatchFrame_unknown hk))
  · rw [receiveAll_cabFrame hw hs hr hp, dispatchFrame_badLength hk hl, refuse_of_serves hv]

end Sys2Proof.Machine
end

section
/-! PROOF. What lifts, weighings and frames leave: the clock and the valve sections. -/

namespace Sys2Proof.Machine

/-! ## The clock and the valve sections stand -/

/-- A step that leaves the clock, the settings of the log and the valve sections. -/
def Steady (s t : State) : Prop :=
  t.log.clock = s.log.clock ∧ t.log.enables = s.log.enables ∧ t.vdr.sections = s.vdr.sections

variable {s t : State}

theorem Steady.refl : Steady s s := ⟨rfl, rfl, rfl⟩

/-- Further steps that leave LOG and the valve sections whole. -/
theorem Steady.of_eq {u : State} (h : Steady s t) (hl : u.log = t.log) (hv : u.vdr.sections = t.vdr.sections) :
    Steady s u := by
  unfold Steady
  rw [hl, hv]
  exact h

theorem steady_record {p : EntryPart} (h : Steady s t) : Steady s (record p t) := by
  rcases record_cases p t with ⟨-, e⟩ | ⟨-, -, e⟩ | ⟨-, -, e⟩ <;> rw [e]
  · exact h
  all_goals exact ⟨h.1, h.2.1, h.2.2⟩

theorem steady_abortCaptures {k : List CaptureKind} (h : Steady s t) : Steady s (abortCaptures k t) := by
  simpa [Steady] using h

theorem steady_enterState {x : LiftState} (h : Steady s t) : Steady s (enterState x t) :=
  steady_abortCaptures (t := { t with ltr := t.ltr.enter x, wen := t.wen.onLiftState x }) h

theorem steady_completeWindow (h : Steady s t) : Steady s (completeWindow t) := by
  unfold completeWindow
  split
  · split
    · exact steady_enterState h
    · exact h
  · exact h

theorem steady_takeDrop (h : Steady s t) : Steady s (takeDrop t) := by
  rw [takeDrop_eq]
  exact steady_enterState (steady_abortCaptures (steady_record h))

theorem steady_closeLoad {r : CloseReason} (h : Steady s t) : Steady s (closeLoad r t) := by
  cases hl : t.tal.load with
  | none =>
    unfold closeLoad
    rwa [hl]
  | some l =>
    rw [closeLoad_some r hl]
    exact (steady_record (p := .loadClosed ⟨l.number, r, l.total, l.loadedLifts, l.unloadedLifts⟩) h).of_eq rfl rfl

theorem steady_commit {o : LiftOutcome} {a : Fin 16} {m : Nat} {q : Quality} (h : Steady s t) :
    Steady s (commit o a m q t) := by
  unfold commit
  split
  · exact h
  · cases o with
    | loaded => simpa [Steady] using h
    | unloaded =>
      show Steady s (commitUnloaded a m q t)
      unfold commitUnloaded
      split
      · split
        · exact h
        · exact h
      · dsimp only
        split
        · refine steady_closeLoad ?_
          split <;> simpa [Steady] using h
        · split <;> simpa [Steady] using h
    | _ => exact h

theorem steady_takeRelease (h : Steady s t) : Steady s (takeRelease t) := by
  rw [takeRelease_eq]
  exact steady_enterState (steady_record (steady_commit h))

theorem steady_judgeGrip (h : Steady s t) : Steady s (judgeGrip t) := by
  unfold judgeGrip
  dsimp only
  split
  · split
    · split
      · exact steady_takeRelease h
      · exact steady_enterState h
    · exact h
  · split
    · exact steady_enterState h
    · exact h

theorem steady_judgeLive (h : Steady s t) : Steady s (judgeLive t) := by
  unfold judgeLive
  dsimp only
  split
  · exact h
  · split
    · exact steady_enterState h
    · exact h
  · split
    · exact steady_takeDrop h
    · exact h

theorem steady_handLiveUpdate (h : Steady s t) : Steady s (handLiveUpdate t) := steady_judgeLive h

theorem steady_rejudgeSources (h : Steady s t) : Steady s (rejudgeSources t) := by simpa [Steady] using h

theorem steady_finishCapture {c : Capture} {n : CalName} {x y : Int} {cal : Calibration} (h : Steady s t) :
    Steady s (finishCapture c n x y cal t) :=
  (steady_record (p := .cal ⟨n, c.band, x, y⟩) (steady_rejudgeSources
    (t := judgeNoCal { t with wen := { t.wen with calibration := cal, capture := none } }) h)).of_eq rfl rfl

theorem steady_failCapture {r : CaptureReason} (h : Steady s t) : Steady s (failCapture r t) := h

theorem steady_captureTake {c : Capture} {x : Int} (h : Steady s t) : Steady s (captureTake c x t) := by
  unfold captureTake
  dsimp only
  split
  · unfold finish
    dsimp only
    split
    · exact steady_finishCapture (t := setLive .zeroDrift false _) h
    · unfold finishSpan
      dsimp only
      split
      · exact steady_failCapture h
      · exact steady_finishCapture (t := { t with wen := { t.wen with emptyWindow := none } }) h
    · exact steady_finishCapture h
    · unfold finishCylLoad
      dsimp only
      split
      · exact steady_failCapture h
      · split
        · exact steady_finishCapture h
        · exact steady_failCapture h
    · exact h
    · exact h
  · exact h

theorem steady_handIf {f : Bool} (h : Steady s t) : Steady s (handIf f t) := by
  unfold handIf
  split
  · exact steady_handLiveUpdate h
  · exact h

theorem steady_countTip {x : TipSample} (h : Steady s t) : Steady s (countTip x t) := by
  unfold countTip
  split
  · unfold captureTip
    split
    · exact h
    · split
      · exact steady_captureTake h
      · exact steady_captureTake h
      · exact h
      · exact h
  · exact h

theorem steady_tipSample {x : TipSample} (h : Steady s t) : Steady s (tipSample x t) := by
  unfold tipSample
  exact (steady_handIf (steady_completeWindow (steady_countTip (h.of_eq (by simp) (by simp))))).of_eq rfl rfl

theorem steady_moveLink {x : Tlc} (h : Steady s t) : Steady s (moveLink x t) := by
  have hl : Steady s (linked x t) := h
  have hh : Steady s (handLink t.tlc.link x.link (linked x t)) := by
    unfold handLink
    split
    · exact steady_rejudgeSources (steady_abortCaptures (t := setLive .tipOverrange false _) hl)
    · split
      · exact steady_rejudgeSources hl
      · exact hl
  unfold moveLink
  dsimp only
  split
  · exact hh
  · exact hh

theorem steady_setStuck {v : Bool} (h : Steady s t) : Steady s (setStuck v t) := by
  unfold setStuck
  split
  · exact h
  · unfold tipStuckChanged
    refine steady_rejudgeSources ?_
    split
    · exact steady_abortCaptures (t := setLive .tipStuck v t) h
    · exact h

theorem steady_judgeNoise (h : Steady s t) : Steady s (judgeNoise t) := by
  unfold judgeNoise
  split
  · exact steady_moveLink h
  · exact h

theorem steady_acceptFrame {q : Byte} {x : TipSample} {n : Nat} (h : Steady s t) : Steady s (acceptFrame q x n t) := by
  have h1 : Steady s (if n = 0 then t else countErrors n t) := by
    split
    · exact h
    · exact h.of_eq (by simp) (by simp)
  have h3 := fun v => steady_tipSample (x := x) (steady_setStuck (v := v) (steady_moveLink
    (x := (if n = 0 then t else countErrors n t).tlc.accepted q x) h1))
  unfold acceptFrame
  dsimp only
  split
  · next hn => simpa only [hn, if_true] using h3 _
  · next hn => simpa only [hn, if_false] using steady_judgeNoise (h3 _)

theorem steady_noCylinderSample (h : Steady s t) : Steady s (noCylinderSample t) := by
  unfold noCylinderSample
  dsimp only
  split
  · exact steady_handLiveUpdate h
  · exact h

theorem steady_takeCylinderSample {x : Int} (h : Steady s t) : Steady s (takeCylinderSample x t) :=
  steady_handIf (steady_completeWindow (h.of_eq (by simp) (by simp)))

theorem steady_captureCylinder {f : CylinderForce} {g : Option CylinderForce} (h : Steady s t) :
    Steady s (captureCylinder f g t) := by
  unfold captureCylinder
  split
  · exact h
  · split
    · exact h
    · exact h
    · split
      · split
        · exact h
        · split
          · exact steady_captureTake h
          · exact h
      · exact steady_failCapture h

theorem steady_cylinderFrame (h : Steady s t) : Steady s (cylinderFrame t) := by
  unfold cylinderFrame
  dsimp only
  have h2 (f) : Steady s { rejudgeSources t with wen := { (rejudgeSources t).wen with frameForce := f } } :=
    steady_rejudgeSources h
  split
  · exact steady_noCylinderSample (h2 _)
  · refine steady_captureCylinder ?_
    split
    · exact steady_takeCylinderSample (h2 _)
    · exact steady_noCylinderSample (h2 _)

theorem steady_performTask {m : Bool} {x : FrameTask} (h : Steady s t) : Steady s (performTask m x t) := by
  cases x with
  | cylinder => exact steady_cylinderFrame h
  | grip => exact steady_judgeGrip h
  | mark =>
    show Steady s (if m then makeMark t else t)
    split
    · exact steady_record h
    · exact h
  | evaluation => exact h

theorem steady_tasks {m : Bool} (l : List FrameTask) (h : Steady s t) :
    Steady s (l.foldl (fun u x => performTask m x u) t) := by
  induction l generalizing t with
  | nil => exact h
  | cons x l ih => exact ih (steady_performTask h)

end Sys2Proof.Machine
end

section
/-! PROOF. The acquisition frame in IAU, CLP and LOG (R6, R7, R13, R14, R136). -/

namespace Sys2Proof.Machine

variable {s t u : State} {codes : PerChannel RawCode} {levels : PerLine Level} {order : FrameOrder}

/-! ## Frames behind the queue (R195) -/

/-- At most n frames more wait, behind those that waited. -/
def Queued (n : Nat) (s t : State) : Prop := ∃ e : List TxFrame, t.clp.queue = s.clp.queue ++ e ∧ e.length ≤ n

theorem Queued.refl : Queued 0 s s := ⟨[], by simp, Nat.le_refl 0⟩

theorem Queued.trans {m n : Nat} (h : Queued m s t) (k : Queued n t u) : Queued (m + n) s u := by
  obtain ⟨e, he, hm⟩ := h
  obtain ⟨f, hf, hn⟩ := k
  exact ⟨e ++ f, by rw [hf, he, List.append_assoc], by rw [List.length_append]; omega⟩

theorem Queued.length_le {n : Nat} (h : Queued n s t) : t.clp.queue.length ≤ s.clp.queue.length + n := by
  obtain ⟨e, he, hn⟩ := h
  rw [he, List.length_append]
  omega

theorem Queued.mem {n : Nat} (h : Queued n s t) {f : TxFrame} (hf : f ∈ s.clp.queue) : f ∈ t.clp.queue := by
  obtain ⟨e, he, -⟩ := h
  rw [he]
  exact List.mem_append_left _ hf

theorem queued_setLive (d : Condition) (v : Bool) (s : State) : Queued 1 s (setLive d v s) :=
  Clp.setLive_extends s.clp d v

theorem queued_notify {n : Notice} (hn : (TxFrame.notice n).isLive = false) (s : State) : Queued 1 s (notify n s) :=
  Clp.send_extends s.clp hn

theorem mem_notify {n : Notice} (hn : (TxFrame.notice n).isLive = false) (h : s.clp.queue.length < 32) :
    .notice n ∈ (notify n s).clp.queue := by
  unfold notify
  rw [Clp.send_of_short hn h]
  simp

theorem queued_foldl {α : Type} {f : State → α → State} (hf : ∀ s x, Queued 1 s (f s x)) (l : List α) (s : State) :
    Queued l.length s (l.foldl f s) := by
  induction l generalizing s with
  | nil => exact .refl
  | cons x l ih => simpa [Nat.add_comm] using (hf s x).trans (ih (f s x))

/-! ## The frame inside IAU and GEO -/

/-- The samples, judged, with SENSOR_FAULT and LINE_EDGE reported (R2, R7, R14). -/
def sampled (codes : PerChannel RawCode) (levels : PerLine Level) (s : State) : State :=
  Line.list.foldl (fun u l => noteEdge s.iau.lines l u) (setSensorFaults codes (sampleInputs codes levels s))

theorem acquire_eq (codes : PerChannel RawCode) (levels : PerLine Level) (s : State) :
    acquire codes levels s = updateGeometry (handSwitch (sampled codes levels s)) := rfl

theorem queued_noteEdge (before : PerLine LineState) (l : Line) (s : State) : Queued 1 s (noteEdge before l s) := by
  unfold noteEdge
  split
  · split
    · exact ⟨[], by simp, Nat.zero_le 1⟩
    · exact queued_notify rfl s
  · exact ⟨[], by simp, Nat.zero_le 1⟩

theorem queued_setSensorFaults (codes : PerChannel RawCode) (s : State) : Queued 9 s (setSensorFaults codes s) :=
  queued_foldl (fun u c => queued_setLive (.sensorFault c) _ u) Channel.list s

theorem queued_sampled (codes : PerChannel RawCode) (levels : PerLine Level) (s : State) :
    Queued 13 s (sampled codes levels s) :=
  (queued_setSensorFaults codes (sampleInputs codes levels s)).trans
    (queued_foldl (fun u l => queued_noteEdge s.iau.lines l u) Line.list _)

theorem queued_updateGeometry (s : State) : Queued 1 s (updateGeometry s) :=
  Clp.setLive_extends s.clp .geometryInvalid _

theorem queued_acquire (codes : PerChannel RawCode) (levels : PerLine Level) (s : State) :
    Queued 14 s (acquire codes levels s) :=
  (queued_sampled codes levels s).trans (queued_updateGeometry (handSwitch (sampled codes levels s)))

theorem acquire_tal (codes : PerChannel RawCode) (levels : PerLine Level) (s : State) :
    (acquire codes levels s).tal
      = { s.tal with switchClosed := (acquire codes levels s).iau.lines.dl2.switchState } := by
  simp [acquire, handSwitch, Line.list]

/-! ## SENSOR_FAULT (R7) -/

theorem foldl_sensorFault_isLive (codes : PerChannel RawCode) (d : Channel) (l : List Channel) (s : State) :
    (l.foldl (fun s c => setLive (.sensorFault c) (!inBand (s.iau.channels.get c).settings (codes.get c)) s)
        s).clp.isLive (.sensorFault d)
      = if d ∈ l then !inBand (s.iau.channels.get d).settings (codes.get d) else s.clp.isLive (.sensorFault d) := by
  induction l generalizing s with
  | nil => rfl
  | cons c l ih =>
    rw [List.foldl_cons, ih]
    by_cases hl : d ∈ l
    · simp [hl]
    · by_cases hc : d = c
      · subst hc
        simp only [hl, if_false, List.mem_cons, true_or, if_true]
        exact Clp.setLive_self _ _ _
      · simp only [hl, if_false, List.mem_cons, hc, or_self]
        exact setLive_other (.sensorFault c) (.sensorFault d) fun h => hc (by cases h; rfl)

theorem ChannelState.judge_settings (c : Channel) (x : ChannelState) (r : RawCode) :
    (x.judge c r).settings = x.settings := by
  unfold judge
  repeat' split
  all_goals rfl

theorem ChannelState.judge_raw (c : Channel) (x : ChannelState) (r : RawCode) : (x.judge c r).raw = some r := by
  unfold judge
  repeat' split
  all_goals rfl

theorem ChannelState.judge_none {c : Channel} {x : ChannelState} {r : RawCode} (h : inBand x.settings r = false)
    (hs : x.status = .none) :
    x.judge c r = { x with raw := some r, status := .none, lastGood := none, value := none } := by
  simp [judge, h, hs]

theorem ChannelState.judge_held {c : Channel} {x : ChannelState} {r g : RawCode} (h : inBand x.settings r = false)
    (hs : x.status ≠ .none) (hg : x.lastGood = some g) :
    x.judge c r = { x with raw := some r, status := .held, value := some (scaledValue c x.settings g) } := by
  cases hx : x.status with
  | none => exact absurd hx hs
  | _ => simp [judge, h, hx, hg]

/-- SENSOR_FAULT after a frame is the frame's own judgement: nothing that follows reports it. -/
theorem takeFrame_sensorFault (codes : PerChannel RawCode) (levels : PerLine Level) (order : FrameOrder) (s : State)
    (c : Channel) : (takeFrame codes levels order s).clp.isLive (.sensorFault c)
      = !inBand (s.iau.channels.get c).settings (codes.get c) := by
  have tasks (l : List FrameTask) (m : Bool) (u : State) :
      Reports (fun d => ∀ c, d ≠ .sensorFault c) u.clp (l.foldl (fun u x => performTask m x u) u).clp := by
    induction l generalizing u with
    | nil => exact .refl
    | cons x l ih => exact (reports_performTask nofun nofun nofun nofun .refl).trans (ih _)
  have edges (l : List Line) (u : State) : Reports (fun d => ∀ c, d ≠ .sensorFault c) u.clp
      (l.foldl (fun u x => noteEdge s.iau.lines x u) u).clp := by
    induction l generalizing u with
    | nil => exact .refl
    | cons x l ih => exact (reports_noteEdge .refl).trans (ih _)
  have hg : Reports (fun d => ∀ c, d ≠ .sensorFault c) (sampled codes levels s).clp (acquire codes levels s).clp :=
    reports_updateGeometry (s := handSwitch (sampled codes levels s)) nofun .refl
  have h := ((edges Line.list (setSensorFaults codes (sampleInputs codes levels s))).trans hg).trans
    (tasks (orderedTasks order) (isMark s.iau.lines (acquire codes levels s)) (acquire codes levels s))
  rw [show takeFrame codes levels order s = _ from rfl]
  refine (h.isLive (.sensorFault c) fun k => k c rfl).trans ?_
  refine ((foldl_sensorFault_isLive codes c Channel.list (sampleInputs codes levels s)).trans
    (if_pos (Channel.mem_list c))).trans ?_
  simp [sampleInputs, ChannelState.judge_settings]

theorem steady_takeFrame (codes : PerChannel RawCode) (levels : PerLine Level) (order : FrameOrder) (s : State) :
    Steady s (takeFrame codes levels order s) :=
  steady_tasks _ (Steady.refl.of_eq (by simp) (by simp))

/-- Settles O10: R6's table case by case, on what the frame leaves in each channel. -/
theorem frameJudgesChannels : Obligations.FrameJudgesChannels := by
  intro codes levels order s hp
  obtain ⟨hclock, -, hsections⟩ := steady_takeFrame codes levels order s
  refine ⟨_, exec_acquisitionFrame codes levels order hp, by simp, by simp, hclock, hsections, fun c => ?_⟩
  have hf := takeFrame_sensorFault codes levels order s c
  dsimp only
  rw [takeFrame_channel, hf]
  refine ⟨ChannelState.judge_settings _ _ _, ChannelState.judge_raw _ _ _, fun hlo hhi => ?_, fun hout => ?_⟩
  · have hin := (inBand_iff _ (codes.get c)).2 ⟨hlo, hhi⟩
    rw [ChannelState.judge_of_inBand c hin, hin]
    exact ⟨rfl, rfl, rfl, rfl⟩
  · have hin : inBand (s.iau.channels.get c).settings (codes.get c) = false := by
      rw [Bool.eq_false_iff, Ne, inBand_iff]
      omega
    refine ⟨by rw [hin]; rfl, fun hs => ?_, fun g hs hg => ?_⟩
    · rw [ChannelState.judge_none hin hs]
      exact ⟨rfl, rfl, rfl⟩
    · rw [ChannelState.judge_held hin hs hg]
      exact ⟨rfl, hg, rfl⟩

/-! ## The debounced lines (R13) -/

namespace LineState

variable {x : LineState} {l : Line} {v d : Level} {now : Stamp}

theorem sample_keeps (x : LineState) (l : Line) (v : Level) (now : Stamp) :
    (x.sample l v now).settings = x.settings ∧ (x.sample l v now).written = x.written
      ∧ (x.sample l v now).sampled = some v := by
  unfold sample
  repeat' split
  all_goals exact ⟨rfl, rfl, rfl⟩

theorem sample_output (h : outputClass l x.settings.mode = true) :
    (x.sample l v now).debounced = none ∧ (x.sample l v now).candidate = none := by
  simp [sample, h]

theorem sample_first (h : outputClass l x.settings.mode = false) (hd : x.debounced = none) :
    (x.sample l v now).debounced = some v ∧ (x.sample l v now).candidate = none := by
  simp [sample, h, hd]

theorem sample_same (h : outputClass l x.settings.mode = false) (hd : x.debounced = some v) :
    (x.sample l v now).debounced = some v ∧ (x.sample l v now).candidate = none := by
  simp [sample, h, hd]

theorem sample_begins (h : outputClass l x.settings.mode = false) (hd : x.debounced = some d) (hv : d ≠ v)
    (hc : ∀ c, x.candidate = some c → c.level ≠ v) :
    (x.sample l v now).debounced = some d ∧ (x.sample l v now).candidate = some ⟨v, now⟩ := by
  cases hx : x.candidate with
  | none => simp [sample, h, hd, hv.symm, hx]
  | some c => simp [sample, h, hd, hv.symm, hx, hc c hx]

theorem sample_settles {c : LineCandidate} (h : outputClass l x.settings.mode = false) (hd : x.debounced = some d)
    (hv : d ≠ v) (hx : x.candidate = some c) (hc : c.level = v) (ht : 20 ≤ now.since c.since) :
    (x.sample l v now).debounced = some v ∧ (x.sample l v now).candidate = none := by
  simp [sample, h, hd, hv.symm, hx, hc, ht]

theorem sample_waits {c : LineCandidate} (h : outputClass l x.settings.mode = false) (hd : x.debounced = some d)
    (hv : d ≠ v) (hx : x.candidate = some c) (hc : c.level = v) (ht : now.since c.since < 20) :
    (x.sample l v now).debounced = some d ∧ (x.sample l v now).candidate = some c := by
  simp [sample, h, hd, hv.symm, hx, hc, Int.not_le.2 ht]

end LineState

theorem takeFrame_line (codes : PerChannel RawCode) (levels : PerLine Level) (order : FrameOrder) (s : State)
    (l : Line) : (takeFrame codes levels order s).iau.lines.get l
      = (s.iau.lines.get l).sample l (levels.get l) s.log.clock := by
  simp [takeFrame_iau, sampleInputs]

/-! ## DL2's switch state (R14, R113) -/

theorem closeLoad_switch (r : CloseReason) (s : State) : (closeLoad r s).tal.switchClosed = s.tal.switchClosed := by
  cases hl : s.tal.load with
  | none =>
    unfold closeLoad
    rw [hl]
  | some l =>
    rw [closeLoad_some r hl]
    rfl

theorem evaluateTarget_switch (s : State) : (evaluateTarget s).tal.switchClosed = s.tal.switchClosed := by
  unfold evaluateTarget
  repeat' split
  all_goals rfl

theorem openLoad_switch (s : State) : (openLoad s).tal.switchClosed = s.tal.switchClosed := by
  unfold openLoad
  split <;> rfl

theorem commit_switch (o : LiftOutcome) (a : Fin 16) (m : Nat) (q : Quality) (s : State) :
    (commit o a m q s).tal.switchClosed = s.tal.switchClosed := by
  unfold commit
  split
  · rfl
  · cases o with
    | loaded =>
      show (commitLoaded a m q s).tal.switchClosed = _
      unfold commitLoaded
      dsimp only
      split
      · exact openLoad_switch s
      · simp only [judgePayload_frame, evaluateTarget_switch]
        split <;> exact openLoad_switch s
    | unloaded =>
      show (commitUnloaded a m q s).tal.switchClosed = _
      unfold commitUnloaded
      split
      · split <;> rfl
      · dsimp only
        split
        · rw [closeLoad_switch]
          split <;> rfl
        · simp only [judgePayload_frame, evaluateTarget_switch]
          split <;> rfl
    | _ => rfl

theorem takeRelease_tal (s : State) : (takeRelease s).tal = (commit (outcomeOf (fixedResult s).empty
    (s.ltr.fromZone.getD .unknown) s.geo.zone) s.tal.selected (fixedResult s).mass.toNat (fixedResult s).quality
      s).tal := by
  rw [takeRelease_eq]
  simp

theorem judgeGrip_switch (s : State) : (judgeGrip s).tal.switchClosed = s.tal.switchClosed := by
  unfold judgeGrip
  dsimp only
  repeat' split
  all_goals simp [takeRelease_tal, commit_switch]

theorem tasks_switch (m : Bool) (l : List FrameTask) (s : State) :
    (l.foldl (fun u x => performTask m x u) s).tal.switchClosed = s.tal.switchClosed := by
  induction l generalizing s with
  | nil => rfl
  | cons x l ih =>
    rw [List.foldl_cons, ih]
    cases x with
    | cylinder => exact congrArg Tal.switchClosed (cylinderFrame_frame s).2.2.2.2.1
    | grip => exact judgeGrip_switch s
    | mark =>
      show (if m then makeMark s else s).tal.switchClosed = _
      split <;> simp
    | evaluation => rfl

theorem takeFrame_switch (codes : PerChannel RawCode) (levels : PerLine Level) (order : FrameOrder) (s : State) :
    (takeFrame codes levels order s).tal.switchClosed
      = (takeFrame codes levels order s).iau.lines.dl2.switchState := by
  unfold takeFrame
  rw [tasks_switch, foldl_performTask_iau, acquire_tal]

theorem switchState_iff (x : LineState) :
    x.switchState = true ↔ x.settings.mode = .function ∧ x.debounced = some .low := by
  simp [LineState.switchState]

/-! ## Edges (R14) -/

/-- A selected change of a plain input is noticed while the queue has room for every frame before it. -/
theorem noteEdge_mem {before : PerLine LineState} {l : Line} {v : Level} (hm : sendsEdges (before.get l).settings.mode = true)
    (he : edgeEvent (before.get l) (s.iau.lines.get l) = some v) (hq : s.clp.queue.length < 32) :
    .notice (.lineEdge l v s.log.clock) ∈ (noteEdge before l s).clp.queue := by
  unfold noteEdge
  rw [if_pos hm, he]
  exact mem_notify rfl hq

theorem foldl_noteEdge_mem {before : PerLine LineState} {l : Line} {v : Level} {n : Stamp} {i : Iau}
    (hm : sendsEdges (before.get l).settings.mode = true) (he : edgeEvent (before.get l) (i.lines.get l) = some v)
    (ls : List Line) (hl : l ∈ ls) (s : State) (hi : s.iau = i) (hn : s.log.clock = n)
    (hq : s.clp.queue.length + ls.length ≤ 32) :
    .notice (.lineEdge l v n) ∈ (ls.foldl (fun u x => noteEdge before x u) s).clp.queue := by
  induction ls generalizing s with
  | nil => cases hl
  | cons x ls ih =>
    rw [List.length_cons] at hq
    rw [List.foldl_cons]
    by_cases hx : l = x
    · subst hx
      subst hi hn
      exact (queued_foldl (fun u y => queued_noteEdge before y u) ls _).mem (noteEdge_mem hm he (by omega))
    · have hle := (queued_noteEdge before x s).length_le
      exact ih ((List.mem_cons.1 hl).resolve_left hx) _ (by simp [hi]) (by simp [hn]) (by omega)

/-- The tasks of the consumers send behind what waits. -/
theorem tasks_mem {m : Bool} {f : TxFrame} (l : List FrameTask) (h : f ∈ s.clp.queue) :
    f ∈ (l.foldl (fun u x => performTask m x u) s).clp.queue := by
  obtain ⟨e, he⟩ := (works_foldl (fun u x => performTask m x u) (fun _ _ => works_performTask .refl) l s).frame.clp.queue
  rw [he]
  exact List.mem_append_left _ h

theorem LineState.edgeEvent_settles {x : LineState} {l : Line} {v d : Level} {now : Stamp} {c : LineCandidate}
    (h : outputClass l x.settings.mode = false) (hd : x.debounced = some d)
    (hv : d ≠ v) (hx : x.candidate = some c) (hc : c.level = v) (ht : 20 ≤ now.since c.since)
    (he : x.settings.edge.selects v = true) : edgeEvent x (x.sample l v now) = some v := by
  unfold edgeEvent debouncedChange
  rw [hd, (sample_settles h hd hv hx hc ht).1]
  simp [hv, he]

theorem sendsEdges_of {m : LineMode} (h : m = .input ∨ m = .inputPullup) : sendsEdges m = true := by
  rcases h with rfl | rfl <;> rfl

/-! ## Marks (R14, R136) -/

/-- The last entry of the ring is a mark of the state as it stands. -/
def State.marked (s : State) : Prop :=
  ∃ e, s.log.ring.getLast? = some e ∧ e.time = s.log.clock ∧ e.part = .mark (markPart s)
    ∧ e.sequence + 1 = s.log.nextSequence

theorem makeMark_marked (h : s.log.enables.mark = true) : (makeMark s).marked := by
  unfold makeMark State.marked
  rw [record_log (show s.log.enables.governs (.mark (markPart s)) = true from h), Log.append_eq]
  exact ⟨⟨s.log.nextSequence, s.log.clock, decide (128 ≤ s.log.ring.length), .mark (markPart s)⟩, by simp, rfl, rfl, rfl⟩

/-- In an order that marks after WEN's and LTR's tasks, nothing but an evaluation follows the mark. -/
theorem orderedTasks_markLast (o : FrameOrder) (h : o.markAt = 2) :
    ∃ l, orderedTasks o = l ++ [.mark] ∨ orderedTasks o = l ++ [.mark, .evaluation] := by
  have hall : ∀ g e, orderedTasks ⟨g, 2, e⟩ = (orderedTasks ⟨g, 2, e⟩).take 3 ++ [.mark]
      ∨ orderedTasks ⟨g, 2, e⟩ = (orderedTasks ⟨g, 2, e⟩).take 2 ++ [.mark, .evaluation] := by decide
  obtain ⟨g, m, e⟩ := o
  subst h
  exact (hall g e).elim (fun h => ⟨_, .inl h⟩) fun h => ⟨_, .inr h⟩

theorem takeFrame_marked (h : s.log.enables.mark = true) (hm : isMark s.iau.lines (acquire codes levels s) = true)
    (ho : order.markAt = 2) : (takeFrame codes levels order s).marked := by
  have enabled (l : List FrameTask) :
      (l.foldl (fun u x => performTask true x u) (acquire codes levels s)).log.enables.mark = true := by
    obtain ⟨-, he, -⟩ := steady_tasks (m := true) (s := s) l (Steady.refl.of_eq (t := s) (u := acquire codes levels s)
      (by simp) (by simp))
    rw [he, h]
  unfold takeFrame
  dsimp only
  rw [hm]
  obtain ⟨l, hl | hl⟩ := orderedTasks_markLast order ho
  · rw [hl, List.foldl_append]
    exact makeMark_marked (enabled l)
  · rw [hl, List.foldl_append]
    exact makeMark_marked (enabled l)

/-- Settles O12: R13's cases line by line; the notice of an edge finds room, and the mark is LOG's last entry. -/
theorem frameDebouncesLines : Obligations.FrameDebouncesLines := by
  refine ⟨fun codes levels order s hp => ?_, fun codes levels order s l d c hp ho hd hne hc hlv ht he => ?_⟩
  · refine ⟨_, exec_acquisitionFrame codes levels order hp, ?_, fun l => ?_⟩
    · rw [takeFrame_switch, switchState_iff]
    · dsimp only
      rw [takeFrame_line]
      obtain ⟨hs, hw, hv⟩ := LineState.sample_keeps (s.iau.lines.get l) l (levels.get l) s.log.clock
      refine ⟨hs, hw, hv, LineState.sample_output, fun ho => ⟨LineState.sample_first ho, LineState.sample_same ho,
        fun d hd hne => ⟨LineState.sample_begins ho hd hne, fun c hc hlv =>
          ⟨LineState.sample_settles ho hd hne hc hlv, LineState.sample_waits ho hd hne hc hlv⟩⟩⟩⟩
  · have hedge := LineState.edgeEvent_settles ho hd hne hc hlv ht he
    refine ⟨_, exec_acquisitionFrame codes levels order hp, fun hm hq => ?_, fun hl hm hk hat => ?_⟩
    · have hlen := (queued_setSensorFaults codes (sampleInputs codes levels s)).length_le
      have hmem := foldl_noteEdge_mem (v := levels.get l) (sendsEdges_of hm) (i := (sampleInputs codes levels s).iau)
        (by simpa [sampleInputs] using hedge) Line.list (Line.mem_list l)
        (setSensorFaults codes (sampleInputs codes levels s)) (by simp) rfl
        (Nat.le_trans (Nat.add_le_add_right hlen 4) (by
          show (s.clp.queue.length + 9) + 4 ≤ 32
          omega))
      have hclock : (setSensorFaults codes (sampleInputs codes levels s)).log.clock = s.log.clock := by simp
      rw [hclock] at hmem
      exact tasks_mem _ ((queued_updateGeometry (handSwitch (sampled codes levels s))).mem hmem)
    · subst hl
      have hmark : isMark s.iau.lines (acquire codes levels s) = true := by
        have hev : (edgeEvent s.iau.lines.dl3 (acquire codes levels s).iau.lines.dl3).isSome = true := by
          rw [acquire_iau]
          exact congrArg Option.isSome hedge
        simp only [isMark, Bool.and_eq_true, beq_iff_eq]
        exact ⟨hm, hev⟩
      obtain ⟨e, hlast, htime, hpart, hseq⟩ := takeFrame_marked (order := order) hk hmark hat
      exact ⟨e, _, hlast, htime.trans (steady_takeFrame codes levels order s).1, hpart, hseq, rfl, rfl, rfl, rfl⟩

end Sys2Proof.Machine
end

section
/-! PROOF. The bring-up of the tip link (R20 to R27). -/

namespace Sys2Proof.Machine

variable {s t u : State} {new : Tlc}

/-! ## A move of the link -/

@[simp] theorem moveLink_tlc (new : Tlc) (s : State) : (moveLink new s).tlc = new.leaveUp s.tlc.link := by
  unfold moveLink
  dsimp only
  split <;> simp

theorem Tlc.leaveUp_of_ne {x : LinkState} (t : Tlc) (h : x ≠ .up) : t.leaveUp x = t := if_neg fun k => h k.1

theorem Tlc.leaveUp_of_up {x : LinkState} (t : Tlc) (h : t.link = .up) : t.leaveUp x = t := if_neg fun k => k.2 h

/-- Between states other than UP, WEN, LTR and VDR are handed nothing. -/
theorem moveLink_of_down (ho : s.tlc.link ≠ .up) (hn : new.link ≠ .up) :
    (moveLink new s).wen = s.wen ∧ (moveLink new s).ltr = s.ltr ∧ (moveLink new s).vdr = s.vdr := by
  have hh : handLink s.tlc.link new.link (linked new s) = linked new s := by
    unfold handLink
    rw [if_neg (fun k => ho k.1), if_neg (fun k => hn k.2)]
  have h : moveLink new s = if (s.tlc.link == .failed) != (new.link == .failed)
      then selectHorn (linked new s) else linked new s := by
    conv_rhs => rw [← hh]
    rfl
  rw [h]
  split <;> exact ⟨rfl, rfl, rfl⟩

theorem linked_tipConditions (new : Tlc) (s : State) : (linked new s).tipConditions := by
  have hd : (linked new s).clp.isLive .tipDown = (new.link != .up) :=
    (setLive_other .tipFailed .tipDown nofun).trans (Clp.setLive_self _ _ _)
  have hf : (linked new s).clp.isLive .tipFailed = (new.link == .failed) := Clp.setLive_self _ _ _
  unfold State.tipConditions
  rw [hd, hf, linked_link]
  simp

theorem moveLink_tipConditions (new : Tlc) (s : State) : (moveLink new s).tipConditions :=
  (Moves.refl.works (works_moveLink new s)).tipConditions (linked_tipConditions new s)

/-- What the changes of the link and of TIP_STUCK leave of LOG: no lift ends where the live estimate is absent. -/
theorem moveLink_log (new : Tlc) (s : State) : (moveLink new s).log = s.log := by
  have hh : (handLink s.tlc.link new.link (linked new s)).log = s.log := by
    unfold handLink tipLinkDown
    split
    · simp [linked]
    · split <;> simp [linked]
  unfold moveLink
  dsimp only
  split
  · exact hh
  · exact hh

theorem setStuck_log (v : Bool) (s : State) : (setStuck v s).log = s.log := by
  unfold setStuck tipStuckChanged
  split
  · rfl
  · rw [(rejudgeSources_kept _).1]
    split <;> simp

theorem tipStuckChanged_isLive (s : State) {d : Condition} (hd : d ≠ .limitHold) :
    (tipStuckChanged s).clp.isLive d = s.clp.isLive d := by
  have h : Reports (· = .limitHold) s.clp (tipStuckChanged s).clp := reports_tipStuckChanged rfl .refl
  exact h.isLive d hd

theorem setStuck_stuck (v : Bool) (s : State) : (setStuck v s).clp.isLive .tipStuck = v := by
  unfold setStuck
  split
  · assumption
  · rw [tipStuckChanged_isLive _ (show Condition.tipStuck ≠ .limitHold from nofun)]
    exact Clp.setLive_self _ _ _

/-! ## A fresh bring-up (R22) -/

theorem freshBringUp_tlc (s : State) : (freshBringUp s).tlc = { s.tlc with
    link := .hailing, rate := 0, hailCount := 1, noiseCount := 0, sequenceRef := none
    stuckCount := 0, stuckRef := none, hailTimer := some 10, probeWindow := none
    startWindow := none, resend := none, lossTimer := none, backOff := none
    sent := some .hail } := by
  unfold freshBringUp
  rw [(setStuck_frame _ _).2.2.1, moveLink_tlc]
  unfold Tlc.leaveUp
  split <;> rfl

theorem freshBringUp_conditions (s : State) :
    (freshBringUp s).tipConditions ∧ (freshBringUp s).clp.isLive .tipStuck = false :=
  ⟨(acts_setStuck false (moveLink s.tlc.fresh s)).moves.tipConditions (moveLink_tipConditions _ _),
    setStuck_stuck _ _⟩

theorem freshBringUp_log (s : State) : (freshBringUp s).log = s.log :=
  (setStuck_log _ _).trans (moveLink_log _ _)

/-- Settles O16: each cause reaches the same `freshBringUp`. -/
theorem freshBringUpsBeginAgain : Obligations.FreshBringUpsBeginAgain := by
  intro s i hp
  have fresh (u : State) (hu : u.tlc = s.tlc ∧ u.iau = s.iau ∧ u.geo = s.geo ∧ u.tal = s.tal ∧ u.log = s.log
      ∧ u.sto = s.sto) : (freshBringUp u).tlc = { s.tlc with
          link := .hailing, rate := 0, hailCount := 1, noiseCount := 0, sequenceRef := none
          stuckCount := 0, stuckRef := none, hailTimer := some 10, probeWindow := none
          startWindow := none, resend := none, lossTimer := none, backOff := none
          sent := some .hail }
        ∧ (freshBringUp u).tipConditions ∧ (freshBringUp u).clp.isLive .tipStuck = false
        ∧ (freshBringUp u).iau = s.iau ∧ (freshBringUp u).geo = s.geo ∧ (freshBringUp u).tal = s.tal
        ∧ (freshBringUp u).log = s.log ∧ (freshBringUp u).sto = s.sto := by
    obtain ⟨ht, hi, hg, ha, hl, hs⟩ := hu
    obtain ⟨hc, hk⟩ := freshBringUp_conditions u
    refine ⟨by rw [freshBringUp_tlc, ht], hc, hk, ?_, ?_, ?_, by rw [freshBringUp_log, hl], ?_⟩
    · rw [(freshBringUp_frame u).2.1, hi]
    · rw [(freshBringUp_frame u).2.2.1, hg]
    · rw [(freshBringUp_frame u).2.2.2.1, ha]
    · rw [(freshBringUp_frame u).2.2.2.2.1, hs]
  refine ⟨?_, fun hl => congrArg Host.Outcome.next ((whenPowered_eq hp).trans (if_neg hl))⟩
  rintro (rfl | ⟨rfl, hv⟩ | ⟨rfl, hl⟩)
  · obtain ⟨h1, h2, h3, h4, h5, h6, h7, h8⟩ := fresh s ⟨rfl, rfl, rfl, rfl, rfl, rfl⟩
    exact ⟨_, congrArg Host.Outcome.next (whenPowered_eq hp), h1, h2, h3, h4, h5, h6, h7, h8, nofun⟩
  · obtain ⟨h1, h2, h3, h4, h5, h6, h7, h8⟩ := fresh (s.replied 0x09 .ok []) ⟨rfl, rfl, rfl, rfl, rfl, rfl⟩
    refine ⟨_, congrArg Host.Outcome.next (answer_ok hv), h1, h2, h3, h4, h5, h6, h7, h8, fun _ => ?_⟩
    obtain ⟨e, he⟩ := (acts_freshBringUp (s.replied 0x09 .ok [])).moves.grows.queue
    rw [he, replied_short (Nat.zero_le _)]
    simp
  · obtain ⟨h1, h2, h3, h4, h5, h6, h7, h8⟩ := fresh s ⟨rfl, rfl, rfl, rfl, rfl, rfl⟩
    exact ⟨_, congrArg Host.Outcome.next ((whenPowered_eq hp).trans (if_pos hl)), h1, h2, h3, h4, h5, h6, h7, h8, nofun⟩

/-! ## The exchanges of the bring-up (R23 to R29) -/

/-- A command that moves the link, from a state other than UP into one. -/
theorem moves_link {i : Instr} {x : Tlc} (he : exec i s = .next (moveLink new s)) (hx : new.leaveUp s.tlc.link = x)
    (hn : new.link ≠ .up) : ∃ t, exec i s = .next t ∧ t.tlc = x ∧ t.tipConditions
      ∧ t.iau = s.iau ∧ t.geo = s.geo ∧ t.tal = s.tal ∧ t.log = s.log ∧ t.sto = s.sto
      ∧ (s.tlc.link ≠ .up → t.wen = s.wen ∧ t.ltr = s.ltr ∧ t.vdr = s.vdr) :=
  ⟨_, he, (moveLink_tlc new s).trans hx, moveLink_tipConditions new s, by simp, by simp, by simp, moveLink_log new s,
    by simp, fun ho => moveLink_of_down ho hn⟩

theorem exec_powered {f : State → State} (hp : s.powered = true) (h : f s = t) :
    (Host.Outcome.next (whenPowered f s) : Host.Outcome State Fault Refusal) = .next t :=
  congrArg Host.Outcome.next ((whenPowered_eq hp).trans h)

theorem Tlc.stepDown_ne_up (t : Tlc) : t.stepDown.link ≠ .up := by
  unfold stepDown
  split <;> exact nofun

theorem Tlc.stepDown_leave (t : Tlc) {x : LinkState} (h : x ≠ .up) :
    t.stepDown.leaveUp x = if t.rate < 3 then t.probing (t.rate + 1) else t.failed := leaveUp_of_ne _ h

/-- Settles O17: each exchange is one `moveLink`, in the link state it needs. -/
theorem linkStatesFollowTheExchanges : Obligations.LinkStatesFollowTheExchanges := by
  refine ⟨fun s hp => ?_, fun s hp => ?_⟩
  · intro quiet probing failed next moves
    refine ⟨fun hl => ⟨?_, fun hc => ?_, fun hc => ?_⟩, fun hl => ⟨?_, ?_⟩, fun hl => ?_, fun hl => ?_,
      fun r n => ⟨fun h => ?_, fun h => ?_⟩, fun hl => ?_, fun hl => ?_, fun hl => ?_, fun hl => ?_⟩
    · exact moves_link (exec_powered hp (if_pos hl)) (Tlc.leaveUp_of_ne _ (by rw [hl]; nofun)) nofun
    · exact moves_link (exec_powered hp ((if_pos hl).trans (if_neg (Nat.not_lt.2 hc))))
        (Tlc.leaveUp_of_ne _ (by rw [hl]; nofun)) nofun
    · exact exec_powered hp ((if_pos hl).trans (if_pos hc))
    · exact exec_powered hp (if_neg hl)
    · exact exec_powered hp (if_neg hl)
    · exact moves_link (exec_powered hp (if_pos hl)) (Tlc.stepDown_leave _ (by rw [hl]; nofun)) (Tlc.stepDown_ne_up _)
    · exact exec_powered hp (if_neg hl)
    · obtain ⟨hl, hr, h1, h5⟩ := h
      refine moves_link (exec_powered hp (if_pos ⟨hl, hr, ?_⟩)) (Tlc.leaveUp_of_ne _ (by rw [hl]; nofun)) nofun
      simp [Nat.inRange, h1, h5]
    · refine exec_powered hp (if_neg fun ⟨hl, hr, hn⟩ => ?_)
      simp only [Nat.inRange, Bool.and_eq_true, decide_eq_true_eq] at hn
      rcases h with h | h | h | h
      · exact h hl
      · exact h hr
      · omega
      · omega
    · exact moves_link (exec_powered hp (if_pos hl)) (Tlc.stepDown_leave _ (by rw [hl]; nofun)) (Tlc.stepDown_ne_up _)
    · exact exec_powered hp (if_neg hl)
    · refine moves_link (exec_powered hp (if_pos hl)) ?_ nofun
      rw [hl]
      exact if_pos ⟨rfl, nofun⟩
    · exact exec_powered hp (if_neg hl)
  · have resend (n m : Nat) (h : n + 1 ≤ m) : (if n + 1 < m then some 10 else none : Timer)
        = if n + 1 = m then none else some 10 := by
      rcases Nat.lt_or_eq_of_le h with h | h
      · rw [if_pos h, if_neg (Nat.ne_of_lt h)]
      · rw [if_neg (by omega), if_pos h]
    refine ⟨fun hl hn => ?_, fun h => ?_, fun hl hn => ?_, fun h => ?_⟩
    · refine exec_powered hp ((if_pos ⟨hl, hn⟩).trans ?_)
      dsimp only
      rw [resend _ 5 hn]
    · exact exec_powered hp (if_neg fun k => h.elim (fun h => h k.1) (Nat.not_le.2 k.2))
    · refine exec_powered hp ((if_pos ⟨hl, hn⟩).trans ?_)
      dsimp only
      rw [resend _ 3 hn]
    · exact exec_powered hp (if_neg fun k => h.elim (fun h => h k.1) (Nat.not_le.2 k.2))

end Sys2Proof.Machine
end

section
/-! PROOF. DATA frames: accepted, dropped, and the stuck rule (R28 to R33). -/

namespace Sys2Proof.Machine

variable {s t u : State}

/-! ## What the judgement of the sources leaves of WEN -/

/-- All that WEN holds but for the source, the live estimate, the windows and a capture in flight. -/
structure Wen.Held (w w' : Wen) : Prop where
  calibration : w'.calibration = w.calibration
  settings : w'.settings = w.settings
  k : w'.k = w.k
  latestTemperature : w'.latestTemperature = w.latestTemperature
  previousCorrected : w'.previousCorrected = w.previousCorrected
  previousCount : w'.previousCount = w.previousCount
  previousCylinder : w'.previousCylinder = w.previousCylinder
  frameForce : w'.frameForce = w.frameForce
  zeroOffset : w'.zeroOffset = w.zeroOffset

theorem Wen.Held.trans {a b c : Wen} (h : a.Held b) (k : b.Held c) : a.Held c :=
  ⟨k.1.trans h.1, k.2.trans h.2, k.3.trans h.3, k.4.trans h.4, k.5.trans h.5, k.6.trans h.6, k.7.trans h.7,
    k.8.trans h.8, k.9.trans h.9⟩

theorem Wen.Same.held {a b : Wen} (h : a.Same b) : a.Held b :=
  ⟨h.calibration, h.settings, h.k, h.latestTemperature, h.previousCorrected, h.previousCount, h.previousCylinder,
    h.frameForce, h.zeroOffset⟩

theorem Wen.Held.refl (w : Wen) : w.Held w := ⟨rfl, rfl, rfl, rfl, rfl, rfl, rfl, rfl, rfl⟩

theorem changeSource_held (x : Source) (s : State) : s.wen.Held (changeSource x s).wen := by
  have h : (sourced x s).wen.Same (changeSource x s).wen := same_handLiveUpdate (.refl _)
  exact (show s.wen.Held (sourced x s).wen from ⟨rfl, rfl, rfl, rfl, rfl, rfl, rfl, rfl, rfl⟩).trans h.held

theorem rejudgeSources_held (s : State) : s.wen.Held (rejudgeSources s).wen := by
  unfold rejudgeSources
  split
  · exact (same_judgeLiftSource (.refl _)).held
  · exact (changeSource_held _ s).trans (same_judgeLiftSource (.refl _)).held

theorem abortCaptures_held (k : List CaptureKind) (s : State) : s.wen.Held (abortCaptures k s).wen :=
  (same_abortCaptures (.refl _)).held

theorem tipLinkDown_held (s : State) :
    ({ s.wen with previousCorrected := none, previousCount := none } : Wen).Held (tipLinkDown s).wen :=
  (abortCaptures_held [.zero, .span] (setLive .tipOverrange false
    { s with wen := { s.wen with previousCorrected := none, previousCount := none } })).trans (rejudgeSources_held _)

theorem setStuck_held (v : Bool) (s : State) : s.wen.Held (setStuck v s).wen := by
  unfold setStuck tipStuckChanged
  split
  · exact .refl _
  · split
    · exact (abortCaptures_held _ (setLive .tipStuck v s)).trans (rejudgeSources_held _)
    · exact rejudgeSources_held (setLive .tipStuck v s)

theorem moveLink_wen (new : Tlc) (s : State) :
    (moveLink new s).wen = (handLink s.tlc.link new.link (linked new s)).wen := by
  unfold moveLink
  dsimp only
  split <;> rfl

/-- The link leaves UP: no predecessor is left of the samples (R60, R68). -/
theorem moveLink_leaves {new : Tlc} (ho : s.tlc.link = .up) (hn : new.link ≠ .up) :
    ({ s.wen with previousCorrected := none, previousCount := none } : Wen).Held (moveLink new s).wen := by
  rw [moveLink_wen]
  unfold handLink
  rw [if_pos ⟨ho, hn⟩]
  exact tipLinkDown_held (linked new s)

theorem moveLink_enters {new : Tlc} (hn : new.link = .up) : s.wen.Held (moveLink new s).wen := by
  rw [moveLink_wen]
  unfold handLink
  rw [if_neg fun k => k.2 hn]
  split
  · exact rejudgeSources_held (linked new s)
  · exact .refl _

/-! ## An accepted frame (R28, R31, R32) -/

/-- TLC and WEN as an accepted frame leaves the link and TIP_STUCK, before its sample is handed on. -/
def received (q : Byte) (x : TipSample) (n : Nat) (s : State) : State :=
  let s1 := if n = 0 then s else countErrors n s
  setStuck (stuckLiveAfter s.tlc (s.clp.isLive .tipStuck) x.force) (moveLink (s1.tlc.accepted q x) s1)

theorem acceptFrame_eq (q : Byte) (x : TipSample) (n : Nat) (s : State) : acceptFrame q x n s
    = if n = 0 then tipSample x (received q x n s) else judgeNoise (tipSample x (received q x n s)) := rfl

theorem countErrors_tlc (n : Nat) (s : State) : (countErrors n s).tlc = { s.tlc with
    errorCounter := saturate16 (s.tlc.errorCounter + n), noiseCount := saturate16 (s.tlc.noiseCount + n) } := by
  unfold countErrors
  dsimp only
  split <;> rfl

/-- The counters behind n missing frames. -/
theorem counted_tlc (n : Nat) (s : State) : (if n = 0 then s else countErrors n s).tlc = { s.tlc with
    errorCounter := if n = 0 then s.tlc.errorCounter else saturate16 (s.tlc.errorCounter + n)
    noiseCount := if n = 0 then s.tlc.noiseCount else saturate16 (s.tlc.noiseCount + n) } := by
  split
  · rfl
  · exact countErrors_tlc n s

theorem received_tlc (q : Byte) (x : TipSample) (n : Nat) (s : State) : (received q x n s).tlc
    = { s.tlc.accepted q x with
        errorCounter := if n = 0 then s.tlc.errorCounter else saturate16 (s.tlc.errorCounter + n)
        noiseCount := if n = 0 then s.tlc.noiseCount else saturate16 (s.tlc.noiseCount + n) } := by
  unfold received
  dsimp only
  rw [(setStuck_frame _ _).2.2.1, moveLink_tlc, Tlc.leaveUp_of_up _ rfl, counted_tlc]
  rfl

theorem received_tipConditions (q : Byte) (x : TipSample) (n : Nat) (s : State) :
    (received q x n s).tipConditions :=
  (acts_setStuck _ _).moves.tipConditions (moveLink_tipConditions _ _)

theorem tipSample_tipConditions {x : TipSample} (h : s.tipConditions) : (tipSample x s).tipConditions :=
  (Moves.refl.works (works_tipSample .refl)).tipConditions h

theorem received_stuck (q : Byte) (x : TipSample) (n : Nat) (s : State) : (received q x n s).clp.isLive .tipStuck
    = stuckLiveAfter s.tlc (s.clp.isLive .tipStuck) x.force := setStuck_stuck _ _

theorem tipSample_stuck (x : TipSample) (s : State) :
    (tipSample x s).clp.isLive .tipStuck = s.clp.isLive .tipStuck := by
  have h : Reports (fun d => d ≠ .tipStuck) s.clp (tipSample x s).clp :=
    reports_tipSample nofun nofun nofun nofun .refl
  exact h.isLive _ fun k => k rfl

/-- A sample becomes the predecessor of the next (R59). -/
theorem tipSample_predecessor (x : TipSample) (s : State) :
    (tipSample x s).wen.previousCount = some x.force ∧ (tipSample x s).wen.latestTemperature = some x.temperature
      ∧ (tipSample x s).wen.previousCorrected = some (correctedValue s.wen x) := ⟨rfl, rfl, rfl⟩

/-! ## Frames by their step from the reference (R28) -/

theorem tipSampleOf_eq (c a : BitVec 16) (g x : Byte) : tipSampleOf c a g x
    = ⟨c.toNat, min a.toNat 900, if -40 ≤ g.toInt ∧ g.toInt ≤ 85 then g.toInt else 127, x.getLsbD 0⟩ := by
  simp [tipSampleOf, Int.inRange]

theorem judgeFrame_none {q : Byte} {x : TipSample} (h : s.tlc.sequenceRef = none) :
    judgeFrame q x s = acceptFrame q x 0 s := by
  unfold judgeFrame
  rw [h]

theorem judgeFrame_accepts {q r : Byte} {x : TipSample} (h : s.tlc.sequenceRef = some r)
    (h1 : 1 ≤ (q - r).toNat) (h2 : (q - r).toNat ≤ 128) :
    judgeFrame q x s = acceptFrame q x ((q - r).toNat - 1) s := by
  unfold judgeFrame
  rw [h]
  refine if_pos ?_
  rw [Nat.inRange, Bool.and_eq_true]
  exact ⟨decide_eq_true h1, decide_eq_true h2⟩

theorem judgeFrame_drops {q r : Byte} {x : TipSample} (h : s.tlc.sequenceRef = some r)
    (hd : (q - r).toNat = 0 ∨ 129 ≤ (q - r).toNat) : judgeFrame q x s = dropFrame s := by
  unfold judgeFrame
  rw [h]
  refine if_neg fun k => ?_
  simp only [Nat.inRange, Bool.and_eq_true, decide_eq_true_eq] at k
  omega

theorem takeData_up {q : Byte} {x : TipSample} (h : s.tlc.link = .up) : takeData q x s = judgeFrame q x s := by
  unfold takeData
  rw [h]

theorem takeData_starting {q : Byte} {x : TipSample} (h : s.tlc.link = .starting) :
    takeData q x s = acceptFrame q x 0 s := by
  unfold takeData
  rw [h]

theorem takeData_other {q : Byte} {x : TipSample} (hu : s.tlc.link ≠ .up) (hs : s.tlc.link ≠ .starting) :
    takeData q x s = s := by
  unfold takeData
  cases h : s.tlc.link with
  | up => exact absurd h hu
  | starting => exact absurd h hs
  | _ => rfl

/-- The frame that follows the reference is accepted with none missing. -/
theorem exec_inOrder {r : Byte} {c a : BitVec 16} {g x : Byte} (hp : s.powered = true) (hl : s.tlc.link = .up)
    (hr : s.tlc.sequenceRef = some r) : exec (.dataFrame (r + 1) c a g x) s
      = .next (tipSample (tipSampleOf c a g x) (received (r + 1) (tipSampleOf c a g x) 0 s)) := by
  have hd : (r + 1 - r).toNat = 1 := by
    rw [BitVec.add_comm, BitVec.add_sub_cancel]
    rfl
  refine exec_powered hp ((takeData_up hl).trans ((judgeFrame_accepts hr (by omega) (by omega)).trans ?_))
  rw [hd]
  rfl

/-! ## The noise rule (R30) -/

theorem judgeNoise_stands (h : s.tlc.noiseCount < 25) : judgeNoise s = s := if_neg fun k => by omega

theorem judgeNoise_stepsDown (hl : s.tlc.link = .up) (h : 25 ≤ s.tlc.noiseCount) :
    judgeNoise s = moveLink s.tlc.stepDown s := if_pos ⟨hl, h⟩

/-- TLC behind a step-down from UP. -/
theorem stepDown_tlc (hl : s.tlc.link = .up) : (moveLink s.tlc.stepDown s).tlc
    = { s.tlc.stepDown with sequenceRef := none, noiseCount := 0 } := by
  rw [moveLink_tlc, hl]
  exact if_pos ⟨rfl, Tlc.stepDown_ne_up _⟩

theorem Tlc.stepDown_kept (t : Tlc) : t.stepDown.errorCounter = t.errorCounter
    ∧ t.stepDown.lastSample = t.lastSample
    ∧ (t.rate < 3 → t.stepDown.link = .probing ∧ t.stepDown.rate = t.rate + 1)
    ∧ (3 ≤ t.rate → t.stepDown.link = .failed ∧ t.stepDown.rate = t.rate) := by
  unfold stepDown
  split
  · exact ⟨rfl, rfl, fun _ => ⟨rfl, rfl⟩, fun h => by omega⟩
  · exact ⟨rfl, rfl, fun h => by omega, fun _ => ⟨rfl, rfl⟩⟩

theorem tipDown_of_up (h : s.tipConditions) (hl : s.tlc.link = .up) : s.clp.isLive .tipDown = false :=
  Bool.eq_false_iff.2 fun k => h.1.1 k hl

/-- What an accepted frame leaves, from any state that takes it: with n frames missing (R28 to R32). -/
theorem acceptFrame_leaves (q : Byte) (c a : BitVec 16) (g x : Byte) (n : Nat) (s : State) :
    let t := acceptFrame q (tipSampleOf c a g x) n s
    let sample := tipSampleOf c a g x
    t.iau = s.iau ∧ t.geo = s.geo ∧ t.tal = s.tal ∧ t.sto = s.sto ∧ t.vdr.sections = s.vdr.sections
      ∧ t.tlc.lastSample = some (sample, q)
      ∧ t.tlc.errorCounter = (if n = 0 then s.tlc.errorCounter else min 65535 (s.tlc.errorCounter + n))
      ∧ (s.tlc.noiseCount + n < 25 ∨ n = 0 →
        t.tlc.link = .up ∧ t.tlc.rate = s.tlc.rate ∧ t.tlc.sequenceRef = some q
          ∧ t.tlc.lossTimer = some 40 ∧ t.tlc.stuckRef = some c.toNat
          ∧ t.tlc.noiseCount = s.tlc.noiseCount + n ∧ t.clp.isLive .tipDown = false)
      ∧ (25 ≤ s.tlc.noiseCount + n → n ≠ 0 →
        t.tlc.sequenceRef = none ∧ t.tlc.noiseCount = 0 ∧ t.clp.isLive .tipDown = true
          ∧ (s.tlc.rate < 3 → t.tlc.link = .probing ∧ t.tlc.rate = s.tlc.rate + 1)
          ∧ (3 ≤ s.tlc.rate → t.tlc.link = .failed ∧ t.tlc.rate = s.tlc.rate))
      ∧ t.wen.previousCount = (if 25 ≤ s.tlc.noiseCount + n ∧ n ≠ 0 then none else some c.toNat)
      ∧ t.wen.latestTemperature = some sample.temperature := by
  intro t sample
  refine ⟨by simp [t], by simp [t], by simp [t], by simp [t], (steady_acceptFrame .refl).2.2, ?_⟩
  have hsat : saturate16 (s.tlc.errorCounter + n) = min 65535 (s.tlc.errorCounter + n) := Nat.min_comm _ _
  have hu : (tipSample sample (received q sample n s)).tlc = _ := (tipSample_frame _ _).2.2.1.trans
    (received_tlc q sample n s)
  have hc := tipSample_tipConditions (x := sample) (received_tipConditions q sample n s)
  obtain ⟨hcount, htemp, -⟩ := tipSample_predecessor sample (received q sample n s)
  have ht : t = if n = 0 then tipSample sample (received q sample n s)
      else judgeNoise (tipSample sample (received q sample n s)) := rfl
  generalize tipSample sample (received q sample n s) = v at hu hc hcount htemp ht
  have hnoise : v.tlc.noiseCount = if n = 0 then s.tlc.noiseCount else saturate16 (s.tlc.noiseCount + n) := by rw [hu]
  have herr : v.tlc.errorCounter = if n = 0 then s.tlc.errorCounter else min 65535 (s.tlc.errorCounter + n) := by
    rw [hu, ← hsat]
  have hup : v.tlc.link = .up := by
    rw [hu]
    rfl
  have hlast : v.tlc.lastSample = some (sample, q) := by
    rw [hu]
    rfl
  have hrate : v.tlc.rate = s.tlc.rate := by
    rw [hu]
    rfl
  by_cases hd : 25 ≤ s.tlc.noiseCount + n ∧ n ≠ 0
  · obtain ⟨hd, hn⟩ := hd
    rw [if_neg hn] at hnoise ht
    have h25 : 25 ≤ v.tlc.noiseCount := by
      rw [hnoise]
      unfold saturate16
      omega
    rw [judgeNoise_stepsDown hup h25] at ht
    have htlc := stepDown_tlc hup
    have hcond := moveLink_tipConditions v.tlc.stepDown v
    have hheld := moveLink_leaves hup v.tlc.stepDown_ne_up
    rw [← ht] at htlc hcond hheld
    obtain ⟨he, hs, hslow, hfail⟩ := v.tlc.stepDown_kept
    rw [hrate] at hslow hfail
    have hdown : t.clp.isLive .tipDown = true := hcond.1.2 (by
      rw [htlc]
      exact v.tlc.stepDown_ne_up)
    refine ⟨by rw [htlc]; exact hs.trans hlast, by rw [htlc]; exact he.trans herr, fun h => by omega, fun _ _ => ?_,
      by rw [if_pos ⟨hd, hn⟩]; exact hheld.previousCount, hheld.latestTemperature.trans htemp⟩
    rw [htlc]
    exact ⟨rfl, rfl, hdown, hslow, hfail⟩
  · have htv : t = v := by
      rw [ht]
      split
      · rfl
      · next hn =>
        rw [if_neg hn] at hnoise
        refine judgeNoise_stands ?_
        rw [hnoise]
        unfold saturate16
        omega
    rw [htv, if_neg hd]
    refine ⟨hlast, herr, fun _ => ⟨hup, hrate, ?_, ?_, ?_, ?_, tipDown_of_up hc hup⟩, fun h hn => absurd ⟨h, hn⟩ hd,
      hcount, htemp⟩
    · rw [hu]
      rfl
    · rw [hu]
      rfl
    · rw [hu]
      rfl
    · rw [hnoise]
      unfold saturate16
      split <;> omega

/-- A dropped frame counts one error, and steps the link down at a noise count of 25 (R28, R30). -/
theorem dropFrame_leaves (s : State) (hl : s.tlc.link = .up) :
    let t := dropFrame s
    (s.tlc.noiseCount < 24 →
        t = { s with
          tlc := { s.tlc with
            errorCounter := min 65535 (s.tlc.errorCounter + 1)
            noiseCount := s.tlc.noiseCount + 1 }
          clp := t.clp })
      ∧ (24 ≤ s.tlc.noiseCount →
        t.tlc.errorCounter = min 65535 (s.tlc.errorCounter + 1) ∧ t.tlc.noiseCount = 0
          ∧ t.tlc.sequenceRef = none ∧ t.tlc.lastSample = s.tlc.lastSample
          ∧ t.iau = s.iau ∧ t.geo = s.geo ∧ t.tal = s.tal ∧ t.sto = s.sto
          ∧ t.vdr.sections = s.vdr.sections
          ∧ (s.tlc.rate < 3 → t.tlc.link = .probing ∧ t.tlc.rate = s.tlc.rate + 1)
          ∧ (3 ≤ s.tlc.rate → t.tlc.link = .failed ∧ t.tlc.rate = s.tlc.rate))
      ∧ (65534 ≤ s.tlc.errorCounter → t.clp.isLive .tipErrOverflow = true) := by
  intro t
  have htlc := countErrors_tlc 1 s
  have hsat : saturate16 (s.tlc.errorCounter + 1) = min 65535 (s.tlc.errorCounter + 1) := Nat.min_comm _ _
  have hsteady : Steady s (countErrors 1 s) := Steady.refl.of_eq (by simp) (by simp)
  have hlive : 65534 ≤ s.tlc.errorCounter → (countErrors 1 s).clp.isLive .tipErrOverflow = true := fun h => by
    unfold countErrors
    dsimp only
    rw [if_pos (by unfold saturate16; omega)]
    exact Clp.setLive_self _ _ _
  have hup : (countErrors 1 s).tlc.link = .up := by rw [htlc]; exact hl
  refine ⟨fun hn => ?_, fun hn => ?_, fun he => ?_⟩
  · have hnoise : saturate16 (s.tlc.noiseCount + 1) = s.tlc.noiseCount + 1 := by
      unfold saturate16
      omega
    have ht : t = countErrors 1 s := judgeNoise_stands (by
      rw [htlc]
      show saturate16 _ < 25
      omega)
    rw [ht]
    refine State.ext_parts ?_ ?_ ?_ ?_ ?_ ?_ ?_ ?_ ?_ ?_ ?_ ?_ ?_ <;> simp [htlc, hsat, hnoise]
  · have h25 : 25 ≤ (countErrors 1 s).tlc.noiseCount := by
      rw [htlc]
      show 25 ≤ saturate16 _
      unfold saturate16
      omega
    have ht : t = moveLink (countErrors 1 s).tlc.stepDown (countErrors 1 s) := judgeNoise_stepsDown hup h25
    obtain ⟨he, hs, hslow, hfail⟩ := (countErrors 1 s).tlc.stepDown_kept
    have hv := (steady_moveLink (x := (countErrors 1 s).tlc.stepDown) hsteady).2.2
    have hmoved := stepDown_tlc hup
    rw [← ht] at hmoved hv
    rw [htlc] at hslow hfail
    refine ⟨?_, by rw [hmoved], by rw [hmoved], ?_, by rw [ht]; simp, by rw [ht]; simp, by rw [ht]; simp,
      by rw [ht]; simp, hv, ?_, ?_⟩
    · rw [hmoved]
      exact he.trans (by rw [htlc]; exact hsat)
    · rw [hmoved]
      exact hs.trans (by rw [htlc])
    · rw [hmoved, htlc]
      exact hslow
    · rw [hmoved, htlc]
      exact hfail
  · have hr : Reports (fun d => d ≠ .tipErrOverflow) (countErrors 1 s).clp t.clp :=
      reports_judgeNoise nofun nofun nofun nofun .refl
    rw [hr.isLive _ fun k => k rfl]
    exact hlive he

/-- Settles O18: an accepted frame by `acceptFrame_leaves`, a dropped one by `dropFrame_leaves`. -/
theorem dataFramesAreAcceptedOrDropped : Obligations.DataFramesAreAcceptedOrDropped := by
  refine ⟨fun s q c a g x hp => ?_, fun s i hp => ⟨fun hi hl => ?_, fun hl => exec_powered hp (if_neg hl)⟩⟩
  · intro sample accepted
    have accept (n : Nat) (h : takeData q (tipSampleOf c a g x) s = acceptFrame q (tipSampleOf c a g x) n s) :
        accepted n := by
      have hk := acceptFrame_leaves q c a g x n s
      rw [tipSampleOf_eq] at hk h
      refine ⟨_, exec_powered hp ?_, hk⟩
      rw [tipSampleOf_eq]
      exact h
    exact ⟨fun hl => accept 0 (takeData_starting hl), fun hl hr => accept 0 ((takeData_up hl).trans (judgeFrame_none hr)),
      fun r hl hr h1 h2 => accept _ ((takeData_up hl).trans (judgeFrame_accepts hr h1 h2)),
      fun hu hs => exec_powered hp (takeData_other hu hs)⟩
  · rcases hi with rfl | ⟨q, c, a, g, x, r, rfl, hr, hd⟩
    · exact ⟨_, exec_powered hp (if_pos hl), dropFrame_leaves s hl⟩
    · exact ⟨_, exec_powered hp ((takeData_up hl).trans (judgeFrame_drops hr hd)), dropFrame_leaves s hl⟩

/-! ## The stuck rule (R32, R33) -/

theorem StuckRule.threshold_eq (r : StuckRule) : r.threshold = if r = .strict then 24 else 120 := by
  cases r <;> rfl

/-- Settles O19: `stuckLiveAfter` by the stuck reference, and `takeTipLink` by whether the rule changes. -/
theorem stuckRuleCountsEqualForces : Obligations.StuckRuleCountsEqualForces := by
  refine ⟨fun s r c a g x hp hl hr => ?_, fun e r s hv => ⟨?_, fun n m h => ?_⟩⟩
  · refine ⟨_, exec_inOrder hp hl hr, ?_⟩
    rw [(tipSample_frame _ _).2.2.1, received_tlc, tipSample_stuck, received_stuck]
    refine ⟨rfl, fun hn => ?_, fun n hn hne => ?_, fun hn => ?_⟩
    · simp [Tlc.accepted, stuckCountAfter, stuckLiveAfter, hn]
    · have hc : (tipSampleOf c a g x).force = c.toNat := rfl
      simp [Tlc.accepted, stuckCountAfter, stuckLiveAfter, hn, hc, hne]
    · have hc : (tipSampleOf c a g x).force = c.toNat := rfl
      simp [Tlc.accepted, stuckCountAfter, stuckLiveAfter, hn, hc, StuckRule.threshold_eq, saturate16, Nat.min_comm]
  · have hex : exec (.setTipLink e.code r.code) s = .next (takeTipLink ⟨e, r⟩ (s.replied 0x08 .ok [])) := by
      show execSetTipLink _ _ s = _
      unfold execSetTipLink
      rw [ErrorMode.ofCode_code, StuckRule.ofCode_code]
      exact congrArg Host.Outcome.next (answer_ok hv)
    have hmem : .reply 0x08 .ok 0 true [] ∈ (takeTipLink ⟨e, r⟩ (s.replied 0x08 .ok [])).clp.queue := by
      obtain ⟨f, hf⟩ := (acts_takeTipLink ⟨e, r⟩ (s.replied 0x08 .ok [])).moves.grows.queue
      rw [hf, replied_short (Nat.zero_le _)]
      simp
    refine ⟨_, hex, ?_⟩
    by_cases hr : r = s.tlc.settings.stuckRule
    · have ht : takeTipLink ⟨e, r⟩ (s.replied 0x08 .ok [])
          = { s.replied 0x08 .ok [] with tlc := { s.tlc with settings := ⟨e, r⟩ } } := if_pos hr
      exact ⟨by rw [ht], by rw [ht]; rfl, by rw [ht]; rfl, by rw [ht]; rfl, by rw [ht]; rfl, by rw [ht]; rfl, hmem,
        fun _ => by rw [ht], fun h => absurd hr h⟩
    · have ht : takeTipLink ⟨e, r⟩ (s.replied 0x08 .ok []) = setStuck (decide (r.threshold ≤ s.tlc.stuckCount))
          { s.replied 0x08 .ok [] with tlc := { s.tlc with settings := ⟨e, r⟩ } } := if_neg hr
      rw [ht] at hmem ⊢
      refine ⟨by simp, by simp [State.replied], by simp [State.replied], by simp [State.replied], setStuck_log _ _,
        by simp [State.replied], hmem, fun h => absurd h hr, fun _ => ?_⟩
      rw [setStuck_stuck, decide_eq_true_iff, StuckRule.threshold_eq]
  · refine refusedWith_of hv ?_
    show execSetTipLink n m s = _
    unfold execSetTipLink
    rcases h with h | h
    · rw [ErrorMode.ofCode_none h]
    · rw [StuckRule.ofCode_none h]
      cases ErrorMode.ofCode n <;> rfl

end Sys2Proof.Machine
end

section
/-! PROOF. Tip samples: the corrected value, the live estimate, and the windows they feed (R59 to R73). -/

namespace Sys2Proof.Machine

variable {s t u : State}

/-! ## In-order frames that leave TIP_STUCK not live -/

theorem available_tip (s : State) : available s .tip = true
    ↔ s.tlc.link = .up ∧ s.clp.isLive .tipStuck = false ∧ s.wen.calibration.tipValid = true := by
  simp [available, and_assoc]

/-- The current source is TIP exactly where the tip is available. -/
theorem judgedSource_tip : judgedSource s = .tip ↔ available s .tip = true := by
  unfold judgedSource
  split
  · simp [*]
  · split <;> simp [*]

theorem stuckLiveAfter_of_unstuck {c : BitVec 16} (hk : s.clp.isLive .tipStuck = false) (hu : s.unstuckBy c) :
    stuckLiveAfter s.tlc (s.clp.isLive .tipStuck) c.toNat = false := by
  unfold stuckLiveAfter
  rw [hk]
  split
  · rfl
  · next n hn =>
    rcases hu with ⟨m, hm, hne⟩ | ⟨-, hc⟩
    · rw [hn] at hm
      cases hm
      simp [hne]
    · by_cases he : n = c.toNat
      · subst he
        have hlt := hc hn
        simp [stuckCountAfter, hn, StuckRule.threshold_eq, saturate16]
        omega
      · simp [he]

theorem moveLink_upToUp {new : Tlc} (ho : s.tlc.link = .up) (hn : new.link = .up) : moveLink new s = linked new s := by
  have hh : handLink s.tlc.link new.link (linked new s) = linked new s := by
    unfold handLink
    rw [if_neg (fun k => k.2 hn), if_neg (fun k => k.1 ho)]
  have h : moveLink new s = if (s.tlc.link == .failed) != (new.link == .failed)
      then selectHorn (linked new s) else linked new s := by
    conv_rhs => rw [← hh]
    rfl
  rw [h, ho, hn]
  rfl

/-- In UP an in-order frame that leaves TIP_STUCK not live changes TLC alone before its sample is handed on. -/
theorem received_unstuck {q : Byte} {c a : BitVec 16} {g x : Byte} (hl : s.tlc.link = .up)
    (hk : s.clp.isLive .tipStuck = false) (hu : s.unstuckBy c) :
    received q (tipSampleOf c a g x) 0 s = linked (s.tlc.accepted q (tipSampleOf c a g x)) s := by
  have hm : moveLink (s.tlc.accepted q (tipSampleOf c a g x)) s = linked (s.tlc.accepted q (tipSampleOf c a g x)) s :=
    moveLink_upToUp hl rfl
  show setStuck (stuckLiveAfter s.tlc (s.clp.isLive .tipStuck) c.toNat)
    (moveLink (s.tlc.accepted q (tipSampleOf c a g x)) s) = _
  rw [stuckLiveAfter_of_unstuck hk hu, hm]
  refine if_pos ?_
  rw [linked_isLive _ _ (show Condition.tipDown ≠ .tipStuck from nofun) (show Condition.tipFailed ≠ .tipStuck from nofun)]
  exact hk

/-- The state as a tip sample of the current source has joined the live history (steps 1 to 3 of R59). -/
def fedTip (x : TipSample) (s : State) : State :=
  { setLive .tipOverrange x.overrange s with wen := s.wen.feed (correctedValue s.wen x) }

theorem tipSample_onTip {x : TipSample} (h : s.wen.source = .tip) : tipSample x s
    = rememberTip x (correctedValue s.wen x) (handLiveUpdate (completeWindow (countTip x
        (gateTip x (correctedValue s.wen x) (fedTip x s))))) := by
  unfold tipSample
  dsimp only
  rw [h]
  rfl

/-- The state as an in-order frame has taken the link, on the tip source. -/
def onTip (r : Byte) (x : TipSample) (s : State) : State := linked (s.tlc.accepted (r + 1) x) s

theorem exec_onTip {r : Byte} {c a : BitVec 16} {g x : Byte} (hp : s.powered = true) (hl : s.tlc.link = .up)
    (hr : s.tlc.sequenceRef = some r) (hs : s.sourced) (ht : s.wen.source = .tip) (hu : s.unstuckBy c) :
    exec (.dataFrame (r + 1) c a g x) s
      = .next (tipSample (tipSampleOf c a g x) (onTip r (tipSampleOf c a g x) s)) := by
  have ha := judgedSource_tip.1 (hs.1.symm.trans ht)
  rw [exec_inOrder hp hl hr, received_unstuck hl ((available_tip s).1 ha).2.1 hu]
  rfl

/-! ## The gates (R68) -/

/-- A sample passes the three tip gates. -/
def passesTip (w : Wen) (c a : BitVec 16) (g x : Byte) : Prop :=
  min a.toNat 900 ≤ w.settings.swing ∧ x.getLsbD 0 = false ∧ ∃ before, w.previousCorrected = some before
    ∧ (correctedValue w (tipSampleOf c a g x) - before).natAbs ≤ w.settings.jitter

theorem tipAccepted_iff {w : Wen} {c a : BitVec 16} {g x : Byte} :
    tipAccepted w (tipSampleOf c a g x) (correctedValue w (tipSampleOf c a g x)) = true ↔ passesTip w c a g x := by
  unfold passesTip tipAccepted
  have h1 : (tipSampleOf c a g x).swing = min a.toNat 900 := rfl
  have h2 : (tipSampleOf c a g x).overrange = x.getLsbD 0 := rfl
  rw [h1, h2]
  cases w.previousCorrected with
  | none => simp
  | some y => simp [within, and_assoc]

/-! ## Windows (R70) -/

theorem Window.add_eq (w : Window) (x : Int) : w.add x = w.grown x := by
  unfold add grown
  congr 2
  · cases w.low <;> simp [min_comm]
  · cases w.high <;> simp [max_comm]

theorem Window.take_eq {w : Window} (x : Int) (h : w.count < w.size) : w.take x = w.grown x := by
  unfold take
  rw [if_neg (by simpa [complete] using h), add_eq]

theorem Window.complete_iff (w : Window) : w.complete = true ↔ w.size ≤ w.count := by simp [complete]

theorem weighedResult_eq (w : Wen) (source : Source) (mean : Int) (q : Quality) :
    weighedResult w source mean q
      = ⟨if source = .tip then mean - w.calibration.tare - w.zeroOffset else mean,
          clamp (-2000) 30000 (roundDiv (if source = .tip then mean - w.calibration.tare - w.zeroOffset else mean) 10),
          capQuality source q,
          decide (clamp (-2000) 30000
            (roundDiv (if source = .tip then mean - w.calibration.tare - w.zeroOffset else mean) 10)
            < w.settings.minLift)⟩ := rfl

theorem weighs_of (s : State) (source : Source) (mean : Int) (q : Quality) :
    s.weighs source mean (weighedResult s.wen source mean q).net (weighedResult s.wen source mean q).mass :=
  ⟨rfl, _, roundDiv_isRounded _ _ (by decide), clamp_isClamped _ _ _ (by decide)⟩

/-! ## Qualifications that take no event (R88) -/

theorem qualify_none (holds : Bool) (now : Stamp) (time : Nat) : (qualify holds now time none).2 = false := by
  unfold qualify
  split <;> rfl

theorem judgeLive_quiet (ho : s.ltr.state = .gripped → s.ltr.liftOffStart = none)
    (hd : s.ltr.state = .lifted ∨ s.ltr.state = .weighed → s.ltr.dropStart = none) :
    ∃ a b, judgeLive s = { s with ltr := { s.ltr with liftOffStart := a, dropStart := b } } := by
  unfold judgeLive
  dsimp only
  split
  · exact ⟨s.ltr.liftOffStart, s.ltr.dropStart, rfl⟩
  · next hx =>
    rw [ho hx, qualify_none]
    exact ⟨_, s.ltr.dropStart, rfl⟩
  · next hi hg =>
    have hx : s.ltr.state = .lifted ∨ s.ltr.state = .weighed := by
      cases h : s.ltr.state with
      | idle => exact absurd h hi
      | gripped => exact absurd h hg
      | lifted => exact .inl rfl
      | weighed => exact .inr rfl
    rw [hd hx, qualify_none]
    exact ⟨s.ltr.liftOffStart, _, rfl⟩

/-! ## The lift window (R70, R71, R95) -/

/-- Without a capture in flight a raw count joins none. -/
theorem countTip_none {x : TipSample} (h : s.wen.capture = none) : countTip x s = s := by
  unfold countTip captureTip
  rw [h]
  split <;> rfl

theorem feedEmptyWindow_other {x : Int} (h : s.ltr.state ≠ .idle) : feedEmptyWindow x s = s := by
  refine if_neg ?_
  simp [autoZeroRuns, h]

theorem feedLiftWindow_eq {source : Source} {x : Int} {w : Window} (hs : s.wen.liftSource = some source)
    (hw : s.wen.liftWindow = some w) (hc : w.count < w.size) :
    feedLiftWindow source x s = { s with wen := { s.wen with liftWindow := some (w.grown x) } } := by
  unfold feedLiftWindow
  rw [if_pos hs, hw, Option.map_some, w.take_eq x hc]

theorem completeWindow_open {w : Window} (hw : s.wen.liftWindow = some w) (hc : w.count < w.size) :
    completeWindow s = s := by
  unfold completeWindow
  split
  · next h =>
    rw [hw] at h
    cases h
    exact if_neg (by simpa [Window.complete] using hc)
  · rfl

theorem completeWindow_other (h : s.ltr.state ≠ .lifted) : completeWindow s = s := by
  unfold completeWindow
  split
  · next hx _ => exact absurd hx h
  · rfl

theorem completeWindow_full {w : Window} (hx : s.ltr.state = .lifted) (hw : s.wen.liftWindow = some w)
    (hc : w.size ≤ w.count) : completeWindow s = enterState .weighed { s with ltr := { s.ltr with
      result := some (weighedResult s.wen w.source w.mean (w.quality s.wen.settings.spread)) } } := by
  unfold completeWindow
  rw [hx, hw]
  exact if_pos ((Window.complete_iff w).2 hc)

/-- Between LIFTED and WEIGHED nothing of WEN is at stake but a capture that needs IDLE. -/
theorem enterState_weighed (h : s.wen.capture = none) : (enterState .weighed s).wen
    = { s.wen with emptyWindow := none } := by
  show (abortCaptures _ _).wen = _
  rw [abortCaptures_wen]
  simp [capturing, Wen.onLiftState, LiftState.inLift, h]

theorem enterState_ltr (x : LiftState) (s : State) : (enterState x s).ltr = s.ltr.enter x := by
  show (abortCaptures _ _).ltr = _
  simp

/-- A live-estimate update that takes no event. -/
theorem handLiveUpdate_quiet (ho : s.ltr.state = .gripped → s.ltr.liftOffStart = none)
    (hd : s.ltr.state = .lifted ∨ s.ltr.state = .weighed → s.ltr.dropStart = none) :
    (handLiveUpdate s).wen = s.wen
      ∧ ∃ a b, (handLiveUpdate s).ltr = { s.ltr with liftOffStart := a, dropStart := b } := by
  obtain ⟨a, b, h⟩ := judgeLive_quiet ho hd
  have hu : handLiveUpdate s = evaluate (judgeLive s) := rfl
  rw [hu, h]
  exact ⟨rfl, a, b, rfl⟩

/-- What the tip gates do to the lift window while a lift is in progress. -/
theorem gateTip_inLift {x : TipSample} {y : Int} {w : Window} (hx : s.ltr.state ≠ .idle)
    (hs : s.wen.liftSource = some .tip) (hw : s.wen.liftWindow = some w) (hc : w.count < w.size) : gateTip x y s
      = if tipAccepted s.wen x y = true then { s with wen := { s.wen with liftWindow := some (w.grown y) } } else s := by
  unfold gateTip
  split
  · rw [feedLiftWindow_eq hs hw hc]
    exact feedEmptyWindow_other (s := { s with wen := { s.wen with liftWindow := some (w.grown y) } }) hx
  · rfl

/-- A window that is not complete leaves the lift LIFTED. -/
theorem lifted_open {w : Window} (hx : s.ltr.state = .lifted) (hd : s.ltr.dropStart = none)
    (hw : s.wen.liftWindow = some w) (hc : w.count < w.size) :
    (handLiveUpdate (completeWindow s)).ltr.state = .lifted
      ∧ (handLiveUpdate (completeWindow s)).wen.liftWindow = some w := by
  rw [completeWindow_open hw hc]
  obtain ⟨hwen, a, b, hl⟩ := handLiveUpdate_quiet (s := s) (fun k => by rw [hx] at k; cases k) fun _ => hd
  rw [hwen, hl]
  exact ⟨hx, hw⟩

/-- A complete window makes the lift WEIGHED. -/
theorem lifted_full {w : Window} (hx : s.ltr.state = .lifted) (hd : s.ltr.dropStart = none)
    (hcap : s.wen.capture = none) (hw : s.wen.liftWindow = some w) (hc : w.size ≤ w.count) :
    (handLiveUpdate (completeWindow s)).ltr.state = .weighed
      ∧ (handLiveUpdate (completeWindow s)).wen.liftWindow = some w
      ∧ (handLiveUpdate (completeWindow s)).ltr.result
        = some (weighedResult s.wen w.source w.mean (w.quality s.wen.settings.spread)) := by
  rw [completeWindow_full hx hw hc]
  generalize hv : enterState .weighed { s with ltr := { s.ltr with
    result := some (weighedResult s.wen w.source w.mean (w.quality s.wen.settings.spread)) } } = v
  have hvl : v.ltr = Ltr.enter { s.ltr with
      result := some (weighedResult s.wen w.source w.mean (w.quality s.wen.settings.spread)) } .weighed := by
    rw [← hv]
    exact enterState_ltr _ _
  have hvw : v.wen = { s.wen with emptyWindow := none } := by
    rw [← hv]
    exact enterState_weighed hcap
  have hvs : v.ltr.state = .weighed := by
    rw [hvl]
    rfl
  have hvd : v.ltr.dropStart = none := by
    rw [hvl]
    simp [Ltr.enter, hd]
  obtain ⟨hwen, a, b, hl⟩ := handLiveUpdate_quiet (s := v) (fun k => by rw [hvs] at k; cases k) fun _ => hvd
  rw [hwen, hl, hvw]
  refine ⟨hvs, hw, ?_⟩
  rw [hvl]
  rfl

/-- Settles O22: what the gates let through grows the window, and the update after it takes no DROP. -/
theorem liftWindowsGatherAcceptedSamples : Obligations.LiftWindowsGatherAcceptedSamples := by
  intro s r c a g x w y passes grown hp hl hr hs ht hu hx hd hcap hls hw hws hc
  refine ⟨_, exec_onTip hp hl hr hs ht hu, ?_⟩
  rw [tipSample_onTip (s := onTip r (tipSampleOf c a g x) s) ht]
  have hpass : tipAccepted (fedTip (tipSampleOf c a g x) (onTip r (tipSampleOf c a g x) s)).wen (tipSampleOf c a g x)
      y = true ↔ passes := tipAccepted_iff (w := s.wen)
  rw [show correctedValue (onTip r (tipSampleOf c a g x) s).wen (tipSampleOf c a g x) = y from rfl]
  generalize hv : fedTip (tipSampleOf c a g x) (onTip r (tipSampleOf c a g x) s) = v at hpass
  have hvw : v.wen = s.wen.feed y := by rw [← hv]; rfl
  have hvl : v.ltr = s.ltr := by rw [← hv]; rfl
  have hgate : gateTip (tipSampleOf c a g x) y v = _ := gateTip_inLift (w := w)
    (by rw [hvl, hx]; nofun) (by rw [hvw]; exact hls) (by rw [hvw]; exact hw) hc
  refine ⟨fun hn => ?_, fun hy hlt => ?_, fun hy hfull => ?_⟩
  · rw [hgate, if_neg (fun k => hn (hpass.1 k)), countTip_none (by rw [hvw]; exact hcap)]
    exact lifted_open (by rw [hvl, hx]) (by rw [hvl, hd]) (by rw [hvw]; exact hw) hc
  · rw [hgate, if_pos (hpass.2 hy), countTip_none (by rw [hvw]; exact hcap)]
    exact lifted_open (s := { v with wen := { v.wen with liftWindow := some (w.grown y) } })
      (by rw [hvl, hx]) (by rw [hvl, hd]) rfl hlt
  · rw [hgate, if_pos (hpass.2 hy), countTip_none (by rw [hvw]; exact hcap)]
    obtain ⟨hstate, hwindow, hresult⟩ := lifted_full (s := { v with wen := { v.wen with
      liftWindow := some (w.grown y) } }) (w := w.grown y)
      (by rw [hvl, hx]) (by rw [hvl, hd]) (by rw [hvw]; exact hcap) rfl (Nat.le_of_eq hfull.symm)
    refine ⟨hstate, hwindow, grown.mean, _, _, ?_, weighs_of s .tip grown.mean (grown.quality s.wen.settings.spread), ?_⟩
    · have hcount : grown.count = grown.size := hfull
      have h := roundDiv_isRounded grown.sum grown.count (by
        show ((w.count + 1 : Nat) : Int) ≠ 0
        omega)
      rw [← hcount]
      exact h
    · refine hresult.trans ?_
      rw [hvw]
      show some (weighedResult _ w.source _ _) = _
      rw [hws]
      rfl

end Sys2Proof.Machine
end

section
/-! PROOF. Corrected values, auto-zero, and LIFT-OFF at a tip sample (R60 to R73, R94). -/

namespace Sys2Proof.Machine

variable {s t u : State}

/-! ## What a tip sample leaves of K and the settings of WEN -/

/-- K and the weighing settings stand. -/
def Tuned (s t : State) : Prop := t.wen.k = s.wen.k ∧ t.wen.settings = s.wen.settings

theorem Tuned.of_held {w : Wen} (h : Tuned s t) (hw : t.wen.Held w) (hu : u.wen = w) : Tuned s u := by
  unfold Tuned
  rw [hu, hw.k, hw.settings]
  exact h

theorem tuned_finishCapture {c : Capture} {n : CalName} {x y : Int} {cal : Calibration} (h : Tuned s t) :
    Tuned s (finishCapture c n x y cal t) := by
  have hk : Tuned s (judgeNoCal { t with wen := { t.wen with calibration := cal, capture := none } }) := h
  refine hk.of_held (rejudgeSources_held _) ?_
  simp [finishCapture]

theorem tuned_captureTake {c : Capture} {x : Int} (h : Tuned s t) : Tuned s (captureTake c x t) := by
  unfold captureTake
  dsimp only
  split
  · unfold finish
    dsimp only
    split
    · exact tuned_finishCapture (t := setLive .zeroDrift false _) h
    · unfold finishSpan
      dsimp only
      split
      · exact h
      · exact tuned_finishCapture (t := { t with wen := { t.wen with emptyWindow := none } }) h
    · exact tuned_finishCapture h
    · unfold finishCylLoad
      dsimp only
      split
      · exact h
      · split
        · exact tuned_finishCapture h
        · exact h
    · exact h
    · exact h
  · exact h

theorem tuned_countTip {x : TipSample} (h : Tuned s t) : Tuned s (countTip x t) := by
  unfold countTip
  split
  · unfold captureTip
    split
    · exact h
    · split
      · exact tuned_captureTake h
      · exact tuned_captureTake h
      · exact h
      · exact h
  · exact h

theorem tuned_gateTip {x : TipSample} {y : Int} (h : Tuned s t) : Tuned s (gateTip x y t) := by
  unfold gateTip feedEmptyWindow judgeEmptyWindow feedLiftWindow
  dsimp only
  repeat' split
  all_goals exact h

theorem tuned_feedIf {f : Bool} {y : Int} (h : Tuned s t) : Tuned s (feedIf f y t) := by
  unfold feedIf
  split <;> exact h

theorem tuned_tipSample {x : TipSample} (h : Tuned s t) : Tuned s (tipSample x t) := by
  have hc : Tuned s (countTip x (gateTip x (correctedValue t.wen x) (feedIf (t.wen.source == .tip)
      (correctedValue t.wen x) (setLive .tipOverrange x.overrange t)))) :=
    tuned_countTip (tuned_gateTip (tuned_feedIf h))
  have hd := hc.of_held (same_completeWindow (.refl _)).held rfl
  unfold tipSample
  dsimp only
  refine (?_ : Tuned s (handIf _ _))
  unfold handIf
  split
  · exact hd.of_held (same_handLiveUpdate (.refl _)).held rfl
  · exact hd

/-! ## A raw count while the source stays the tip (R75 to R77) -/

/-- What a raw count that joins or completes a capture leaves, where the source stays TIP. -/
structure Counted (s u : State) : Prop where
  source : u.wen.source = s.wen.source
  history : u.wen.history = s.wen.history
  liveEstimate : u.wen.liveEstimate = s.wen.liveEstimate
  settings : u.wen.settings = s.wen.settings
  ltr : s.ltr.state ≠ .lifted → u.ltr = s.ltr
  mlm : u.mlm = s.mlm
  geo : u.geo = s.geo
  clock : u.log.clock = s.log.clock

theorem Counted.refl (s : State) : Counted s s := ⟨rfl, rfl, rfl, rfl, fun _ => rfl, rfl, rfl, rfl⟩

theorem Counted.trans (h : Counted s t) (k : Counted t u) : Counted s u :=
  ⟨k.source.trans h.source, k.history.trans h.history, k.liveEstimate.trans h.liveEstimate,
    k.settings.trans h.settings, fun hx => (k.ltr (by rw [h.ltr hx]; exact hx)).trans (h.ltr hx), k.mlm.trans h.mlm,
    k.geo.trans h.geo, k.clock.trans h.clock⟩

theorem judgeLiftSource_counted (s : State) : Counted s (judgeLiftSource s) where
  source := (same_judgeLiftSource (.refl _)).source
  history := (same_judgeLiftSource (.refl _)).history
  liveEstimate := (same_judgeLiftSource (.refl _)).liveEstimate
  settings := (same_judgeLiftSource (.refl _)).settings
  ltr hx := by
    unfold judgeLiftSource takeDowngrade
    split
    · rfl
    · rfl
    · split
      · rfl
      · split
        · next h => exact absurd h hx
        · rfl
  mlm := by simp
  geo := by simp
  clock := by simp

/-- A judgement that finds the source as it is. -/
theorem rejudgeSources_stands (h : judgedSource s = s.wen.source) : rejudgeSources s = judgeLiftSource s := by
  unfold rejudgeSources
  rw [if_pos h]

theorem finishCapture_counted {c : Capture} {n : CalName} {x y : Int} {cal : Calibration} (hs : s.wen.source = .tip)
    (hl : s.tlc.link = .up) (hk : s.clp.isLive .tipStuck = false) (hv : cal.tipValid = true) :
    Counted s (finishCapture c n x y cal s) := by
  generalize hb : judgeNoCal { s with wen := { s.wen with calibration := cal, capture := none } } = b
  have hcal : Counted s b := by
    rw [← hb]
    exact ⟨rfl, rfl, rfl, rfl, fun _ => rfl, rfl, rfl, rfl⟩
  have hbk : b.clp.isLive .tipStuck = false := by
    rw [← hb]
    exact (setLive_other .noCal .tipStuck nofun).trans hk
  have hbv : b.wen.calibration.tipValid = true := by
    rw [← hb]
    exact hv
  have hbl : b.tlc.link = .up := by
    rw [← hb]
    exact hl
  have hbj : judgedSource b = b.wen.source := by
    rw [judgedSource_tip.2 ((available_tip b).2 ⟨hbl, hbk, hbv⟩), hcal.source, hs]
  have hf : finishCapture c n x y cal s
      = notify (.calDone c.kind c.band y) (record (.cal ⟨n, c.band, x, y⟩) (rejudgeSources b)) := by
    rw [← hb]
    rfl
  rw [hf, rejudgeSources_stands hbj]
  have hj := hcal.trans (judgeLiftSource_counted b)
  have hclock : (record (.cal ⟨n, c.band, x, y⟩) (judgeLiftSource b)).log.clock = (judgeLiftSource b).log.clock :=
    (steady_record .refl).1
  exact ⟨by simpa using hj.source, by simpa using hj.history, by simpa using hj.liveEstimate,
    by simpa using hj.settings, fun hx => by simpa using hj.ltr hx, by simpa using hj.mlm, by simpa using hj.geo,
    hclock.trans hj.clock⟩

theorem failCapture_counted (r : CaptureReason) (s : State) : Counted s (failCapture r s) :=
  ⟨rfl, rfl, rfl, rfl, fun _ => rfl, rfl, rfl, rfl⟩

theorem finish_zero {c : Capture} (h : c.kind = .zero) :
    finish c s = finishZero c (roundDiv c.sum captureSize) s := by
  unfold finish
  rw [h]

theorem finish_span {c : Capture} (h : c.kind = .span) :
    finish c s = finishSpan c (roundDiv c.sum captureSize) s := by
  unfold finish
  rw [h]

theorem finishZero_counted (c : Capture) (mean : Int) (hs : s.wen.source = .tip) (ha : available s .tip = true) :
    Counted s (finishZero c mean s) := by
  obtain ⟨hl, hk, hv⟩ := (available_tip s).1 ha
  simp only [Calibration.tipValid, Bool.and_eq_true] at hv
  have hb : Counted s (setLive .zeroDrift false { s with wen := { s.wen with zeroOffset := 0, emptyWindow := none } }) :=
    ⟨rfl, rfl, rfl, rfl, fun _ => rfl, rfl, rfl, rfl⟩
  exact hb.trans (finishCapture_counted (hb.source.trans hs) hl ((setLive_other .zeroDrift .tipStuck nofun).trans hk)
    (by simp [Calibration.tipValid, hv.2]))

theorem finishSpan_counted (c : Capture) (mean : Int) (hs : s.wen.source = .tip) (ha : available s .tip = true) :
    Counted s (finishSpan c mean s) := by
  obtain ⟨hl, hk, hv⟩ := (available_tip s).1 ha
  simp only [Calibration.tipValid, Bool.and_eq_true] at hv
  unfold finishSpan
  dsimp only
  split
  · exact failCapture_counted _ s
  · have hb : Counted s { s with wen := { s.wen with emptyWindow := none } } :=
      ⟨rfl, rfl, rfl, rfl, fun _ => rfl, rfl, rfl, rfl⟩
    exact hb.trans (finishCapture_counted (s := { s with wen := { s.wen with emptyWindow := none } }) hs hl hk
      (by simp [Calibration.tipValid, hv.1]))

theorem captureTake_counted {c : Capture} {x : Int} (hc : c.kind = .zero ∨ c.kind = .span) (hs : s.wen.source = .tip)
    (ha : available s .tip = true) : Counted s (captureTake c x s) := by
  unfold captureTake
  dsimp only
  split
  · rcases hc with hc | hc
    · rw [finish_zero (c := { c with count := c.count + 1, sum := c.sum + x }) hc]
      exact finishZero_counted _ _ hs ha
    · rw [finish_span (c := { c with count := c.count + 1, sum := c.sum + x }) hc]
      exact finishSpan_counted _ _ hs ha
  · exact ⟨rfl, rfl, rfl, rfl, fun _ => rfl, rfl, rfl, rfl⟩

/-- While the tip is available a raw count leaves the source, the live estimate and the lift. -/
theorem countTip_counted (x : TipSample) (hs : s.wen.source = .tip) (ha : available s .tip = true) :
    Counted s (countTip x s) := by
  unfold countTip
  split
  · unfold captureTip
    split
    · exact .refl s
    · split
      · next hc => exact captureTake_counted (.inl hc) hs ha
      · next hc => exact captureTake_counted (.inr hc) hs ha
      · exact .refl s
      · exact .refl s
  · exact .refl s

/-- The tip gates leave the source, the live estimate and the lift (R68, R72). -/
theorem gateTip_counted (x : TipSample) (y : Int) (s : State) : Counted s (gateTip x y s) := by
  unfold gateTip feedEmptyWindow judgeEmptyWindow feedLiftWindow
  dsimp only
  repeat' split
  all_goals exact ⟨rfl, rfl, rfl, rfl, fun _ => rfl, rfl, rfl, rfl⟩

theorem gateTip_available {x : TipSample} {y : Int} (h : available s .tip = true) :
    available (gateTip x y s) .tip = true := by
  obtain ⟨hl, hk, hv⟩ := (available_tip s).1 h
  have hr : Reports (· = .zeroDrift) s.clp (gateTip x y s).clp := reports_gateTip rfl .refl
  refine (available_tip _).2 ⟨by simp [hl], (hr.isLive .tipStuck nofun).trans hk, ?_⟩
  have hc : (gateTip x y s).wen.calibration = s.wen.calibration := by
    unfold gateTip feedEmptyWindow judgeEmptyWindow feedLiftWindow
    dsimp only
    repeat' split
    all_goals rfl
  rw [hc, hv]

theorem fedTip_available {x : TipSample} (h : available s .tip = true) : available (fedTip x s) .tip = true := by
  obtain ⟨hl, hk, hv⟩ := (available_tip s).1 h
  exact (available_tip _).2 ⟨hl, (setLive_other .tipOverrange .tipStuck nofun).trans hk, hv⟩

/-- The sample has been fed, gated and counted (steps 1 to 5 of R59). -/
def countedTip (x : TipSample) (s : State) : State :=
  countTip x (gateTip x (correctedValue s.wen x) (fedTip x s))

theorem countedTip_counted (x : TipSample) (hs : s.wen.source = .tip) (ha : available s .tip = true) :
    Counted (fedTip x s) (countedTip x s) :=
  (gateTip_counted x _ (fedTip x s)).trans (countTip_counted x ((gateTip_counted x _ (fedTip x s)).source.trans hs)
    (gateTip_available (fedTip_available ha)))

theorem tipSample_eq {x : TipSample} (h : s.wen.source = .tip) : tipSample x s
    = rememberTip x (correctedValue s.wen x) (handLiveUpdate (completeWindow (countedTip x s))) := tipSample_onTip h

/-- The live estimate of a history that a sample has just joined (R67). -/
theorem feed_estimate (w : Wen) (y : Int) (h : w.source = .tip) : ∃ m,
    isRounded (w.feed y).history.sum (w.feed y).history.length m
      ∧ (w.feed y).liveEstimate = some (m - w.calibration.tare - w.zeroOffset) := by
  have hne : (pushHistory w.history y).isEmpty = false := by simp [pushHistory]
  refine ⟨_, roundDiv_isRounded _ _ ?_, ?_⟩
  · show (((pushHistory w.history y).length : Nat) : Int) ≠ 0
    simp [pushHistory]
    omega
  · show estimateOf (pushHistory w.history y) w.source _ _ = _
    unfold estimateOf
    rw [hne, h]
    rfl

theorem tipSample_estimate (x : TipSample) (hs : s.wen.source = .tip) (ha : available s .tip = true) :
    (tipSample x s).wen.history = (s.wen.feed (correctedValue s.wen x)).history
      ∧ (tipSample x s).wen.liveEstimate = (s.wen.feed (correctedValue s.wen x)).liveEstimate := by
  have hc := countedTip_counted x hs ha
  have hh : (countedTip x s).wen.Same (handLiveUpdate (completeWindow (countedTip x s))).wen :=
    same_handLiveUpdate (same_completeWindow (.refl _))
  rw [tipSample_eq hs]
  exact ⟨hh.history.trans hc.history, hh.liveEstimate.trans hc.liveEstimate⟩

theorem received_held (q : Byte) (x : TipSample) (s : State) : s.wen.Held (received q x 0 s).wen :=
  (moveLink_enters (s := s) (new := s.tlc.accepted q x) rfl).trans (setStuck_held _ _)

theorem correctedValue_held {w w' : Wen} (h : w.Held w') (x : TipSample) :
    correctedValue w' x = correctedValue w x := by
  unfold correctedValue
  rw [h.calibration, h.k]

theorem tipSample_overrange (x : TipSample) (s : State) :
    (tipSample x s).clp.isLive .tipOverrange = x.overrange := by
  have hr : Reports (fun d => d ≠ .tipOverrange) (setLive .tipOverrange x.overrange s).clp (tipSample x s).clp := by
    unfold tipSample
    exact reports_handIf nofun (reports_completeWindow nofun (reports_countTip nofun nofun nofun
      (reports_gateTip nofun (reports_feedIf .refl))))
  rw [hr.isLive _ fun k => k rfl]
  exact Clp.setLive_self _ _ _

/-- The two stages of R60 and R62 for a sample that is not overrange. -/
theorem correctedValue_stages (w : Wen) (x : TipSample) (h : x.overrange = false) : ∃ q gross p : Int,
    isRounded (((x.force : Int) - w.calibration.zero) * w.calibration.span) 1024 q
      ∧ isClamped (-20000) 300000 q gross ∧ isRounded (gross * w.k) 1000000 p
      ∧ isClamped (-20000) 300000 p (correctedValue w x) := by
  refine ⟨_, _, _, roundDiv_isRounded _ _ (by decide), clamp_isClamped _ _ _ (by decide),
    roundDiv_isRounded _ _ (by decide), ?_⟩
  have hc : correctedValue w x = clampMass (roundDiv (grossValue w.calibration x.force * w.k) 1000000) := by
    simp [correctedValue, h]
  rw [hc]
  exact clamp_isClamped _ _ _ (by decide)

/-- Settles O21: the sample is corrected on the calibration and K as they stand, whatever the link hands on. -/
theorem tipSamplesAreCorrected : Obligations.TipSamplesAreCorrected := by
  intro s r c a g x hp hl hr
  have hheld := received_held (r + 1) (tipSampleOf c a g x) s
  obtain ⟨hk, hset⟩ := tuned_tipSample (x := tipSampleOf c a g x) (s := s)
    (t := received (r + 1) (tipSampleOf c a g x) 0 s) ⟨hheld.k, hheld.settings⟩
  have hover : (tipSampleOf c a g x).overrange = x.getLsbD 0 := rfl
  have hacc := acceptFrame_frame (r + 1) (tipSampleOf c a g x) 0 s
  refine ⟨_, correctedValue s.wen (tipSampleOf c a g x), exec_inOrder hp hl hr, ?_, rfl, ?_, hk, hset,
    congrArg Tal.labels hacc.2.2.2.1, hacc.2.1, hacc.2.2.1, hacc.2.2.2.2.1, fun hx => ?_, fun hx => ?_,
    fun hs ht hu => ?_⟩
  · rw [(tipSample_predecessor _ _).2.2, correctedValue_held hheld]
  · rw [tipSample_overrange, hover]
  · unfold correctedValue
    rw [hover, hx]
    rfl
  · exact correctedValue_stages s.wen _ (hover.trans hx)
  · have ha := (available_tip s).1 (judgedSource_tip.1 (hs.1.symm.trans ht))
    rw [received_unstuck hl ha.2.1 hu]
    have hb : available (linked (s.tlc.accepted (r + 1) (tipSampleOf c a g x)) s) .tip = true :=
      (available_tip _).2 ⟨linked_link _ _, (linked_isLive _ _ (show Condition.tipDown ≠ .tipStuck from nofun)
        (show Condition.tipFailed ≠ .tipStuck from nofun)).trans ha.2.1, ha.2.2⟩
    obtain ⟨hh, he⟩ := tipSample_estimate (tipSampleOf c a g x) (s := linked _ s) ht hb
    obtain ⟨m, hm, hf⟩ := feed_estimate s.wen (correctedValue s.wen (tipSampleOf c a g x)) ht
    rw [hh, he]
    exact ⟨rfl, m, hm, hf⟩

end Sys2Proof.Machine
end

section
/-! PROOF. Auto-zero, LIFT-OFF and DROP at a tip sample (R72, R73, R94, R97 to R100). -/

namespace Sys2Proof.Machine

variable {s t u : State}

/-! ## Auto-zero (R72, R73) -/

theorem feedEmptyWindow_runs {x : Int} {w : Window} (h : autoZeroRuns s = true)
    (hw : (s.wen.emptyWindow.getD (.opened .tip emptyWindowSize)).grown x = w) :
    feedEmptyWindow x s = if w.size ≤ w.count then judgeEmptyWindow w s
      else { s with wen := { s.wen with emptyWindow := some w } } := by
  unfold feedEmptyWindow
  rw [if_pos h]
  dsimp only
  rw [Window.add_eq, hw]
  by_cases hc : w.size ≤ w.count
  · rw [if_pos hc, if_pos ((Window.complete_iff w).2 hc)]
  · rw [if_neg hc, if_neg fun k => hc ((Window.complete_iff w).1 k)]

/-- In IDLE, with no capture in flight, what follows the gates leaves WEN and ZERO_DRIFT. -/
theorem afterGates_idle {x : TipSample} (hx : s.ltr.state = .idle) (hc : s.wen.capture = none) :
    (handLiveUpdate (completeWindow (countTip x s))).wen = s.wen
      ∧ (handLiveUpdate (completeWindow (countTip x s))).clp.isLive .zeroDrift = s.clp.isLive .zeroDrift := by
  rw [countTip_none hc, completeWindow_other (by rw [hx]; nofun)]
  refine ⟨(handLiveUpdate_quiet (fun k => by rw [hx] at k; cases k) fun k => ?_).1,
    handLiveUpdate_isLive s (show Condition.zeroDrift ≠ .limitHold from nofun)⟩
  rcases k with k | k <;> rw [hx] at k <;> cases k

theorem feedLiftWindow_kept (source : Source) (x : Int) (s : State) : ∃ w,
    feedLiftWindow source x s = { s with wen := { s.wen with liftWindow := w } } := by
  unfold feedLiftWindow
  split
  · exact ⟨_, rfl⟩
  · exact ⟨s.wen.liftWindow, rfl⟩

/-- A complete empty window ends, and its candidate is judged against the tracking limit (R73). -/
theorem judgeEmptyWindow_spread {w : Window} (h : (s.wen.settings.spread : Int) < w.spread) :
    judgeEmptyWindow w s = { s with wen := { s.wen with emptyWindow := none } } := by
  unfold judgeEmptyWindow
  exact if_pos (by simp [Window.quality, h])

theorem judgeEmptyWindow_tracked {w : Window} (h : w.spread ≤ (s.wen.settings.spread : Int))
    (ht : (w.mean - s.wen.calibration.tare).natAbs ≤ s.wen.settings.tracking) :
    judgeEmptyWindow w s = setLive .zeroDrift false { s with wen := { s.wen with
      emptyWindow := none, zeroOffset := w.mean - s.wen.calibration.tare } } := by
  unfold judgeEmptyWindow
  exact (if_neg (by simp [Window.quality, Int.not_lt.2 h])).trans (if_pos ht)

theorem judgeEmptyWindow_drifted {w : Window} (h : w.spread ≤ (s.wen.settings.spread : Int))
    (ht : s.wen.settings.tracking < (w.mean - s.wen.calibration.tare).natAbs) :
    judgeEmptyWindow w s = setLive .zeroDrift true { s with wen := { s.wen with emptyWindow := none } } := by
  unfold judgeEmptyWindow
  exact (if_neg (by simp [Window.quality, Int.not_lt.2 h])).trans (if_neg (Nat.not_le.2 ht))

/-- What an accepted sample leaves of the empty window, z and ZERO_DRIFT: they are the window's step. -/
theorem autoZero_step {x : TipSample} {y : Int} {w : Window} (hx : s.ltr.state = .idle) (ht : s.wen.source = .tip)
    (ha : s.wen.settings.autoZero = true) (hacc : tipAccepted s.wen x y = true)
    (hw : (s.wen.emptyWindow.getD (.opened .tip emptyWindowSize)).grown y = w) : ∃ l,
    gateTip x y s = if w.size ≤ w.count then judgeEmptyWindow w { s with wen := { s.wen with liftWindow := l } }
      else { s with wen := { s.wen with liftWindow := l, emptyWindow := some w } } := by
  obtain ⟨l, hl⟩ := feedLiftWindow_kept .tip y s
  refine ⟨l, ?_⟩
  unfold gateTip
  rw [if_pos hacc, hl]
  exact feedEmptyWindow_runs (s := { s with wen := { s.wen with liftWindow := l } })
    (by simp [autoZeroRuns, hx, ht, ha]) hw

/-- Settles O23: in IDLE the gates' step on the empty window is all that the sample does to it. -/
theorem autoZeroFollowsTheDrift : Obligations.AutoZeroFollowsTheDrift := by
  intro s r c a g x y passes hp hl hr hs ht hu hx ha hcap
  refine ⟨_, exec_onTip hp hl hr hs ht hu, ?_⟩
  rw [tipSample_onTip (s := onTip r (tipSampleOf c a g x) s) ht]
  have hpass : tipAccepted (fedTip (tipSampleOf c a g x) (onTip r (tipSampleOf c a g x) s)).wen (tipSampleOf c a g x)
      y = true ↔ passes := tipAccepted_iff (w := s.wen)
  rw [show correctedValue (onTip r (tipSampleOf c a g x) s).wen (tipSampleOf c a g x) = y from rfl]
  have hz : (fedTip (tipSampleOf c a g x) (onTip r (tipSampleOf c a g x) s)).clp.isLive .zeroDrift
      = s.clp.isLive .zeroDrift :=
    (setLive_other .tipOverrange .zeroDrift nofun).trans (linked_isLive _ s nofun nofun)
  generalize hv : fedTip (tipSampleOf c a g x) (onTip r (tipSampleOf c a g x) s) = v at hpass hz
  have hvw : v.wen = s.wen.feed y := by rw [← hv]; rfl
  have hvx : v.ltr.state = .idle := by rw [← hv]; exact hx
  have hvc : v.wen.capture = none := by rw [hvw]; exact hcap
  -- What a step of the gates that leaves the lift and the capture gives the command's result.
  have result {m : State} (hm : gateTip (tipSampleOf c a g x) y v = m) (hmc : m.wen.capture = none) :
      let t := rememberTip (tipSampleOf c a g x) y (handLiveUpdate (completeWindow (countTip (tipSampleOf c a g x)
        (gateTip (tipSampleOf c a g x) y v))))
      t.wen.emptyWindow = m.wen.emptyWindow ∧ t.wen.zeroOffset = m.wen.zeroOffset
        ∧ t.clp.isLive .zeroDrift = m.clp.isLive .zeroDrift := by
    subst hm
    obtain ⟨hw, hd⟩ := afterGates_idle (x := tipSampleOf c a g x) (s := gateTip (tipSampleOf c a g x) y v)
      (by simp [hvx]) hmc
    exact ⟨(congrArg Wen.emptyWindow hw :), (congrArg Wen.zeroOffset hw :), hd⟩
  have step (w : Window) (hy : passes) (hw : (s.wen.emptyWindow.getD (.opened .tip emptyWindowSize)).grown y = w) :=
    autoZero_step (s := v) (w := w) hvx (by rw [hvw]; exact ht) (by rw [hvw]; exact ha) (hpass.2 hy)
      (by rw [hvw]; exact hw)
  refine ⟨fun hn => ?_, fun hy he => ?_, fun w low high hy he hsize hlow hhigh => ⟨fun hc => ?_, fun hc => ?_⟩⟩
  · have hg : gateTip (tipSampleOf c a g x) y v = v := if_neg fun k => hn (hpass.1 k)
    obtain ⟨h1, h2, -⟩ := result hg hvc
    rw [h1, h2, hvw]
    exact ⟨rfl, rfl⟩
  · obtain ⟨l, hg⟩ := step ⟨.tip, 16, 1, y, some y, some y⟩ hy (by
      rw [he]
      simp [Window.opened, Window.grown, emptyWindowSize])
    rw [if_neg (by decide : ¬(16 ≤ 1))] at hg
    obtain ⟨h1, h2, -⟩ := result hg hvc
    rw [h1, h2]
    exact ⟨rfl, by rw [hvw]; rfl⟩
  · obtain ⟨l, hg⟩ := step ⟨w.source, 16, w.count + 1, w.sum + y, some (min y low), some (max y high)⟩ hy (by
      rw [he]
      simp [Window.grown, hsize, hlow, hhigh])
    rw [if_neg (by show ¬(16 ≤ w.count + 1); omega)] at hg
    obtain ⟨h1, h2, -⟩ := result hg hvc
    rw [h1, h2]
    exact ⟨rfl, by rw [hvw]; rfl⟩
  · obtain ⟨l, hg⟩ := step ⟨w.source, 16, w.count + 1, w.sum + y, some (min y low), some (max y high)⟩ hy (by
      rw [he]
      simp [Window.grown, hsize, hlow, hhigh])
    rw [if_pos (by show 16 ≤ w.count + 1; omega)] at hg
    generalize hw' : (⟨w.source, 16, w.count + 1, w.sum + y, some (min y low), some (max y high)⟩ : Window) = w' at hg
    have hmean : isRounded (w.sum + y) 16 w'.mean := by
      have h := roundDiv_isRounded (w.sum + y) 16 (by decide)
      have hcount : w'.mean = roundDiv (w.sum + y) 16 := by
        rw [← hw']
        show roundDiv (w.sum + y) ((w.count + 1 : Nat) : Int) = _
        rw [hc]
        rfl
      rw [hcount]
      exact h
    have hspread : w'.spread = max y high - min y low := by rw [← hw']; rfl
    have hnone : ∀ m, judgeEmptyWindow w' { v with wen := { v.wen with liftWindow := l } } = m →
        m.wen.emptyWindow = none ∧ m.wen.capture = none := by
      rintro m rfl
      unfold judgeEmptyWindow
      dsimp only
      repeat' split
      all_goals exact ⟨rfl, hvc⟩
    obtain ⟨hn, hcn⟩ := hnone _ rfl
    obtain ⟨h1, h2, h3⟩ := result hg hcn
    have hws : v.wen.settings = s.wen.settings ∧ v.wen.calibration = s.wen.calibration
        ∧ v.wen.zeroOffset = s.wen.zeroOffset := by rw [hvw]; exact ⟨rfl, rfl, rfl⟩
    obtain ⟨hset, hcal, hzero⟩ := hws
    refine ⟨h1.trans hn, w'.mean, hmean, fun hsp => ?_, fun hsp htr => ?_, fun hsp htr => ?_⟩
    · rw [h2, h3, judgeEmptyWindow_spread (by rw [hspread]; show (v.wen.settings.spread : Int) < _; rw [hset]; exact hsp)]
      exact ⟨hzero, hz⟩
    · rw [h2, h3, judgeEmptyWindow_tracked (by rw [hspread]; show _ ≤ (v.wen.settings.spread : Int); rw [hset]; exact hsp)
        (by show (w'.mean - v.wen.calibration.tare).natAbs ≤ v.wen.settings.tracking; rw [hset, hcal]; exact htr)]
      refine ⟨?_, Clp.setLive_self _ _ _⟩
      show w'.mean - v.wen.calibration.tare = _
      rw [hcal]
    · rw [h2, h3, judgeEmptyWindow_drifted (by rw [hspread]; show _ ≤ (v.wen.settings.spread : Int); rw [hset]; exact hsp)
        (by show v.wen.settings.tracking < (w'.mean - v.wen.calibration.tare).natAbs; rw [hset, hcal]; exact htr)]
      exact ⟨hzero, Clp.setLive_self _ _ _⟩

end Sys2Proof.Machine
end

section
/-! PROOF. LIFT-OFF and DROP at a tip sample, and what ends a lift fixes (R94, R97 to R100). -/

namespace Sys2Proof.Machine

variable {s t u : State}

/-! ## Qualifications (R88) -/

theorem qualify_fails (now : Stamp) (time : Nat) (b : Option Stamp) : qualify false now time b = (none, false) := rfl

theorem qualify_starts (now : Stamp) (time : Nat) : qualify true now time none = (some now, false) := rfl

theorem qualify_waits {now b : Stamp} {time : Nat} (h : now.since b < time) :
    qualify true now time (some b) = (some b, false) := if_neg (Int.not_le.2 h)

theorem qualify_takes {now b : Stamp} {time : Nat} (h : (time : Int) ≤ now.since b) :
    qualify true now time (some b) = (none, true) := if_pos h

/-! ## LIFT-OFF (R94) -/

theorem judgeLive_gripped {b : Option Stamp} {e : Bool} (hx : s.ltr.state = .gripped)
    (hq : qualify (liftOffHolds s) s.log.clock s.ltr.settings.liftOffTime s.ltr.liftOffStart = (b, e)) :
    judgeLive s = if e then takeLiftOff { s with ltr := { s.ltr with liftOffStart := b } }
      else { s with ltr := { s.ltr with liftOffStart := b } } := by
  unfold judgeLive
  rw [hx]
  dsimp only
  rw [hq]

theorem liftOffHolds_eq {v : Int} (h : s.wen.liveEstimate = some v) :
    liftOffHolds s = decide ((s.ltr.settings.liftOffThreshold : Int) ≤ v) := by
  unfold liftOffHolds
  rw [h]

theorem dropHolds_eq {v : Int} (h : s.wen.liveEstimate = some v) :
    dropHolds s = decide (v < (s.ltr.settings.dropThreshold : Int)) := by
  unfold dropHolds
  rw [h]

theorem takeLiftOff_ltr (hx : s.ltr.state = .gripped) : (takeLiftOff s).ltr = { s.ltr with
    state := .lifted, number := s.ltr.number + 1, liftOffTime := some s.log.clock, fromZone := some s.geo.zone
    source := some s.wen.source, gripStart := none, liftOffStart := none, dropStart := none } := by
  unfold takeLiftOff
  rw [enterState_ltr]
  simp [Ltr.enter, hx, LiftState.releaseRuns, LiftState.inLift]

theorem takeLiftOff_wen (s : State) : (takeLiftOff s).wen.liftSource = some s.wen.source
    ∧ (takeLiftOff s).wen.liftWindow = some (.opened s.wen.source s.wen.settings.windowSize) := by
  unfold takeLiftOff
  show (abortCaptures _ _).wen.liftSource = _ ∧ (abortCaptures _ _).wen.liftWindow = _
  rw [abortCaptures_wen]
  exact ⟨rfl, rfl⟩

theorem onTip_available {r : Byte} {x : TipSample} (ha : available s .tip = true) :
    available (onTip r x s) .tip = true := by
  obtain ⟨-, hk, hv⟩ := (available_tip s).1 ha
  exact (available_tip _).2 ⟨linked_link _ _, (linked_isLive _ _ (show Condition.tipDown ≠ .tipStuck from nofun)
    (show Condition.tipFailed ≠ .tipStuck from nofun)).trans hk, hv⟩

theorem State.sourced.tip (hs : s.sourced) (ht : s.wen.source = .tip) : available s .tip = true :=
  judgedSource_tip.1 (hs.1.symm.trans ht)

/-- Settles O30: outside LIFTED the sample reaches LIFT-OFF's judgement with the lift context as it was. -/
theorem liftOffBeginsALift : Obligations.LiftOffBeginsALift := by
  intro s r c a g x hp hl hr hs ht hu hx
  obtain ⟨v, -, hfeed⟩ := feed_estimate s.wen (correctedValue s.wen (tipSampleOf c a g x)) ht
  have hcnt := countedTip_counted (s := onTip r (tipSampleOf c a g x) s) (tipSampleOf c a g x) ht
    (onTip_available (hs.tip ht))
  have hest := (tipSample_estimate (s := onTip r (tipSampleOf c a g x) s) (tipSampleOf c a g x) ht
    (onTip_available (hs.tip ht))).2.trans hfeed
  refine ⟨_, _, exec_onTip hp hl hr hs ht hu, hest, ?_⟩
  rw [tipSample_eq (s := onTip r (tipSampleOf c a g x) s) ht]
  generalize countedTip (tipSampleOf c a g x) (onTip r (tipSampleOf c a g x) s) = m at hcnt
  have hml : m.ltr = s.ltr := hcnt.ltr (by show s.ltr.state ≠ _; rw [hx]; nofun)
  have hmx : m.ltr.state = .gripped := by rw [hml, hx]
  have hme := hcnt.liveEstimate.trans hfeed
  have hmc : m.log.clock = s.log.clock := hcnt.clock
  rw [completeWindow_other (by rw [hmx]; nofun)]
  have judged {b : Option Stamp} {e : Bool}
      (hq : qualify (liftOffHolds m) m.log.clock m.ltr.settings.liftOffTime m.ltr.liftOffStart = (b, e)) :
      handLiveUpdate m = evaluate (if e then takeLiftOff { m with ltr := { m.ltr with liftOffStart := b } }
        else { m with ltr := { m.ltr with liftOffStart := b } }) := by
    rw [← judgeLive_gripped hmx hq]
    rfl
  have hholds := liftOffHolds_eq hme
  rw [hml] at hholds judged
  refine ⟨fun hv => ?_, fun hv => ⟨fun hb => ?_, fun b hb => ⟨fun hw => ?_, fun hw => ?_⟩⟩⟩
  · rw [decide_eq_false (Int.not_le.2 hv)] at hholds
    rw [judged (by rw [hholds, qualify_fails])]
    rfl
  · rw [decide_eq_true hv] at hholds
    rw [judged (by rw [hholds, hb, qualify_starts]), hmc]
    rfl
  · rw [decide_eq_true hv] at hholds
    rw [judged (by rw [hholds, hb, hmc, qualify_waits hw])]
    show { s.ltr with liftOffStart := some b } = s.ltr
    rw [← hb]
  · rw [decide_eq_true hv] at hholds
    rw [judged (by rw [hholds, hb, hmc, qualify_takes hw]), if_pos rfl]
    have hms : m.wen.source = .tip := hcnt.source.trans ht
    have hmg : m.geo = s.geo := hcnt.geo
    have hset : m.wen.settings = s.wen.settings := hcnt.settings
    have hlo := takeLiftOff_ltr (s := { m with ltr := { s.ltr with liftOffStart := none } }) hx
    obtain ⟨h1, h2⟩ := takeLiftOff_wen { m with ltr := { s.ltr with liftOffStart := none } }
    refine ⟨?_, h1.trans (by rw [← hms]), h2.trans ?_⟩
    · refine (show _ = (takeLiftOff _).ltr from rfl).trans (hlo.trans ?_)
      dsimp only
      rw [hmc, hmg, hms]
    · show some (Window.opened m.wen.source m.wen.settings.windowSize) = _
      rw [hms, hset]
      rfl

/-! ## What ends a lift fixes (R99, R100) -/

theorem fixedResult_weighed {q : LiftResult} (hx : s.ltr.state = .weighed) (hr : s.ltr.result = some q) :
    fixedResult s = q := by
  unfold fixedResult
  rw [hx, hr]

theorem fixedResult_lifted {w : Window} (hx : s.ltr.state = .lifted) (hw : s.wen.liftWindow = some w) :
    fixedResult s = if 8 ≤ w.count then weighedResult s.wen w.source w.mean .partialWindow
      else unweighedResult s.wen := by
  unfold fixedResult
  rw [hx, hw]

theorem capQuality_partial (x : Source) :
    capQuality x .partialWindow = if x = .cylinder then .estimate else .partialWindow := by cases x <;> rfl

theorem unweighedResult_mass (w : Wen) : unweighedMass w.liveEstimate (unweighedResult w).mass := by
  unfold unweighedMass unweighedResult
  cases w.liveEstimate with
  | none => exact ⟨fun _ => rfl, nofun⟩
  | some v =>
    refine ⟨nofun, fun x hx => ?_⟩
    cases hx
    exact ⟨_, roundDiv_isRounded _ _ (by decide), clamp_isClamped _ _ _ (by decide)⟩

/-- A lift that ends in LIFTED is fixed from its window. -/
theorem fixedResult_fixesPartial {w : Window} (hx : s.ltr.state = .lifted) (hw : s.wen.liftWindow = some w) :
    s.fixesPartial w s.wen.liveEstimate (fixedResult s).mass (fixedResult s).quality (fixedResult s).empty := by
  rw [fixedResult_lifted hx hw]
  refine ⟨fun h => ?_, fun h => ?_⟩
  · rw [if_pos h]
    exact ⟨w.mean, _, roundDiv_isRounded _ _ (by omega), weighs_of s w.source w.mean .partialWindow,
      capQuality_partial _, rfl⟩
  · rw [if_neg (Nat.not_le.2 h)]
    exact ⟨unweighedResult_mass _, rfl, rfl⟩

theorem weighs_congr {x : Source} {mean net mass : Int} (h : s.weighs x mean net mass)
    (hc : t.wen.calibration = s.wen.calibration) (hz : t.wen.zeroOffset = s.wen.zeroOffset) :
    t.weighs x mean net mass := by
  unfold State.weighs at h ⊢
  rw [hc, hz]
  exact h

theorem fixesPartial_congr {w : Window} {v : Option Int} {mass : Int} {q : Quality} {e : Bool}
    (h : s.fixesPartial w v mass q e) (hc : t.wen.calibration = s.wen.calibration)
    (hz : t.wen.zeroOffset = s.wen.zeroOffset) (hs : t.wen.settings = s.wen.settings) :
    t.fixesPartial w v mass q e := by
  obtain ⟨h1, h2⟩ := h
  refine ⟨fun k => ?_, h2⟩
  obtain ⟨mean, net, hm, hn, hq, he⟩ := h1 k
  rw [← hs] at he
  exact ⟨mean, net, hm, weighs_congr hn hc hz, hq, he⟩

/-! ## DROP (R97) -/

theorem judgeLive_inLift {b : Option Stamp} {e : Bool} (hx : s.ltr.state.inLift = true)
    (hq : qualify (dropHolds s) s.log.clock s.ltr.settings.dropTime s.ltr.dropStart = (b, e)) :
    judgeLive s = if e then takeDrop { s with ltr := { s.ltr with dropStart := b } }
      else { s with ltr := { s.ltr with dropStart := b } } := by
  unfold judgeLive
  split
  · next h => rw [h] at hx; cases hx
  · next h => rw [h] at hx; cases hx
  · dsimp only
    rw [hq]

/-- The lift record of a DROP (R97, R103). -/
def dropPart (s : State) : LiftPart :=
  liftPart s.ltr (fixedResult s) s.tal.selected s.geo.zone .dropped s.tal.noEffect

theorem takeDrop_ltr (s : State) : (takeDrop s).ltr = s.ltr.clearLift.enter .gripped := by
  rw [takeDrop_eq, enterState_ltr]

theorem takeDrop_wen (s : State) : (takeDrop s).wen.liftWindow = none ∧ (takeDrop s).wen.liftSource = none := by
  rw [takeDrop_eq]
  show (abortCaptures _ _).wen.liftWindow = _ ∧ (abortCaptures _ _).wen.liftSource = _
  rw [abortCaptures_wen]
  exact ⟨rfl, rfl⟩

theorem takeDrop_log (s : State) : (takeDrop s).log = (record (.lift (dropPart s)) s).log := by
  rw [takeDrop_eq]
  simp [dropPart]

/-- A recorded lift is the ring's last entry, stamped with the clock. -/
theorem record_last {p : EntryPart} (h : s.log.enables.governs p = true) :
    ∃ e, (record p s).log.ring.getLast? = some e ∧ e.part = p ∧ e.time = s.log.clock := by
  rw [record_log h, Log.append_eq]
  exact ⟨⟨s.log.nextSequence, s.log.clock, decide (128 ≤ s.log.ring.length), p⟩, by simp, rfl, rfl⟩

/-- While a lift is in progress, what the gates do to WEN is to the lift window. -/
theorem gateTip_busy {x : TipSample} {y : Int} (hx : s.ltr.state ≠ .idle) : ∃ lw,
    gateTip x y s = { s with wen := { s.wen with liftWindow := lw } }
      ∧ ∀ w, s.wen.liftWindow = some w → w.count < w.size →
        (s.wen.liftSource = some .tip ∧ tipAccepted s.wen x y = true → lw = some (w.grown y))
          ∧ (¬(s.wen.liftSource = some .tip ∧ tipAccepted s.wen x y = true) → lw = some w) := by
  unfold gateTip
  by_cases ha : tipAccepted s.wen x y = true
  · rw [if_pos ha]
    by_cases hs : s.wen.liftSource = some .tip
    · refine ⟨s.wen.liftWindow.map fun w => w.take y, ?_, fun w hw hc => ⟨fun _ => ?_, fun h => absurd ⟨hs, ha⟩ h⟩⟩
      · unfold feedLiftWindow
        rw [if_pos hs]
        exact feedEmptyWindow_other
          (s := { s with wen := { s.wen with liftWindow := s.wen.liftWindow.map fun w => w.take y } }) hx
      · rw [hw, Option.map_some, Window.take_eq y hc]
    · refine ⟨s.wen.liftWindow, ?_, fun w hw _ => ⟨fun h => absurd h.1 hs, fun _ => hw⟩⟩
      unfold feedLiftWindow
      rw [if_neg hs]
      exact feedEmptyWindow_other hx
  · rw [if_neg ha]
    exact ⟨s.wen.liftWindow, rfl, fun w hw _ => ⟨fun h => absurd h.2 ha, fun _ => hw⟩⟩

/-- The completion of a window is to the state, the result and the start stamps of the context alone. -/
theorem completeWindow_inLift (hx : s.ltr.state.inLift = true) :
    let m := completeWindow s
    m.ltr.state.inLift = true ∧ m.ltr.dropStart = s.ltr.dropStart ∧ m.ltr.gripTime = s.ltr.gripTime
      ∧ m.ltr.number = s.ltr.number ∧ m.ltr.settings = s.ltr.settings ∧ m.ltr.fromZone = s.ltr.fromZone
      ∧ m.ltr.source = s.ltr.source := by
  by_cases hl : s.ltr.state = .lifted
  · cases hw : s.wen.liftWindow with
    | none =>
      have h : completeWindow s = s := by
        unfold completeWindow
        rw [hl, hw]
      rw [h]
      exact ⟨hx, rfl, rfl, rfl, rfl, rfl, rfl⟩
    | some w =>
      rcases Nat.lt_or_ge w.count w.size with h | h
      · rw [completeWindow_open hw h]
        exact ⟨hx, rfl, rfl, rfl, rfl, rfl, rfl⟩
      · rw [completeWindow_full hl hw h]
        dsimp only
        rw [enterState_ltr]
        exact ⟨rfl, by simp [Ltr.enter, hl, LiftState.inLift], rfl, rfl, rfl, rfl, rfl⟩
  · rw [completeWindow_other hl]
    exact ⟨hx, rfl, rfl, rfl, rfl, rfl, rfl⟩

end Sys2Proof.Machine
end

section
/-! PROOF. DROP (R97): the sample that takes it, the record, and the result it fixes. -/

namespace Sys2Proof.Machine

variable {s t u : State}

/-- A DROP that has held for its time is taken at the update: the lift ends with its record, and neither the
tally nor the rest of the log is touched. -/
theorem handLiveUpdate_drop {b : Stamp} {v : Int} (hx : s.ltr.state.inLift = true) (hd : s.ltr.dropStart = some b)
    (hh : s.ltr.settings.dropTime ≤ s.log.clock.since b) (he : s.wen.liveEstimate = some v)
    (hv : v < s.ltr.settings.dropThreshold) :
    (handLiveUpdate s).tal = s.tal ∧ (handLiveUpdate s).ltr = s.ltr.clearLift.enter .gripped
      ∧ (handLiveUpdate s).log = (record (.lift (dropPart s)) s).log
      ∧ (handLiveUpdate s).wen.liftWindow = none ∧ (handLiveUpdate s).wen.liftSource = none := by
  have h : judgeLive s = takeDrop { s with ltr := { s.ltr with dropStart := none } } := by
    rw [judgeLive_inLift (b := none) (e := true) hx (by rw [dropHolds_eq he, decide_eq_true hv, hd, qualify_takes hh])]
    exact if_pos rfl
  have hu : handLiveUpdate s = evaluate (judgeLive s) := rfl
  obtain ⟨hw, hl⟩ := takeDrop_wen { s with ltr := { s.ltr with dropStart := none } }
  rw [hu, h]
  refine ⟨by simp only [evaluate_frame, takeDrop_frame], ?_, ?_, hw, hl⟩
  · rw [(evaluate_frame _).2.2.2.2.2.1, takeDrop_ltr]
    simp [Ltr.enter, Ltr.clearLift, LiftState.inLift]
  · rw [(evaluate_frame _).2.2.2.2.2.2.2.1, takeDrop_log]
    rcases record_cases (.lift (dropPart s)) s with ⟨ho, e⟩ | ⟨hg, -⟩ | ⟨hg, -⟩
    · exact (record_log_off ho).trans (record_log_off ho).symm
    · exact (record_log hg).trans (record_log hg).symm
    · exact (record_log hg).trans (record_log hg).symm

/-- A lift whose window is complete is fixed from the whole window. -/
theorem fixedResult_full {w : Window} (hx : s.ltr.state = .lifted) (hw : s.wen.liftWindow = some w)
    (hc : w.size ≤ w.count) : fixedResult (completeWindow s)
      = weighedResult s.wen w.source w.mean (w.quality s.wen.settings.spread) := by
  rw [completeWindow_full hx hw hc]
  refine fixedResult_weighed ?_ ?_
  · rw [enterState_ltr]
    rfl
  · rw [enterState_ltr]
    rfl

/-- With no capture the completion of a window keeps the figures and the estimate of WEN. -/
theorem completeWindow_wen (hcap : s.wen.capture = none) : ∃ e, (completeWindow s).wen
    = { s.wen with emptyWindow := e } := by
  unfold completeWindow
  split
  · split
    · exact ⟨none, enterState_weighed (s := { s with ltr := _ }) hcap⟩
    · exact ⟨_, rfl⟩
  · exact ⟨_, rfl⟩

/-- What the drop of a lift leaves of the lift context (R97). -/
theorem dropped_ltr (l : Ltr) : (l.clearLift.enter .gripped).state = .gripped
    ∧ (l.clearLift.enter .gripped).gripTime = l.gripTime ∧ (l.clearLift.enter .gripped).number = l.number
    ∧ (l.clearLift.enter .gripped).liftOffTime = none ∧ (l.clearLift.enter .gripped).fromZone = none
    ∧ (l.clearLift.enter .gripped).source = none ∧ (l.clearLift.enter .gripped).result = none
    ∧ (l.clearLift.enter .gripped).assortment = none ∧ (l.clearLift.enter .gripped).toZone = none
    ∧ (l.clearLift.enter .gripped).outcome = none ∧ (l.clearLift.enter .gripped).effect = none :=
  ⟨rfl, rfl, rfl, rfl, rfl, rfl, rfl, rfl, rfl, rfl, rfl⟩

theorem capQuality_quality (w : Window) (n : Nat) : capQuality w.source (w.quality n)
    = if w.source = .cylinder then .estimate else if (n : Int) < w.spread then .rough else .good := by
  unfold Window.quality
  cases w.source <;> split <;> rfl

/-- Settles O31: the gates and the completed window decide the result, and the update that follows takes DROP. -/
theorem dropEndsTheLiftUntallied : Obligations.DropEndsTheLiftUntallied := by
  intro s r c a g x b y joins hp hl hr hs ht hu hd hh hcap hx
  obtain ⟨mean, -, hfeed⟩ := feed_estimate s.wen y ht
  have hest := (tipSample_estimate (s := onTip r (tipSampleOf c a g x) s) (tipSampleOf c a g x) ht
    (onTip_available (hs.tip ht))).2.trans hfeed
  generalize mean - (s.wen.calibration.tare : Int) - s.wen.zeroOffset = v at hfeed hest
  refine ⟨_, v, exec_onTip hp hl hr hs ht hu, hest, fun hv => ?_⟩
  rw [tipSample_onTip (s := onTip r (tipSampleOf c a g x) s) ht]
  have hpass : tipAccepted (fedTip (tipSampleOf c a g x) (onTip r (tipSampleOf c a g x) s)).wen (tipSampleOf c a g x)
      y = true ↔ passesTip s.wen c a g x := tipAccepted_iff (w := s.wen)
  rw [show correctedValue (onTip r (tipSampleOf c a g x) s).wen (tipSampleOf c a g x) = y from rfl]
  -- the sample on the history, the module otherwise as the frame left it
  generalize hf : fedTip (tipSampleOf c a g x) (onTip r (tipSampleOf c a g x) s) = f at hpass
  have hfw : f.wen = s.wen.feed y := by rw [← hf]; rfl
  have hfl : f.ltr = s.ltr := by rw [← hf]; rfl
  have hft : f.tal = s.tal := by rw [← hf]; rfl
  have hfo : f.log = s.log := by rw [← hf]; rfl
  have hfg : f.geo = s.geo := by rw [← hf]; rfl
  have hin : s.ltr.state.inLift = true := by rcases hx with h | h <;> rw [h] <;> rfl
  obtain ⟨lw, hgate, hwindow⟩ := gateTip_busy (s := f) (x := tipSampleOf c a g x) (y := y)
    (by rw [hfl]; intro k; rw [k] at hin; cases hin)
  have hjoins : f.wen.liftSource = some .tip ∧ tipAccepted f.wen (tipSampleOf c a g x) y = true ↔ joins := by
    rw [hpass, hfw]
    exact Iff.rfl
  simp only [hjoins] at hwindow
  generalize hq : { f with wen := { f.wen with liftWindow := lw } } = q at hgate
  have hql : q.ltr = s.ltr := by rw [← hq, ← hfl]
  have hqw : q.wen.liftWindow = lw := by rw [← hq]
  have hqc : q.wen.capture = none := by rw [← hq]; show f.wen.capture = none; rw [hfw]; exact hcap
  have hqs : q.wen.settings = s.wen.settings := by rw [← hq]; show f.wen.settings = _; rw [hfw]; rfl
  have hqk : q.wen.calibration = s.wen.calibration := by rw [← hq]; show f.wen.calibration = _; rw [hfw]; rfl
  have hqz : q.wen.zeroOffset = s.wen.zeroOffset := by rw [← hq]; show f.wen.zeroOffset = _; rw [hfw]; rfl
  have hqe : q.wen.liveEstimate = some v := by rw [← hq]; show f.wen.liveEstimate = _; rw [hfw]; exact hfeed
  have hqf : q.tal = s.tal ∧ q.log = s.log ∧ q.geo = s.geo := by rw [← hq]; exact ⟨hft, hfo, hfg⟩
  obtain ⟨hqt, hqo, hqg⟩ := hqf
  rw [hgate, countTip_none hqc]
  -- the completed window, and what the update judges
  obtain ⟨e, hme⟩ := completeWindow_wen hqc
  obtain ⟨hmi, hmd, hmgrip, hmn, hmset, hmz, hmsrc⟩ := completeWindow_inLift (s := q) (by rw [hql]; exact hin)
  have hframe := completeWindow_frame q
  have hfull : ∀ w : Window, s.ltr.state = .lifted → lw = some w → w.size ≤ w.count →
      fixedResult (completeWindow q) = weighedResult q.wen w.source w.mean (w.quality q.wen.settings.spread) :=
    fun w h k hc => fixedResult_full (by rw [hql, h]) (by rw [hqw, k]) hc
  have hopen : ∀ w : Window, s.ltr.state = .lifted → lw = some w → w.count < w.size →
      ∃ e, s.fixesPartial w (some v) (fixedResult (completeWindow q)).mass (fixedResult (completeWindow q)).quality e :=
    fun w h k hc => by
      have hp := fixedResult_fixesPartial (s := q) (w := w) (by rw [hql, h]) (by rw [hqw, k])
      rw [completeWindow_open (by rw [hqw, k]) hc, ← hqe]
      exact ⟨_, fixesPartial_congr hp hqk.symm hqz.symm hqs.symm⟩
  have hweighed : ∀ p, s.ltr.state = .weighed → s.ltr.result = some p → fixedResult (completeWindow q) = p :=
    fun p h k => by
      rw [completeWindow_other (by rw [hql, h]; nofun)]
      exact fixedResult_weighed (by rw [hql, h]) (by rw [hql, k])
  generalize completeWindow q = m at *
  obtain ⟨-, -, -, hmg, hmt, hmo, -, -⟩ := hframe
  have hml : m.ltr.gripTime = s.ltr.gripTime ∧ m.ltr.number = s.ltr.number ∧ m.ltr.fromZone = s.ltr.fromZone
      ∧ m.ltr.source = s.ltr.source := by
    rw [← hql]
    exact ⟨hmgrip, hmn, hmz, hmsrc⟩
  obtain ⟨hlgrip, hln, hlz, hlsrc⟩ := hml
  have hlog : m.log = s.log := hmo.trans hqo
  have hpart : dropPart m = liftPart m.ltr (fixedResult m) s.tal.selected s.geo.zone .dropped s.tal.noEffect := by
    unfold dropPart
    rw [hmt, hqt, hmg, hqg]
  obtain ⟨htal, hltr, hrec, hwin, hsrc⟩ := handLiveUpdate_drop (b := b) (v := v) hmi (by rw [hmd, hql, hd])
    (by rw [hmset, hql, hlog]; exact hh) (by rw [hme]; exact hqe) (by rw [hmset, hql]; exact hv)
  obtain ⟨k1, k2, k3, k4, k5, k6, k7, k8, k9, k10, k11⟩ := dropped_ltr m.ltr
  have hremember := rememberTip_frame (tipSampleOf c a g x) y (handLiveUpdate m)
  obtain ⟨-, -, -, -, hrl, hrt, hro, -⟩ := hremember
  rw [hrl, hrt, hro, htal, hltr, hrec]
  refine ⟨hmt.trans hqt, k1, k2.trans hlgrip, k3.trans hln, k4, k5, k6, k7, k8, k9, k10, k11, hwin, hsrc, fun hoff => ?_, fun hon => ?_⟩
  · rw [record_log_off (by rw [hlog]; exact hoff), hlog]
  · obtain ⟨n, h1, h2, h3⟩ := record_last (s := m) (p := .lift (dropPart m)) (by rw [hlog]; exact hon)
    rw [hpart] at h2
    refine ⟨n, _, h1, h2, h3.trans (by rw [hlog]), hln, rfl, fun z hz => ?_, rfl, fun z hz => ?_, rfl, rfl,
      fun p hw hp => ?_, fun w hw hlw hc => ⟨fun hj => ?_, fun hj hlt => ?_, fun hj hfl => ?_⟩⟩
    · show m.ltr.fromZone.getD _ = z
      rw [hlz, hz]
      rfl
    · show m.ltr.source.getD _ = z
      rw [hlsrc, hz]
      rfl
    · show (fixedResult m).mass = _ ∧ (fixedResult m).quality = _
      rw [hweighed p hw hp]
      exact ⟨rfl, rfl⟩
    · exact hopen w hw ((hwindow w (by rw [hfw]; exact hlw) hc).2 hj) hc
    · exact hopen _ hw ((hwindow w (by rw [hfw]; exact hlw) hc).1 hj) hlt
    · have hgrown : (w.grown y).count = (w.grown y).size := hfl
      have hres := hfull _ hw ((hwindow w (by rw [hfw]; exact hlw) hc).1 hj) (Nat.le_of_eq hgrown.symm)
      have hround := roundDiv_isRounded (w.grown y).sum (w.grown y).count
        (by show ((w.count + 1 : Nat) : Int) ≠ 0; omega)
      have hweighs := weighs_of q w.source (w.grown y).mean ((w.grown y).quality q.wen.settings.spread)
      refine ⟨(w.grown y).mean, (weighedResult q.wen w.source (w.grown y).mean
        ((w.grown y).quality q.wen.settings.spread)).net, ?_, ?_, ?_⟩
      rotate_left 2
      · show (fixedResult m).quality = _
        rw [hres, hqs]
        exact capQuality_quality (w.grown y) s.wen.settings.spread
      · show isRounded (w.grown y).sum ((w.grown y).size : Nat) _
        rw [← hgrown]
        exact hround
      · show s.weighs _ _ _ (fixedResult m).mass
        rw [hres]
        exact weighs_congr hweighs hqk.symm hqz.symm

end Sys2Proof.Machine
end

section
/-! PROOF. The commits of TAL (R114 to R121). -/

namespace Sys2Proof.Machine

variable {s t u : State}

/-! ## What waits after a send -/

/-- No TARGET notice waits that did not wait before. -/
def NoTarget (s t : State) : Prop :=
  ∀ n m k, .notice (.target n m k) ∈ t.clp.queue → .notice (.target n m k) ∈ s.clp.queue

theorem NoTarget.refl (s : State) : NoTarget s s := fun _ _ _ h => h

theorem NoTarget.trans (h : NoTarget s t) (k : NoTarget t u) : NoTarget s u := fun n m j x => h n m j (k n m j x)

/-- A send brings nothing into the queue but its own notice. -/
theorem Clp.mem_send {c : Clp} {n : Notice} {f : TxFrame} (h : f ∈ (c.send n).queue) : f ∈ c.queue ∨ f = .notice n := by
  unfold Clp.send at h
  split at h
  · obtain ⟨g, hg, rfl⟩ := List.mem_map.1 h
    split
    · exact .inr rfl
    · exact .inl hg
  · split at h
    · exact .inl h
    · simpa using h

theorem noTarget_latch (d : Condition) (s : State) : NoTarget s (latch d s) := by
  intro n m k h
  unfold latch Clp.latch at h
  dsimp only at h
  split at h
  · exact (Clp.mem_send h).resolve_right nofun
  · exact h

theorem noTarget_setLive (d : Condition) (v : Bool) (s : State) : NoTarget s (setLive d v s) := by
  intro n m k h
  unfold setLive Clp.setLive at h
  dsimp only at h
  split at h
  · exact h
  · split at h
    · simpa [Clp.putLive_queue] using (Clp.mem_send h).resolve_right nofun
    · simpa [Clp.putLive_queue] using h

theorem noTarget_record (p : EntryPart) (s : State) : NoTarget s (record p s) := by
  intro n m k h
  rcases record_cases p s with ⟨-, e⟩ | ⟨-, -, e⟩ | ⟨-, -, e⟩
  · rwa [e] at h
  · rwa [e] at h
  · rw [e] at h
    exact (Clp.mem_send h).resolve_right nofun

/-- A latch that a commit may make: what it keeps, and that its condition is latched. -/
theorem latchIf_facts (b : Bool) (d : Condition) (s : State) :
    (if b then latch d s else s).tal = s.tal ∧ (if b then latch d s else s).log = s.log
      ∧ NoTarget s (if b then latch d s else s) ∧ Queued 1 s (if b then latch d s else s)
      ∧ (b = true → (if b then latch d s else s).clp.isLatched d = true)
      ∧ (if b then latch d s else s) = { s with clp := (if b then latch d s else s).clp } := by
  cases b with
  | false => exact ⟨rfl, rfl, .refl s, ⟨[], by simp, by simp⟩, nofun, rfl⟩
  | true =>
    exact ⟨rfl, rfl, noTarget_latch d s, Clp.latch_extends s.clp d, fun _ => by
      simp [latch, Clp.latch_isLatched], rfl⟩

/-! ## Targets (R121) and PAYLOAD (R122) -/

/-- The target is met: one of its fields is enabled, and every enabled one holds (R121). -/
def Target.meets (g : Target) (x : Load) : Prop := (g.totalOn = true ∨ g.liftsOn = true ∨ g.assortmentOn = true)
  ∧ (g.totalOn = true → g.total ≤ x.total) ∧ (g.liftsOn = true → g.lifts ≤ x.loadedLifts)
  ∧ (g.assortmentOn = true → g.mass ≤ x.figures[g.index].mass)

theorem Target.met_iff (g : Target) (x : Load) : g.met x = true ↔ g.meets x := by
  unfold Target.met Target.meets
  cases g.totalOn <;> cases g.liftsOn <;> cases g.assortmentOn <;> simp [and_assoc]

/-- What a commit that leaves a load open comes to: the target evaluated on it, and PAYLOAD judged. -/
theorem targetJudged {x : Load} (hl : s.tal.load = some x) : ∃ reached,
    (judgePayload (evaluateTarget s)).tal = { s.tal with load := some { x with targetReached := reached } }
      ∧ (reached = true ↔ x.targetReached = true ∨ s.tal.target.meets x)
      ∧ (s.tal.target.meets x → x.targetReached = false → s.clp.queue.length < 32 →
        .notice (.target x.number x.total x.loadedLifts) ∈ (judgePayload (evaluateTarget s)).clp.queue)
      ∧ (¬s.tal.target.meets x ∨ x.targetReached = true → NoTarget s (judgePayload (evaluateTarget s)))
      ∧ (judgePayload (evaluateTarget s)).log = s.log := by
  have hj (v : State) : judgePayload v = setLive .payload (decide (v.sto.working.payload ≤ v.tal.total)) v := rfl
  by_cases hm : s.tal.target.meets x
  · cases hf : x.targetReached with
    | false =>
      have he : evaluateTarget s = notify (.target x.number x.total x.loadedLifts)
          { s with tal := { s.tal with load := some { x with targetReached := true } } } := by
        unfold evaluateTarget
        rw [hl]
        exact if_pos (by rw [(Target.met_iff _ _).2 hm, hf]; rfl)
      rw [he, hj]
      refine ⟨true, rfl, ⟨fun _ => .inr hm, fun _ => rfl⟩, fun _ _ hq => (queued_setLive _ _ _).mem (mem_notify rfl hq),
        fun h => ?_, rfl⟩
      rcases h with h | h
      · exact absurd hm h
      · cases h
    | true =>
      have he : evaluateTarget s = s := by
        unfold evaluateTarget
        rw [hl]
        exact if_neg (by simp [hf])
      rw [he, hj]
      refine ⟨true, ?_, by simp, nofun, fun _ => noTarget_setLive _ _ s, rfl⟩
      show s.tal = _
      rw [← hf, ← hl]
  · have he : evaluateTarget s = s := by
      unfold evaluateTarget
      rw [hl]
      refine if_neg fun h => hm ((Target.met_iff _ _).1 ?_)
      exact (Bool.and_eq_true_iff.1 h).1
    rw [he, hj]
    refine ⟨x.targetReached, ?_, by simp [hm], fun h => absurd h hm, fun _ => noTarget_setLive _ _ s, rfl⟩
    show s.tal = _
    rw [← hl]

/-! ## Commits -/

theorem commit_held (h : s.tal.holdActive = true) (o : LiftOutcome) (a : Fin 16) (m : Nat) (q : Quality) :
    commit o a m q s = s := if_pos h

theorem commit_untallied {o : LiftOutcome} (h : o ≠ .loaded) (k : o ≠ .unloaded) (a : Fin 16) (m : Nat) (q : Quality) :
    commit o a m q s = s := by
  unfold commit
  split
  · rfl
  · cases o with
    | loaded => exact absurd rfl h
    | unloaded => exact absurd rfl k
    | _ => rfl

theorem commitEffect_held (h : s.tal.holdActive = true) {o : LiftOutcome} (ho : o = .loaded ∨ o = .unloaded)
    (a : Fin 16) (m : Nat) : commitEffect o a m s.tal = ⟨0, 0, true, none⟩ := by
  rcases ho with rfl | rfl <;> exact if_pos h

theorem commitEffect_loaded (h : s.tal.holdActive = false) (a : Fin 16) (m : Nat) : commitEffect .loaded a m s.tal
    = match s.tal.load with
      | none => ⟨loadedApplied 0 m, 0, false, some s.tal.nextNumber⟩
      | some l => ⟨loadedApplied l.figures[a].mass m, 0, false, some l.number⟩ :=
  if_neg (by rw [h]; nofun)

theorem commitEffect_unloaded (h : s.tal.holdActive = false) (a : Fin 16) (m : Nat) : commitEffect .unloaded a m s.tal
    = match s.tal.load with
      | none => ⟨0, m, false, none⟩
      | some l => ⟨min l.figures[a].mass m, m - l.figures[a].mass, false, some l.number⟩ :=
  if_neg (by rw [h]; nofun)

theorem loadedApplied_eq {before : Nat} (h : before ≤ 60000) (m : Nat) : loadedApplied before m = min m (60000 - before) := by
  unfold loadedApplied
  split <;> omega

theorem saturate16_comm (n : Nat) : saturate16 n = min 65535 n := Nat.min_comm _ _

/-- The load of a LOADED commit, opened where none is open, and the number that follows (R112). -/
theorem openLoad_eq {l : Load} (hl : s.tal.load = some l ∨ (s.tal.load = none
      ∧ l = ⟨s.tal.nextNumber, s.log.clock, Vector.replicate 16 ⟨0, 0, 0⟩, 0, 0, false, false⟩)) :
    openLoad s = { s with tal := { s.tal with
      load := some l
      nextNumber := if s.tal.load.isSome then s.tal.nextNumber
        else if s.tal.nextNumber = 65535 then 1 else s.tal.nextNumber + 1 } } := by
  unfold openLoad
  rcases hl with h | ⟨h, rfl⟩
  · rw [h]
    conv_lhs => rw [show s = { s with tal := { s.tal with load := s.tal.load } } from rfl, h]
    rfl
  · rw [h]
    rfl

theorem commitLoaded_eq {l : Load} {a : Fin 16} {m : Nat} {q : Quality} (hl : (openLoad s).tal.load = some l) :
    commitLoaded a m q s = judgePayload (evaluateTarget
      (if saturates l.figures[a].mass m then
          latch .tallySaturated { openLoad s with tal := { (openLoad s).tal with load := some (l.afterLoaded a m q) } }
        else { openLoad s with tal := { (openLoad s).tal with load := some (l.afterLoaded a m q) } })) := by
  unfold commitLoaded
  dsimp only
  rw [hl]

/-- The evaluation of the target and of PAYLOAD are to the tally and the cab line. -/
theorem targetJudged_eq (s : State) : judgePayload (evaluateTarget s)
    = { s with tal := (judgePayload (evaluateTarget s)).tal, clp := (judgePayload (evaluateTarget s)).clp } := by
  unfold evaluateTarget judgePayload
  split
  · rfl
  · split <;> rfl

theorem Load.afterLoaded_eq {l : Load} {a : Fin 16} (h : l.figures[a].mass ≤ 60000) (m : Nat) (q : Quality) :
    l.afterLoaded a m q = { l with
      figures := l.figures.set a ⟨l.figures[a].mass + min m (60000 - l.figures[a].mass),
        min 65535 (l.figures[a].lifts + 1),
        if q = .unweighed then min 65535 (l.figures[a].unweighed + 1) else l.figures[a].unweighed⟩
      loadedLifts := min 65535 (l.loadedLifts + 1)
      saturated := l.saturated || decide (60000 < l.figures[a].mass + m) } := by
  simp only [Load.afterLoaded, Figures.afterLoaded, loadedApplied_eq h, saturate16_comm, saturates]

theorem Load.afterUnloaded_eq (l : Load) (a : Fin 16) (m : Nat) (q : Quality) : l.afterUnloaded a m q = { l with
      figures := l.figures.set a ⟨l.figures[a].mass - m, l.figures[a].lifts,
        if q = .unweighed then min 65535 (l.figures[a].unweighed + 1) else l.figures[a].unweighed⟩
      unloadedLifts := min 65535 (l.unloadedLifts + 1) } := by
  simp only [Load.afterUnloaded, Figures.afterUnloaded, saturate16_comm]

theorem commitUnloaded_some {l : Load} {a : Fin 16} {m : Nat} {q : Quality} (hl : s.tal.load = some l) :
    commitUnloaded a m q s = if (l.afterUnloaded a m q).total = 0 then closeLoad .emptied
        (if l.figures[a].mass < m then latch .overdraw { s with tal := { s.tal with load := some (l.afterUnloaded a m q) } }
          else { s with tal := { s.tal with load := some (l.afterUnloaded a m q) } })
      else judgePayload (evaluateTarget
        (if l.figures[a].mass < m then latch .overdraw { s with tal := { s.tal with load := some (l.afterUnloaded a m q) } }
          else { s with tal := { s.tal with load := some (l.afterUnloaded a m q) } })) := by
  unfold commitUnloaded
  rw [hl]

theorem commitUnloaded_none {a : Fin 16} {m : Nat} {q : Quality} (hl : s.tal.load = none) :
    commitUnloaded a m q s = if m = 0 then s else latch .overdraw s := by
  unfold commitUnloaded
  rw [hl]

/-- A latch stays through what adds no more than changes of other conditions. -/
theorem targetJudged_isLatched {d : Condition} (h : s.clp.isLatched d = true) :
    (judgePayload (evaluateTarget s)).clp.isLatched d = true := by
  unfold judgePayload setLive
  rw [Clp.setLive_isLatched]
  unfold evaluateTarget
  split
  · simp [h]
  · split
    · simp [notify, Clp.isLatched] at h ⊢
      simp [h]
    · simp [h]

theorem closeLoad_isLatched {d : Condition} {l : Load} {r : CloseReason} (hl : s.tal.load = some l)
    (h : s.clp.isLatched d = true) : (closeLoad r s).clp.isLatched d = true := by
  rw [closeLoad_some r hl]
  unfold judgePayload setLive
  rw [Clp.setLive_isLatched]
  rcases record_cases (.loadClosed ⟨l.number, r, l.total, l.loadedLifts, l.unloadedLifts⟩) s with
    ⟨-, e⟩ | ⟨-, -, e⟩ | ⟨-, -, e⟩
  · rw [e, h]
    rfl
  · rw [e]
    dsimp only
    rw [h]
    rfl
  · rw [e]
    simp [Clp.isLatched] at h ⊢
    simp [h]

/-- Settles O34: a commit is its latch and then the target, or the closing of the load. -/
theorem commitsChangeTheTally : Obligations.CommitsChangeTheTally := by
  intro a mass q s un g meets quiet evaluated
  refine ⟨fun o h => ?_, fun h o ho => commitEffect_held h ho a mass, fun h l hl => ?_, fun h l hl => ?_, fun h hl => ?_⟩
  · rcases h with h | ⟨h, k⟩
    · exact commit_held h o a mass q
    · exact commit_untallied h k a mass q
  · intro f t rise after
    have hopen := openLoad_eq hl
    have ht : t = _ := (if_neg (by rw [h]; nofun)).trans (commitLoaded_eq (q := q) (m := mass) (a := a) (by rw [hopen]))
    rw [hopen] at ht
    dsimp only at ht
    generalize hb : ({ s with tal := { s.tal with
        load := some (l.afterLoaded a mass q)
        nextNumber := if s.tal.load.isSome then s.tal.nextNumber
          else if s.tal.nextNumber = 65535 then 1 else s.tal.nextNumber + 1 } } : State) = b at ht
    obtain ⟨k1, k2, k3, k4, k5, k6⟩ := latchIf_facts (saturates l.figures[a].mass mass) .tallySaturated b
    generalize hc : (if saturates l.figures[a].mass mass = true then latch Condition.tallySaturated b else b) = c at *
    have hct : c.tal = { s.tal with
        load := some (l.afterLoaded a mass q)
        nextNumber := if s.tal.load.isSome then s.tal.nextNumber
          else if s.tal.nextNumber = 65535 then 1 else s.tal.nextNumber + 1 } := by rw [k1, ← hb]
    have hload : c.tal.load = some (l.afterLoaded a mass q) := by rw [hct]
    have htarget : c.tal.target = g := by rw [hct]
    refine ⟨fun hf => ⟨?_, ?_, fun hs => ?_, ?_⟩, ?_⟩
    · rw [commitEffect_loaded h]
      rcases hl with hl | ⟨hl, rfl⟩
      · rw [hl]
        show TallyEffect.mk (loadedApplied f.mass mass) _ _ _ = _
        rw [loadedApplied_eq hf]
      · rw [hl]
        dsimp only
        rw [loadedApplied_eq (Nat.zero_le 60000)]
        simp [rise, f]
    · obtain ⟨reached, h1, h2, h3, h4, -⟩ := targetJudged hload
      have hafter : l.afterLoaded a mass q = after := Load.afterLoaded_eq hf mass q
      rw [hafter, htarget] at h2 h3 h4
      rw [ht]
      refine ⟨reached, ?_, h2, fun hm hr hq => ?_, fun hm => ?_⟩
      · rw [h1, hct, hafter]
      · refine h3 hm hr ?_
        have := k4.length_le
        rw [← hb] at this
        exact Nat.lt_of_le_of_lt this (by show s.clp.queue.length + 1 < 32; omega)
      · have := k3.trans (h4 hm)
        rw [← hb] at this
        exact this
    · rw [ht]
      exact targetJudged_isLatched (k5 (decide_eq_true hs))
    · rw [ht]
      exact judgePayload_condition _
    · have hk : ∃ x y, c = { s with tal := x, clp := y } := ⟨b.tal, c.clp, by rw [k6, ← hb]⟩
      obtain ⟨x, y, hk⟩ := hk
      rw [hk] at ht
      rw [ht]
      exact targetJudged_eq _
  · intro f t after
    have hafter : l.afterUnloaded a mass q = after := Load.afterUnloaded_eq l a mass q
    have ht : t = _ := (if_neg (by rw [h]; nofun)).trans (commitUnloaded_some (q := q) (m := mass) (a := a) hl)
    rw [hafter] at ht
    generalize hb : ({ s with tal := { s.tal with load := some after } } : State) = b at ht
    obtain ⟨k1, k2, k3, k4, k5, k6⟩ := latchIf_facts (decide (l.figures[a].mass < mass)) .overdraw b
    simp only [decide_eq_true_eq] at k1 k2 k3 k4 k5 k6
    generalize hc : (if l.figures[a].mass < mass then latch Condition.overdraw b else b) = c at *
    have hct : c.tal = { s.tal with load := some after } := by rw [k1, ← hb]
    have hload : c.tal.load = some after := by rw [hct]
    have hlog : c.log = s.log := by rw [k2, ← hb]
    have hbq : NoTarget s c := by
      rw [← hb] at k3
      exact k3
    refine ⟨?_, fun hm => ?_, ?_, fun hne => ?_, fun h0 => ?_⟩
    · rw [commitEffect_unloaded h, hl]
      show TallyEffect.mk _ (mass - f.mass) _ _ = TallyEffect.mk _ _ _ _
      rw [show mass - f.mass = mass - min f.mass mass by omega]
    · have := k5 hm
      rw [ht]
      split
      · exact closeLoad_isLatched hload this
      · exact targetJudged_isLatched this
    · rw [ht]
      split
      · rw [closeLoad_some _ hload]
        exact judgePayload_condition _
      · exact judgePayload_condition _
    · rw [if_neg hne] at ht
      obtain ⟨reached, h1, h2, h3, h4, h5⟩ := targetJudged hload
      rw [show c.tal.target = g by rw [hct]] at h2 h3 h4
      rw [ht]
      refine ⟨⟨reached, ?_, h2, fun hm hr hq => h3 hm hr ?_, fun hm => hbq.trans (h4 hm)⟩, h5.trans hlog⟩
      · rw [h1, hct]
      · have := k4.length_le
        rw [← hb] at this
        exact Nat.lt_of_le_of_lt this (by show s.clp.queue.length + 1 < 32; omega)
    · rw [if_pos h0, closeLoad_some _ hload] at ht
      have hkey : (⟨l.number, .emptied, after.total, l.loadedLifts, after.unloadedLifts⟩ : LoadClosedPart)
          = ⟨l.number, .emptied, 0, l.loadedLifts, after.unloadedLifts⟩ := by rw [h0]
      rw [ht]
      refine ⟨rfl, ?_, ?_, fun hon => ?_⟩
      · exact hbq.trans ((noTarget_record (.loadClosed ⟨l.number, .emptied, after.total, l.loadedLifts,
          after.unloadedLifts⟩) c).trans (noTarget_setLive _ _ _))
      · show appendSummary c.tal.history (after.summary .emptied c.log.clock) = _
        rw [hct, hlog]
        unfold Load.summary
        rw [h0]
        rfl
      · obtain ⟨e, h1, h2, -⟩ := record_last (s := c) (p := .loadClosed ⟨l.number, .emptied, after.total, l.loadedLifts,
          after.unloadedLifts⟩) (by rw [hlog]; exact hon)
        exact ⟨e, h1, h2.trans (congrArg EntryPart.loadClosed hkey)⟩
  · have ht : commit .unloaded a mass q s = _ :=
      (if_neg (by rw [h]; nofun)).trans (commitUnloaded_none (q := q) (m := mass) (a := a) hl)
    refine ⟨?_, fun hm => ?_, fun hm => ?_⟩
    · rw [commitEffect_unloaded h, hl]
    · rw [ht, if_pos hm]
    · rw [ht, if_neg hm]
      rfl

end Sys2Proof.Machine
end

section
/-! PROOF. The tasks of an acquisition frame: their order, and what WEN's work on the cylinder leaves (R2, R63 to
R66, R75). -/

namespace Sys2Proof.Machine

variable {s t u : State}

/-! ## The tasks that look on -/

/-- What a mark and an evaluation leave of the module: the mark is LOG's entry, the evaluation MLM's and VDR's. -/
structure Rests (m : Bool) (s t : State) : Prop where
  ltr : t.ltr = s.ltr
  wen : t.wen = s.wen
  tal : t.tal = s.tal
  geo : t.geo = s.geo
  iau : t.iau = s.iau
  tlc : t.tlc = s.tlc
  sto : t.sto = s.sto
  steady : Steady s t
  log : m = false → t.log = s.log
  live : ∀ d, d ≠ .limitHold → t.clp.isLive d = s.clp.isLive d
  grows : s.clp.Grows t.clp

theorem Rests.refl (m : Bool) (s : State) : Rests m s s :=
  ⟨rfl, rfl, rfl, rfl, rfl, rfl, rfl, .refl, fun _ => rfl, fun _ _ => rfl, .refl _⟩

theorem Steady.trans (h : Steady s t) (k : Steady t u) : Steady s u :=
  ⟨k.1.trans h.1, k.2.1.trans h.2.1, k.2.2.trans h.2.2⟩

theorem Rests.trans {m : Bool} (h : Rests m s t) (k : Rests m t u) : Rests m s u :=
  ⟨k.ltr.trans h.ltr, k.wen.trans h.wen, k.tal.trans h.tal, k.geo.trans h.geo, k.iau.trans h.iau, k.tlc.trans h.tlc,
    k.sto.trans h.sto, h.steady.trans k.steady, fun x => (k.log x).trans (h.log x),
    fun d hd => (k.live d hd).trans (h.live d hd), h.grows.trans k.grows⟩

theorem rests_evaluate (m : Bool) (s : State) : Rests m s (evaluate s) :=
  ⟨rfl, rfl, rfl, rfl, rfl, rfl, rfl, ⟨rfl, rfl, rfl⟩, fun _ => rfl, fun _ hd => evaluate_isLive s hd, .setLive _ _ _⟩

theorem record_isLive (p : EntryPart) (d : Condition) (s : State) : (record p s).clp.isLive d = s.clp.isLive d := by
  have h : Reports (fun _ => False) s.clp (record p s).clp := reports_record .refl
  exact h.isLive d id

theorem rests_mark (m : Bool) (s : State) : Rests m s (performTask m .mark s) := by
  cases m with
  | false => exact .refl _ s
  | true =>
    have h := record_frame (.mark (markPart s)) s
    exact ⟨by simp [performTask], by simp [performTask], by simp [performTask], by simp [performTask],
      by simp [performTask], by simp [performTask], by simp [performTask], steady_record .refl, nofun,
      fun d _ => record_isLive _ d s, (mild_record _ s).clp⟩

/-- The tasks of LOG and MLM. -/
def FrameTask.onlooker : FrameTask → Bool
  | .mark | .evaluation => true
  | .cylinder | .grip => false

theorem rests_onlookers {m : Bool} (l : List FrameTask) (h : l.all FrameTask.onlooker = true) (s : State) :
    Rests m s (l.foldl (fun u x => performTask m x u) s) := by
  induction l generalizing s with
  | nil => exact .refl m s
  | cons x l ih =>
    rw [List.all_cons, Bool.and_eq_true] at h
    refine Rests.trans ?_ (ih h.2 _)
    cases x with
    | mark => exact rests_mark m s
    | evaluation => exact rests_evaluate m s
    | cylinder => cases h.1
    | grip => cases h.1

/-! ## The order of a frame's tasks (log 8) -/

/-- WEN's and LTR's tasks of a frame, in their order. -/
def firstTask (o : FrameOrder) : FrameTask := if o.gripFirst then .grip else .cylinder

def secondTask (o : FrameOrder) : FrameTask := if o.gripFirst then .cylinder else .grip

/-- LOG's and MLM's tasks stand around the two others. -/
theorem orderedTasks_split (o : FrameOrder) : ∃ a b c, orderedTasks o = a ++ firstTask o :: (b ++ secondTask o :: c)
    ∧ a.all FrameTask.onlooker = true ∧ b.all FrameTask.onlooker = true ∧ c.all FrameTask.onlooker = true := by
  have hall : ∀ g m e,
      let o : FrameOrder := ⟨g, m, e⟩
      let a := (orderedTasks o).takeWhile FrameTask.onlooker
      let r := ((orderedTasks o).dropWhile FrameTask.onlooker).drop 1
      let b := r.takeWhile FrameTask.onlooker
      let c := (r.dropWhile FrameTask.onlooker).drop 1
      orderedTasks o = a ++ firstTask o :: (b ++ secondTask o :: c)
        ∧ a.all FrameTask.onlooker = true ∧ b.all FrameTask.onlooker = true ∧ c.all FrameTask.onlooker = true := by
    decide
  obtain ⟨g, m, e⟩ := o
  exact ⟨_, _, _, hall g m e⟩

/-- A frame: LOG and MLM look on before, between and behind the tasks of WEN and LTR. -/
theorem takeFrame_split (codes : PerChannel RawCode) (levels : PerLine Level) (order : FrameOrder) (s : State) :
    let m := isMark s.iau.lines (acquire codes levels s)
    ∃ u v, Rests m (acquire codes levels s) u ∧ Rests m (performTask m (firstTask order) u) v
      ∧ Rests m (performTask m (secondTask order) v) (takeFrame codes levels order s) := by
  intro m
  obtain ⟨a, b, c, h, ha, hb, hc⟩ := orderedTasks_split order
  refine ⟨a.foldl (fun u x => performTask m x u) (acquire codes levels s), _, rests_onlookers a ha _,
    rests_onlookers b hb _, ?_⟩
  have hf : takeFrame codes levels order s = (orderedTasks order).foldl (fun u x => performTask m x u)
    (acquire codes levels s) := rfl
  rw [hf, h, List.foldl_append, List.foldl_cons, List.foldl_append, List.foldl_cons]
  exact rests_onlookers c hc _

theorem takeFrame_gripFirst (codes : PerChannel RawCode) (levels : PerLine Level) {order : FrameOrder} (s : State)
    (h : order.gripFirst = true) :
    let m := isMark s.iau.lines (acquire codes levels s)
    ∃ u v, Rests m (acquire codes levels s) u ∧ Rests m (judgeGrip u) v
      ∧ Rests m (cylinderFrame v) (takeFrame codes levels order s) := by
  have hs := takeFrame_split codes levels order s
  simpa [firstTask, secondTask, h, performTask] using hs

theorem takeFrame_cylinderFirst (codes : PerChannel RawCode) (levels : PerLine Level) {order : FrameOrder} (s : State)
    (h : order.gripFirst = false) :
    let m := isMark s.iau.lines (acquire codes levels s)
    ∃ u v, Rests m (acquire codes levels s) u ∧ Rests m (cylinderFrame u) v
      ∧ Rests m (judgeGrip v) (takeFrame codes levels order s) := by
  have hs := takeFrame_split codes levels order s
  simpa [firstTask, secondTask, h, performTask] using hs

/-! ## A lift source that stands (R66) -/

/-- The lift source is one that need not fall. -/
def State.liftJudged (s : State) : Prop := ∀ x, s.wen.liftSource = some x → x = .none ∨ available s x = true

theorem State.liftJudged.stands (h : s.liftJudged) : judgeLiftSource s = s := by
  unfold judgeLiftSource
  split
  · rfl
  · rfl
  · next old hn hs =>
    rcases h old hs with rfl | ha
    · exact absurd rfl hn
    · exact if_pos ha

theorem State.liftJudged.of_eq (h : s.liftJudged) (hs : t.wen.liftSource = s.wen.liftSource)
    (ha : ∀ x, available t x = available s x) : t.liftJudged := fun x hx => by
  rw [ha]
  exact h x (hs.symm.trans hx)

theorem lowerSource_available (s : State) (x : Source) :
    lowerSource s x = .none ∨ available s (lowerSource s x) = true := by
  unfold lowerSource
  split
  · next h => exact .inr (Bool.and_eq_true_iff.1 h).2
  · exact .inl rfl

theorem takeDowngrade_liftSource (x : Source) (s : State) : (takeDowngrade x s).wen.liftSource = s.wen.liftSource := by
  unfold takeDowngrade
  split <;> rfl

theorem judgeLiftSource_liftJudged (s : State) : (judgeLiftSource s).liftJudged := by
  intro x hx
  rw [judgeLiftSource_available]
  unfold judgeLiftSource at hx
  split at hx
  · next h => rw [h] at hx; cases hx
  · next h => rw [h] at hx; cases hx; exact .inl rfl
  · next old _ h =>
    split at hx
    · next ha => rw [h] at hx; cases hx; exact .inr ha
    · rw [takeDowngrade_liftSource] at hx
      cases hx
      exact lowerSource_available s old

theorem rejudgeSources_liftJudged (s : State) : (rejudgeSources s).liftJudged := judgeLiftSource_liftJudged _

theorem enterState_wen (x : LiftState) (s : State) : ∃ c, (enterState x s).wen
    = { s.wen.onLiftState x with capture := c } := by
  have h : (enterState x s).wen = (abortCaptures (brokenBy x)
    { s with ltr := s.ltr.enter x, wen := s.wen.onLiftState x }).wen := rfl
  exact ⟨_, h.trans (abortCaptures_wen _ _)⟩

theorem enterState_available (x : LiftState) (s : State) (y : Source) :
    available (enterState x s) y = available s y := by
  obtain ⟨c, h⟩ := enterState_wen x s
  have hk : (enterState x s).clp.isLive .tipStuck = s.clp.isLive .tipStuck :=
    
    (evaluate_isLive _ (show Condition.tipStuck ≠ .limitHold from nofun)).trans (abortCaptures_isLive _ _ _)
  exact available_congr (by simp) hk (by rw [h]; rfl) (by simp) (by simp) (by simp) y

theorem State.judged.available (h : s.judged) : s.wen.source = .none ∨ available s s.wen.source = true := by
  rw [State.judged] at h
  rw [h]
  unfold judgedSource
  split
  · next ha => exact .inr ha
  · split
    · next ha => exact .inr ha
    · exact .inl rfl

/-- The way out of a lift leaves no lift source. -/
theorem liftJudged_leave {x : LiftState} (h : x.inLift = false) (s : State) : (enterState x s).liftJudged := by
  obtain ⟨c, hw⟩ := enterState_wen x s
  intro y hy
  rw [hw] at hy
  simp [Wen.onLiftState, h] at hy

theorem liftJudged_takeDrop (s : State) : (takeDrop s).liftJudged := by
  rw [takeDrop_eq]
  exact liftJudged_leave rfl _

theorem liftJudged_takeLiftOff (h : s.judged) : (takeLiftOff s).liftJudged := by
  intro x hx
  obtain ⟨h1, -⟩ := takeLiftOff_wen s
  rw [h1] at hx
  cases hx
  have ha : available (takeLiftOff s) s.wen.source = available s s.wen.source :=
    (enterState_available _ _ _).trans (available_congr rfl rfl rfl rfl rfl rfl _)
  rw [ha]
  exact h.available

theorem liftJudged_judgeLive (h : s.liftJudged) (hj : s.judged) : (judgeLive s).liftJudged := by
  unfold judgeLive
  dsimp only
  split
  · exact h
  · split
    · exact liftJudged_takeLiftOff (s := { s with ltr := _ }) hj
    · exact h.of_eq rfl fun _ => available_congr rfl rfl rfl rfl rfl rfl _
  · split
    · exact liftJudged_takeDrop _
    · exact h.of_eq rfl fun _ => available_congr rfl rfl rfl rfl rfl rfl _

theorem liftJudged_handLiveUpdate (h : s.liftJudged) (hj : s.judged) : (handLiveUpdate s).liftJudged :=
  (liftJudged_judgeLive h hj).of_eq rfl fun x => evaluate_available (judgeLive s) x

theorem completeWindow_available (s : State) (x : Source) : available (completeWindow s) x = available s x := by
  unfold completeWindow
  split
  · split
    · exact (enterState_available _ _ _).trans (available_congr rfl rfl rfl rfl rfl rfl _)
    · rfl
  · rfl

theorem completeWindow_liftSource (s : State) : (completeWindow s).wen.liftSource = s.wen.liftSource := by
  unfold completeWindow
  split
  · split
    · obtain ⟨c, hw⟩ := enterState_wen .weighed { s with ltr := { s.ltr with
        result := some (weighedResult s.wen ‹Window›.source ‹Window›.mean (‹Window›.quality s.wen.settings.spread)) } }
      rw [hw]
      rfl
    · rfl
  · rfl

theorem liftJudged_completeWindow (h : s.liftJudged) : (completeWindow s).liftJudged :=
  h.of_eq (completeWindow_liftSource s) (completeWindow_available s)

end Sys2Proof.Machine
end

section
/-! PROOF. WEN's work on the cylinder at a frame: sources, force and sample, and behind them a capture in flight
that touches nothing but the calibration, LOG and CLP (R63 to R66, R75). -/

namespace Sys2Proof.Machine

variable {s t u : State}

/-! ## The frame's sample -/

/-- The force of a frame held, and its sample taken (R63, R64). -/
def heldForce (o : Option CylinderForce) (s : State) : State :=
  let s1 := { s with wen := { s.wen with frameForce := o } }
  match o with
  | none => noCylinderSample s1
  | some f =>
    match cylinderSample s.wen.calibration f with
    | some x => takeCylinderSample x s1
    | none => noCylinderSample s1

/-- WEN's work on the cylinder up to the sample: sources, force, sample (R63 to R65). -/
def sampledCylinder (s : State) : State := heldForce (formedForce (rejudgeSources s)) (rejudgeSources s)

theorem cylinderFrame_eq (s : State) : cylinderFrame s = match formedForce (rejudgeSources s) with
    | none => sampledCylinder s
    | some f => captureCylinder f (rejudgeSources s).wen.frameForce (sampledCylinder s) := by
  unfold cylinderFrame sampledCylinder
  dsimp only
  generalize formedForce (rejudgeSources s) = o
  cases o <;> rfl

/-- The current source and the lift source stand. -/
def State.settled (s : State) : Prop := s.judged ∧ s.liftJudged

theorem State.settled.of_eq (h : s.settled) (hc : t.wen.source = s.wen.source)
    (hs : t.wen.liftSource = s.wen.liftSource) (ha : ∀ x, available t x = available s x) : t.settled :=
  ⟨by rw [State.judged, hc, judgedSource_congr ha]; exact h.1, h.2.of_eq hs ha⟩

theorem settled_handLiveUpdate (h : s.settled) : (handLiveUpdate s).settled :=
  ⟨(works_handLiveUpdate .refl).judged h.1, liftJudged_handLiveUpdate h.2 h.1⟩

theorem settled_completeWindow (h : s.settled) : (completeWindow s).settled :=
  ⟨(works_completeWindow .refl).judged h.1, liftJudged_completeWindow h.2⟩

theorem settled_rejudgeSources (s : State) : (rejudgeSources s).settled :=
  ⟨rejudgeSources_judged s, rejudgeSources_liftJudged s⟩

theorem settled_takeCylinderSample {x : Int} (h : s.settled) : (takeCylinderSample x s).settled := by
  have hf (b : Bool) : (feedIf b x s).settled := by
    unfold feedIf
    split
    · exact h.of_eq rfl rfl fun y => available_congr rfl rfl rfl rfl rfl rfl y
    · exact h
  have hg {u : State} (h : u.settled) : (gateCylinder x u).settled := by
    unfold gateCylinder feedLiftWindow
    split
    · split
      · exact h.of_eq rfl rfl fun y => available_congr rfl rfl rfl rfl rfl rfl y
      · exact h
    · exact h
  have hh (b : Bool) {u : State} (h : u.settled) : (handIf b u).settled := by
    unfold handIf
    split
    · exact settled_handLiveUpdate h
    · exact h
  exact (hh _ (settled_completeWindow (hg (hf (s.wen.source == .cylinder))))).of_eq rfl rfl
    fun y => available_congr rfl rfl rfl rfl rfl rfl y

theorem settled_noCylinderSample (h : s.settled) : (noCylinderSample s).settled := by
  unfold noCylinderSample
  dsimp only
  split
  · exact settled_handLiveUpdate (h.of_eq rfl rfl fun y => available_congr rfl rfl rfl rfl rfl rfl y)
  · exact h.of_eq rfl rfl fun y => available_congr rfl rfl rfl rfl rfl rfl y

theorem settled_heldForce (o : Option CylinderForce) (h : s.settled) : (heldForce o s).settled := by
  have hs : State.settled { s with wen := { s.wen with frameForce := o } } :=
    h.of_eq rfl rfl fun y => available_congr rfl rfl rfl rfl rfl rfl y
  unfold heldForce
  split
  · exact settled_noCylinderSample hs
  · split
    · exact settled_takeCylinderSample hs
    · exact settled_noCylinderSample hs

theorem settled_sampledCylinder (s : State) : (sampledCylinder s).settled :=
  settled_heldForce _ (settled_rejudgeSources s)

/-! ## A capture in flight takes the force last (R74, R75) -/

/-- What a completion leaves: the calibration, and what LOG and CLP make of it. -/
structure Measured (s u : State) : Prop where
  eq : u = { s with wen := { s.wen with calibration := u.wen.calibration, capture := u.wen.capture }, log := u.log, clp := u.clp }
  tipValid : u.wen.calibration.tipValid = s.wen.calibration.tipValid
  steady : Steady s u
  live : ∀ d, d ≠ .noCal → u.clp.isLive d = s.clp.isLive d

theorem Measured.refl (s : State) : Measured s s := ⟨rfl, rfl, .refl, fun _ _ => rfl⟩

theorem Measured.available (h : Measured s u) (x : Source) : available u x = available s x := by
  have hk : u.clp.isLive .tipStuck = s.clp.isLive .tipStuck := h.live _ nofun
  have hv := h.tipValid
  rw [h.eq] at hk hv ⊢
  dsimp only at hk hv
  cases x <;> simp [Machine.available, cylinderReadable, hk, hv]

/-- The completion of a capture that leaves the tip's marks: the sources stand. -/
theorem finishCapture_eq {c : Capture} {n : CalName} {x y : Int} {cal : Calibration} (h : s.settled)
    (hv : cal.tipValid = s.wen.calibration.tipValid) : finishCapture c n x y cal s
      = notify (.calDone c.kind c.band y) (record (.cal ⟨n, c.band, x, y⟩)
          (judgeNoCal { s with wen := { s.wen with calibration := cal, capture := none } })) := by
  have hb : Measured s (judgeNoCal { s with wen := { s.wen with calibration := cal, capture := none } }) :=
    ⟨rfl, hv, .refl, fun d hd => setLive_other .noCal d hd.symm⟩
  have hs : (judgeNoCal { s with wen := { s.wen with calibration := cal, capture := none } }).settled :=
    h.of_eq rfl rfl hb.available
  unfold finishCapture
  rw [rejudgeSources_stands (s := judgeNoCal _) hs.1.symm, hs.2.stands]

theorem finishCapture_measured {c : Capture} {n : CalName} {x y : Int} {cal : Calibration} (h : s.settled)
    (hv : cal.tipValid = s.wen.calibration.tipValid) : Measured s (finishCapture c n x y cal s) := by
  rw [finishCapture_eq h hv]
  generalize hb : judgeNoCal { s with wen := { s.wen with calibration := cal, capture := none } } = b
  have hl (d : Condition) (hd : d ≠ .noCal) : b.clp.isLive d = s.clp.isLive d := by
    rw [← hb]
    exact setLive_other .noCal d hd.symm
  have hs : Steady s b := by
    rw [← hb]
    exact ⟨rfl, rfl, rfl⟩
  refine ⟨?_, ?_, ?_, fun d hd => ?_⟩
  · rw [← hb]
    rfl
  · rw [← hb]
    exact hv
  · exact steady_record hs
  · have hr : Reports (fun _ => False) b.clp (notify (.calDone c.kind c.band y)
        (record (.cal ⟨n, c.band, x, y⟩) b)).clp := reports_notify (reports_record .refl)
    exact (hr.isLive d id).trans (hl d hd)

theorem failCapture_measured (r : CaptureReason) (s : State) : Measured s (failCapture r s) :=
  ⟨rfl, rfl, .refl, fun d _ => (reports_failCapture (D := fun _ => False) .refl).isLive d id⟩

theorem captureTake_measured {c : Capture} {x : Int} (h : s.settled) (hz : c.kind ≠ .zero) (hs : c.kind ≠ .span) :
    Measured s (captureTake c x s) := by
  unfold captureTake
  dsimp only
  split
  · unfold finish
    dsimp only
    split
    · next hk => exact absurd hk hz
    · next hk => exact absurd hk hs
    · exact finishCapture_measured h rfl
    · unfold finishCylLoad
      dsimp only
      split
      · exact failCapture_measured _ s
      · split
        · exact finishCapture_measured h rfl
        · exact failCapture_measured _ s
    · exact .refl s
    · exact .refl s
  · exact ⟨rfl, rfl, .refl, fun _ _ => rfl⟩

theorem captureCylinder_measured {f : CylinderForce} {g : Option CylinderForce} (h : s.settled) :
    Measured s (captureCylinder f g s) := by
  unfold captureCylinder
  split
  · exact .refl s
  · split
    · exact .refl s
    · exact .refl s
    · next hz hs =>
      split
      · split
        · exact .refl s
        · split
          · exact captureTake_measured h hz hs
          · exact .refl s
      · exact failCapture_measured _ s

/-- WEN's work on the cylinder is the frame's sample, and a capture behind it. -/
theorem cylinderFrame_measured (s : State) : Measured (sampledCylinder s) (cylinderFrame s) := by
  rw [cylinderFrame_eq]
  split
  · exact .refl _
  · exact captureCylinder_measured (settled_sampledCylinder s)

/-! ## LTR at the frame's sample -/

theorem Measured.ltr (h : Measured s u) : u.ltr = s.ltr := by rw [h.eq]

theorem gateCylinder_ltr (x : Int) (s : State) : (gateCylinder x s).ltr = s.ltr := by
  unfold gateCylinder feedLiftWindow
  repeat' split
  all_goals rfl

theorem feedIf_ltr (b : Bool) (x : Int) (s : State) : (feedIf b x s).ltr = s.ltr := by
  unfold feedIf
  split <;> rfl

/-- An update outside a lift that has no LIFT-OFF under way. -/
theorem handLiveUpdate_unlifted (hx : s.ltr.state.inLift = false)
    (ho : s.ltr.state = .gripped → s.ltr.liftOffStart = none) :
    ∃ a, (handLiveUpdate s).ltr = { s.ltr with liftOffStart := a } ∧ (s.ltr.state = .idle → a = s.ltr.liftOffStart) := by
  cases hs : s.ltr.state with
  | idle =>
    refine ⟨s.ltr.liftOffStart, ?_, fun _ => rfl⟩
    have h : judgeLive s = s := by
      unfold judgeLive
      rw [hs]
    show (judgeLive s).ltr = _
    rw [h]
  | gripped =>
    have hq : qualify (liftOffHolds s) s.log.clock s.ltr.settings.liftOffTime s.ltr.liftOffStart
        = ((qualify (liftOffHolds s) s.log.clock s.ltr.settings.liftOffTime none).1, false) := by
      rw [ho hs, ← qualify_none (liftOffHolds s) s.log.clock s.ltr.settings.liftOffTime]
    refine ⟨(qualify (liftOffHolds s) s.log.clock s.ltr.settings.liftOffTime none).1, ?_, nofun⟩
    show (judgeLive s).ltr = _
    rw [judgeLive_gripped hs hq]
    rfl
  | lifted => rw [hs] at hx; cases hx
  | weighed => rw [hs] at hx; cases hx

theorem rejudgeSources_unlifted (hx : s.ltr.state.inLift = false)
    (ho : s.ltr.state = .gripped → s.ltr.liftOffStart = none) : (rejudgeSources s).ltr = s.ltr := by
  have hj {u : State} (h : u.ltr.state.inLift = false) : (judgeLiftSource u).ltr = u.ltr := by
    unfold judgeLiftSource takeDowngrade
    split
    · rfl
    · rfl
    · split
      · rfl
      · split
        · next hl => rw [show u.ltr.state = _ from hl] at h; cases h
        · rfl
  unfold rejudgeSources
  split
  · exact hj hx
  · have hc : (changeSource (judgedSource s) s).ltr = s.ltr := by
      rw [changeSource_eq]
      show s.ltr.unestimated = s.ltr
      unfold Ltr.unestimated
      split
      · rfl
      · next h => rw [← ho h]
      · next h1 h2 => rw [LiftState.inLift_of_ne h1 h2] at hx; cases hx
    rw [hj (by rw [hc]; exact hx), hc]

/-- Outside a lift, with no LIFT-OFF under way, WEN's work at a frame leaves LTR but for that stamp. -/
theorem cylinderFrame_unlifted (hx : s.ltr.state.inLift = false)
    (ho : s.ltr.state = .gripped → s.ltr.liftOffStart = none) :
    ∃ a, (cylinderFrame s).ltr = { s.ltr with liftOffStart := a } ∧ (s.ltr.state = .idle → a = s.ltr.liftOffStart) := by
  rw [(cylinderFrame_measured s).ltr]
  have hr := rejudgeSources_unlifted hx ho
  have hand {u : State} (h : u.ltr = s.ltr) : ∃ a, (handLiveUpdate u).ltr = { s.ltr with liftOffStart := a }
      ∧ (s.ltr.state = .idle → a = s.ltr.liftOffStart) := by
    rw [← h] at hx ho ⊢
    exact handLiveUpdate_unlifted hx ho
  have hnone {u : State} (h : u.ltr = s.ltr) : ∃ a, (noCylinderSample u).ltr = { s.ltr with liftOffStart := a }
      ∧ (s.ltr.state = .idle → a = s.ltr.liftOffStart) := by
    unfold noCylinderSample
    dsimp only
    split
    · exact hand h
    · exact ⟨_, h, fun _ => rfl⟩
  unfold sampledCylinder
  generalize formedForce (rejudgeSources s) = o
  generalize rejudgeSources s = r at hr
  unfold heldForce
  dsimp only
  split
  · exact hnone hr
  · next f =>
    split
    · next x _ =>
      have hg : (gateCylinder x (feedIf (r.wen.source == .cylinder) x
          { r with wen := { r.wen with frameForce := some f } })).ltr = s.ltr :=
        (gateCylinder_ltr x _).trans ((feedIf_ltr _ _ _).trans hr)
      have hl := completeWindow_other (s := gateCylinder x (feedIf (r.wen.source == .cylinder) x
        { r with wen := { r.wen with frameForce := some f } }))
        (by rw [hg]; intro k; rw [k] at hx; cases hx)
      show ∃ a, (handIf _ (completeWindow _)).ltr = _ ∧ _
      rw [hl]
      unfold handIf
      split
      · exact hand hg
      · exact ⟨_, hg, fun _ => rfl⟩
    · exact hnone hr

end Sys2Proof.Machine
end

section
/-! PROOF. GRIP and RELEASE at a frame (R88, R90, R92, R93). -/

namespace Sys2Proof.Machine

variable {s t u : State}

/-! ## The grip sample -/

theorem gripPressure_good {p : Int} (h : s.iau.channels.grip.status = .good) (hv : s.iau.channels.grip.value = some p) :
    gripPressure s = some p := by
  unfold gripPressure
  rw [h]
  exact hv

theorem gripHolds_fails (h : s.iau.channels.grip.status ≠ .good
    ∨ ∃ p, s.iau.channels.grip.value = some p ∧ p < s.ltr.settings.gripThreshold) : gripHolds s = false := by
  unfold gripHolds gripPressure
  cases hs : s.iau.channels.grip.status with
  | good =>
    obtain ⟨p, hv, hp⟩ := h.resolve_left (fun k => k hs)
    simp [hv, hp]
  | _ => rfl

theorem gripHolds_holds {p : Int} (h : s.iau.channels.grip.status = .good) (hv : s.iau.channels.grip.value = some p)
    (hp : (s.ltr.settings.gripThreshold : Int) ≤ p) : gripHolds s = true := by
  unfold gripHolds
  rw [gripPressure_good h hv]
  exact decide_eq_true hp

theorem releaseHolds_fails (h : s.iau.channels.grip.status ≠ .good
    ∨ ∃ p, s.iau.channels.grip.value = some p ∧ s.ltr.settings.releaseThreshold ≤ p) : releaseHolds s = false := by
  unfold releaseHolds gripPressure
  cases hs : s.iau.channels.grip.status with
  | good =>
    obtain ⟨p, hv, hp⟩ := h.resolve_left (fun k => k hs)
    simp [hv, hp]
  | _ => rfl

theorem releaseHolds_holds {p : Int} (h : s.iau.channels.grip.status = .good) (hv : s.iau.channels.grip.value = some p)
    (hp : p < (s.ltr.settings.releaseThreshold : Int)) : releaseHolds s = true := by
  unfold releaseHolds
  rw [gripPressure_good h hv]
  exact decide_eq_true hp

theorem judgeGrip_idle {b : Option Stamp} {e : Bool} (hx : s.ltr.state = .idle)
    (hq : qualify (gripHolds s) s.log.clock s.ltr.settings.gripTime s.ltr.gripStart = (b, e)) :
    judgeGrip s = if e then takeGrip { s with ltr := { s.ltr with gripStart := b } }
      else { s with ltr := { s.ltr with gripStart := b } } := by
  unfold judgeGrip
  rw [if_neg (by rw [hx]; nofun)]
  dsimp only
  rw [hq]

theorem judgeGrip_runs {b : Option Stamp} {e : Bool} (hx : s.ltr.state ≠ .idle)
    (hq : qualify (releaseHolds s) s.log.clock s.ltr.settings.releaseTime s.ltr.releaseStart = (b, e)) :
    judgeGrip s = if e then
        (if s.ltr.state.inLift then takeRelease { s with ltr := { s.ltr with releaseStart := b } }
          else releaseWithoutLift { s with ltr := { s.ltr with releaseStart := b } })
      else { s with ltr := { s.ltr with releaseStart := b } } := by
  unfold judgeGrip
  rw [if_pos ((LiftState.releaseRuns_iff _).2 hx)]
  dsimp only
  rw [hq]

/-- GRIP in IDLE: what its sample leaves of LTR. -/
theorem judgeGrip_idle_ltr {b : Option Stamp} {e : Bool} (hx : s.ltr.state = .idle)
    (hq : qualify (gripHolds s) s.log.clock s.ltr.settings.gripTime s.ltr.gripStart = (b, e)) :
    (judgeGrip s).ltr = if e then { s.ltr with gripStart := b, gripTime := some s.log.clock }.enter .gripped
      else { s.ltr with gripStart := b } := by
  rw [judgeGrip_idle hx hq]
  split
  · unfold takeGrip
    rw [enterState_ltr]
  · rfl

/-- RELEASE in GRIPPED: what its sample leaves of LTR. -/
theorem judgeGrip_gripped_ltr {b : Option Stamp} {e : Bool} (hx : s.ltr.state = .gripped)
    (hq : qualify (releaseHolds s) s.log.clock s.ltr.settings.releaseTime s.ltr.releaseStart = (b, e)) :
    (judgeGrip s).ltr = if e then { s.ltr with releaseStart := b, gripTime := none }.enter .idle
      else { s.ltr with releaseStart := b } := by
  rw [judgeGrip_runs (by rw [hx]; nofun) hq, hx]
  split
  · show (releaseWithoutLift _).ltr = _
    unfold releaseWithoutLift
    rw [enterState_ltr]
  · rfl

/-- Outside a lift the grip sample keeps the context outside it, and starts no LIFT-OFF. -/
theorem judgeGrip_unlifted (hx : s.ltr.state.inLift = false) (ho : s.ltr.state = .gripped → s.ltr.liftOffStart = none) :
    (judgeGrip s).ltr.state.inLift = false
      ∧ ((judgeGrip s).ltr.state = .gripped → (judgeGrip s).ltr.liftOffStart = none) := by
  cases hs : s.ltr.state with
  | idle =>
    rcases hq : qualify (gripHolds s) s.log.clock s.ltr.settings.gripTime s.ltr.gripStart with ⟨b, e⟩
    rw [judgeGrip_idle_ltr hs hq]
    cases e with
    | true => exact ⟨rfl, fun _ => rfl⟩
    | false => exact ⟨hx, fun (h : s.ltr.state = _) => by rw [hs] at h; cases h⟩
  | gripped =>
    rcases hq : qualify (releaseHolds s) s.log.clock s.ltr.settings.releaseTime s.ltr.releaseStart with ⟨b, e⟩
    rw [judgeGrip_gripped_ltr hs hq]
    cases e with
    | true => exact ⟨rfl, nofun⟩
    | false => exact ⟨hx, ho⟩
  | lifted => rw [hs] at hx; cases hx
  | weighed => rw [hs] at hx; cases hx

/-! ## The empty window (R72) -/

/-- A window that is not open is not opened. -/
def KeepsShut (s t : State) : Prop := s.wen.emptyWindow = none → t.wen.emptyWindow = none

theorem keepsShut_enterState (x : LiftState) (s : State) : KeepsShut s (enterState x s) := by
  obtain ⟨c, h⟩ := enterState_wen x s
  intro he
  rw [h]
  show (if x = .idle then s.wen.emptyWindow else none) = none
  rw [he, ite_self]

theorem KeepsShut.of_wen (h : KeepsShut t u) (hs : s.wen.emptyWindow = none → t.wen.emptyWindow = none) : KeepsShut s u :=
  h ∘ hs

theorem keepsShut_judgeLive (s : State) : KeepsShut s (judgeLive s) := by
  unfold judgeLive
  dsimp only
  split
  · exact id
  · split
    · exact (keepsShut_enterState _ _).of_wen id
    · exact id
  · split
    · rw [takeDrop_eq]
      refine (keepsShut_enterState _ _).of_wen fun h => ?_
      show (abortCaptures _ _).wen.emptyWindow = none
      rw [abortCaptures_wen]
      simpa using h
    · exact id

theorem keepsShut_handLiveUpdate (s : State) : KeepsShut s (handLiveUpdate s) := keepsShut_judgeLive s

theorem keepsShut_completeWindow (s : State) : KeepsShut s (completeWindow s) := by
  unfold completeWindow
  split
  · split
    · exact (keepsShut_enterState _ _).of_wen id
    · exact id
  · exact id

theorem keepsShut_rejudgeSources (s : State) : KeepsShut s (rejudgeSources s) := by
  have hj (u : State) : KeepsShut u (judgeLiftSource u) := by
    unfold judgeLiftSource takeDowngrade
    repeat' split
    all_goals exact id
  unfold rejudgeSources
  split
  · exact hj s
  · exact (hj _).of_wen ((keepsShut_handLiveUpdate _).of_wen fun _ => rfl)

theorem keepsShut_heldForce (o : Option CylinderForce) (s : State) : KeepsShut s (heldForce o s) := by
  have hn (u : State) : KeepsShut u (noCylinderSample u) := by
    unfold noCylinderSample
    dsimp only
    split
    · exact (keepsShut_handLiveUpdate _).of_wen id
    · exact id
  have ht (x : Int) (u : State) : KeepsShut u (takeCylinderSample x u) := by
    have hg : KeepsShut u (gateCylinder x (feedIf (u.wen.source == .cylinder) x u)) := by
      unfold gateCylinder feedLiftWindow feedIf
      repeat' split
      all_goals exact id
    show KeepsShut u { handIf _ _ with wen := _ }
    unfold handIf
    split
    · exact (keepsShut_handLiveUpdate _).of_wen ((keepsShut_completeWindow _).of_wen hg)
    · exact (keepsShut_completeWindow _).of_wen hg
  unfold heldForce
  dsimp only
  split
  · exact (hn _).of_wen id
  · split
    · exact (ht _ _).of_wen id
    · exact (hn _).of_wen id

theorem keepsShut_cylinderFrame (s : State) : KeepsShut s (cylinderFrame s) := by
  have h : KeepsShut s (sampledCylinder s) := (keepsShut_heldForce _ _).of_wen (keepsShut_rejudgeSources s)
  intro he
  rw [(cylinderFrame_measured s).eq]
  exact h he

/-! ## A frame outside a lift -/

theorem acquire_rests (codes : PerChannel RawCode) (levels : PerLine Level) {m : Bool}
    (h : Rests m (acquire codes levels s) u) : u.ltr = s.ltr ∧ u.wen = s.wen ∧ u.log.clock = s.log.clock
      ∧ u.log.enables = s.log.enables ∧ u.sto = s.sto ∧ u.tlc = s.tlc ∧ u.vdr.sections = s.vdr.sections := by
  obtain ⟨h1, h2, h3⟩ := h.steady
  exact ⟨h.ltr.trans (by simp), h.wen.trans (by simp), h1.trans (by simp), h2.trans (by simp), h.sto.trans (by simp),
    h.tlc.trans (by simp), h3.trans (by simp)⟩

/-- At a frame outside a lift, with no LIFT-OFF under way, LTR is what the grip sample leaves, but for that stamp. -/
theorem takeFrame_grip (codes : PerChannel RawCode) (levels : PerLine Level) (order : FrameOrder)
    (hx : s.ltr.state.inLift = false) (ho : s.ltr.state = .gripped → s.ltr.liftOffStart = none) :
    ∃ w a b, w.ltr = { s.ltr with liftOffStart := a } ∧ (s.ltr.state = .idle → a = s.ltr.liftOffStart)
      ∧ w.log.clock = s.log.clock ∧ w.iau = (takeFrame codes levels order s).iau
      ∧ (takeFrame codes levels order s).ltr = { (judgeGrip w).ltr with liftOffStart := b }
      ∧ ((judgeGrip w).ltr.state = .idle → b = (judgeGrip w).ltr.liftOffStart)
      ∧ KeepsShut (judgeGrip w) (takeFrame codes levels order s) := by
  cases hg : order.gripFirst with
  | true =>
    obtain ⟨u, v, h1, h2, h3⟩ := takeFrame_gripFirst codes levels s hg
    obtain ⟨hl, hw, hc, -⟩ := acquire_rests codes levels h1
    have hun := judgeGrip_unlifted (s := u) (by rw [hl]; exact hx) (by rw [hl]; exact ho)
    rw [← h2.ltr] at hun
    obtain ⟨b, hb, hi⟩ := cylinderFrame_unlifted hun.1 hun.2
    refine ⟨u, s.ltr.liftOffStart, b, hl, fun _ => rfl, hc, ?_, ?_, ?_, ?_⟩
    · rw [h3.iau, (cylinderFrame_frame v).2.1, h2.iau, (judgeGrip_frame u).2.1]
    · rw [h3.ltr, hb, h2.ltr]
    · rw [← h2.ltr]
      exact hi
    · intro he
      rw [h3.wen]
      exact keepsShut_cylinderFrame v (by rw [h2.wen]; exact he)
  | false =>
    obtain ⟨u, v, h1, h2, h3⟩ := takeFrame_cylinderFirst codes levels s hg
    obtain ⟨hl, hw, hc, -⟩ := acquire_rests codes levels h1
    obtain ⟨a, ha, hi⟩ := cylinderFrame_unlifted (s := u) (by rw [hl]; exact hx) (by rw [hl]; exact ho)
    rw [hl] at ha hi
    refine ⟨v, a, (judgeGrip v).ltr.liftOffStart, h2.ltr.trans ha, hi, ?_, ?_, h3.ltr, fun _ => rfl, ?_⟩
    · exact (h2.steady.1.trans (steady_cylinderFrame .refl).1).trans hc
    · rw [h3.iau, (judgeGrip_frame v).2.1]
    · intro he
      rw [h3.wen]
      exact he

theorem takeGrip_shut (s : State) : (takeGrip s).wen.emptyWindow = none := by
  unfold takeGrip
  obtain ⟨c, h⟩ := enterState_wen .gripped { s with ltr := { s.ltr with gripTime := some s.log.clock } }
  rw [h]
  rfl

/-- Settles O29: the grip sample is judged on LTR as the frame found it, but for the stamp of LIFT-OFF. -/
theorem gripAndReleaseAreQualified : Obligations.GripAndReleaseAreQualified := by
  intro codes levels order s hp
  refine ⟨_, exec_acquisitionFrame codes levels order hp, fun hx => ?_, fun hx ho => ?_⟩
  · obtain ⟨w, a, b, hw, ha, hc, hi, ht, hb, hshut⟩ := takeFrame_grip codes levels order
      (s := s) (by rw [hx]; rfl) (fun k => by rw [hx] at k; cases k)
    rw [ha hx] at hw
    replace hw : w.ltr = s.ltr := hw
    rw [← hi, ht]
    have hwx : w.ltr.state = .idle := by rw [hw, hx]
    have quiet {x : Option Stamp} (hq : qualify (gripHolds w) w.log.clock w.ltr.settings.gripTime w.ltr.gripStart = (x, false)) :
        ({ (judgeGrip w).ltr with liftOffStart := b } : Ltr) = { s.ltr with gripStart := x } := by
      have hl := judgeGrip_idle_ltr hwx hq
      rw [hb (by rw [hl]; exact hwx), hl, hw]
      rfl
    refine ⟨fun hf => ?_, fun p hg hv hp => ⟨fun hn => ?_, fun c hs => ⟨fun hlt => ?_, fun hge => ?_⟩⟩⟩
    · exact quiet (by rw [gripHolds_fails (by rw [hw]; exact hf), qualify_fails])
    · rw [quiet (by rw [gripHolds_holds hg hv (by rw [hw]; exact hp), hw, hn, qualify_starts]), hc]
    · rw [quiet (by rw [gripHolds_holds hg hv (by rw [hw]; exact hp), hw, hs, hc, qualify_waits hlt]), ← hs]
    · have hq : qualify (gripHolds w) w.log.clock w.ltr.settings.gripTime w.ltr.gripStart = (none, true) := by
        rw [gripHolds_holds hg hv (by rw [hw]; exact hp), hw, hs, hc, qualify_takes hge]
      have hl := judgeGrip_idle_ltr hwx hq
      have hs := hshut (by rw [judgeGrip_idle hwx hq]; exact takeGrip_shut _)
      rw [hl, if_pos rfl]
      refine ⟨rfl, congrArg some hc, rfl, ?_, ?_, hs⟩
      · show (if w.ltr.state.releaseRuns && _ then _ else none) = none
        rw [hwx]
        rfl
      · show w.ltr.number = _
        rw [hw]
  · obtain ⟨w, a, b, hw, -, hc, hi, ht, -⟩ := takeFrame_grip codes levels order
      (s := s) (by rw [hx]; rfl) (fun _ => ho)
    rw [← hi, ht]
    have hwx : w.ltr.state = .gripped := by rw [hw, ← hx]
    have hset : w.ltr.settings = s.ltr.settings := by rw [hw]
    have hstart : w.ltr.releaseStart = s.ltr.releaseStart := by rw [hw]
    have quiet {x : Option Stamp} (hq : qualify (releaseHolds w) w.log.clock w.ltr.settings.releaseTime
        w.ltr.releaseStart = (x, false)) :
        (judgeGrip w).ltr.state = .gripped ∧ (judgeGrip w).ltr.releaseStart = x := by
      rw [judgeGrip_gripped_ltr hwx hq]
      exact ⟨hwx, rfl⟩
    refine ⟨fun hf => ?_, fun p hg hv hp => ⟨fun hn => ?_, fun c hs => ⟨fun hlt => ?_, fun hge => ?_⟩⟩⟩
    · exact quiet (by rw [releaseHolds_fails (by rw [hset]; exact hf), qualify_fails])
    · rw [← hc]
      exact quiet (by rw [releaseHolds_holds hg hv (by rw [hset]; exact hp), hstart, hn, qualify_starts])
    · exact quiet (by rw [releaseHolds_holds hg hv (by rw [hset]; exact hp), hstart, hset, hs, hc, qualify_waits hlt])
    · have hl := judgeGrip_gripped_ltr hwx (b := none) (e := true)
        (by rw [releaseHolds_holds hg hv (by rw [hset]; exact hp), hstart, hset, hs, hc, qualify_takes hge])
      rw [hl, if_pos rfl]
      refine ⟨rfl, rfl, ?_, ?_⟩
      · show (if _ && LiftState.idle.releaseRuns then _ else none) = none
        rw [Bool.and_comm]
        rfl
      · show w.ltr.number = _
        rw [hw]

end Sys2Proof.Machine
end

section
/-! PROOF. RELEASE of a lift at a frame: the grip sample in either order, the commit, the record (R98 to R103). -/

namespace Sys2Proof.Machine

variable {s t u : State}

/-! ## The cylinder's work during a lift -/

/-- LTR as a judgement of the sources leaves it: a DROP that is not under way is not begun. -/
theorem rejudgeSources_near (s : State) : ∃ (x : Option Source) (o d : Option Stamp),
    (rejudgeSources s).ltr = { s.ltr with source := x, liftOffStart := o, dropStart := d }
      ∧ (s.ltr.dropStart = none → d = none) ∧ (s.ltr.state ≠ .lifted → x = s.ltr.source) := by
  have hj (u : State) : ∃ x, (judgeLiftSource u).ltr = { u.ltr with source := x }
      ∧ (u.ltr.state ≠ .lifted → x = u.ltr.source) := by
    refine ⟨_, judgeLiftSource_ltr u, fun h => ?_⟩
    rw [(judgeLiftSource_counted u).ltr h]
  unfold rejudgeSources
  split
  · obtain ⟨x, hx, hs⟩ := hj s
    exact ⟨x, _, _, hx, id, hs⟩
  · have hl : (changeSource (judgedSource s) s).ltr = s.ltr.unestimated := by
      rw [changeSource_eq]
      rfl
    obtain ⟨x, hx, hs⟩ := hj (changeSource (judgedSource s) s)
    rw [hl, Ltr.unestimated_eq] at hx hs
    refine ⟨x, _, _, hx, fun h => ?_, hs⟩
    unfold Ltr.unestimated
    split
    · exact h
    · exact h
    · rfl

/-- An update during a lift leaves the lift, or ends it in GRIPPED. -/
theorem handLiveUpdate_inLift (hx : s.ltr.state.inLift = true) :
    (handLiveUpdate s).ltr.state ≠ .idle
      ∧ (s.ltr.dropStart = none → ∃ d, (handLiveUpdate s).ltr = { s.ltr with dropStart := d }) := by
  rcases hq : qualify (dropHolds s) s.log.clock s.ltr.settings.dropTime s.ltr.dropStart with ⟨d, e⟩
  have h : (handLiveUpdate s).ltr = (judgeLive s).ltr := rfl
  rw [h, judgeLive_inLift hx hq]
  cases e with
  | true =>
    rw [if_pos rfl, takeDrop_ltr]
    refine ⟨nofun, fun hn => ?_⟩
    have := qualify_none (dropHolds s) s.log.clock s.ltr.settings.dropTime
    rw [← hn, hq] at this
    cases this
  | false =>
    refine ⟨?_, fun _ => ⟨d, rfl⟩⟩
    rw [if_neg (by nofun)]
    intro k
    rw [show s.ltr.state = .idle from k] at hx
    cases hx

/-- WEN's sample during a lift leaves the lift, or ends it in GRIPPED by a DROP that was under way. -/
theorem heldForce_inLift (o : Option CylinderForce) (hx : s.ltr.state.inLift = true) :
    (heldForce o s).ltr.state ≠ .idle
      ∧ (s.ltr.dropStart = none → (heldForce o s).ltr.state.inLift = true
        ∧ (s.ltr.state = .weighed → ∃ d, (heldForce o s).ltr = { s.ltr with dropStart := d })) := by
  have hidle {l : Ltr} (h : l.state.inLift = true) : l.state ≠ .idle := fun k => by rw [k] at h; cases h
  have hand {u : State} (hu : u.ltr.state.inLift = true) (hd : s.ltr.dropStart = none → u.ltr.dropStart = none)
      (hw : s.ltr.state = .weighed → u.ltr = s.ltr) : (handLiveUpdate u).ltr.state ≠ .idle
        ∧ (s.ltr.dropStart = none → (handLiveUpdate u).ltr.state.inLift = true
          ∧ (s.ltr.state = .weighed → ∃ d, (handLiveUpdate u).ltr = { s.ltr with dropStart := d })) := by
    obtain ⟨h1, h2⟩ := handLiveUpdate_inLift hu
    refine ⟨h1, fun hn => ?_⟩
    obtain ⟨d, h⟩ := h2 (hd hn)
    rw [h]
    exact ⟨hu, fun hs => ⟨d, by rw [hw hs]⟩⟩
  have still {u : State} (hu : u.ltr.state.inLift = true) (hw : s.ltr.state = .weighed → u.ltr = s.ltr) :
      u.ltr.state ≠ .idle ∧ (s.ltr.dropStart = none → u.ltr.state.inLift = true
        ∧ (s.ltr.state = .weighed → ∃ d, u.ltr = { s.ltr with dropStart := d })) :=
    ⟨hidle hu, fun _ => ⟨hu, fun hs => ⟨s.ltr.dropStart, hw hs⟩⟩⟩
  have hnone {u : State} (hu : u.ltr = s.ltr) : (noCylinderSample u).ltr.state ≠ .idle
      ∧ (s.ltr.dropStart = none → (noCylinderSample u).ltr.state.inLift = true
        ∧ (s.ltr.state = .weighed → ∃ d, (noCylinderSample u).ltr = { s.ltr with dropStart := d })) := by
    unfold noCylinderSample
    dsimp only
    split
    · exact hand (by show u.ltr.state.inLift = true; rw [hu]; exact hx) (fun h => (congrArg Ltr.dropStart hu).trans h)
        fun _ => hu
    · exact still (by show u.ltr.state.inLift = true; rw [hu]; exact hx) fun _ => hu
  unfold heldForce
  dsimp only
  split
  · exact hnone rfl
  · next f =>
    split
    · next x _ =>
      have hg : (gateCylinder x (feedIf (s.wen.source == .cylinder) x
          { s with wen := { s.wen with frameForce := some f } })).ltr = s.ltr :=
        (gateCylinder_ltr x _).trans (feedIf_ltr _ _ _)
      obtain ⟨h1, h2, -⟩ := completeWindow_inLift (s := gateCylinder x (feedIf (s.wen.source == .cylinder) x
          { s with wen := { s.wen with frameForce := some f } })) (by rw [hg]; exact hx)
      have hw : s.ltr.state = .weighed → (completeWindow (gateCylinder x (feedIf (s.wen.source == .cylinder) x
          { s with wen := { s.wen with frameForce := some f } }))).ltr = s.ltr := fun hs => by
        rw [completeWindow_other (by rw [hg, hs]; nofun), hg]
      rw [hg] at h2
      show (handIf _ (completeWindow _)).ltr.state ≠ _ ∧ (_ → (handIf _ (completeWindow _)).ltr.state.inLift = true
        ∧ (_ → ∃ d, (handIf _ (completeWindow _)).ltr = _))
      unfold handIf
      split
      · exact hand h1 h2.trans hw
      · exact still h1 hw
    · exact hnone rfl

theorem cylinderFrame_inLift (hx : s.ltr.state.inLift = true) :
    (cylinderFrame s).ltr.state ≠ .idle
      ∧ (s.ltr.dropStart = none → (cylinderFrame s).ltr.state.inLift = true
        ∧ (s.ltr.state = .weighed → ∃ o d, (cylinderFrame s).ltr = { s.ltr with liftOffStart := o, dropStart := d })) := by
  rw [(cylinderFrame_measured s).ltr]
  obtain ⟨x, o, d, hl, hd, hs⟩ := rejudgeSources_near s
  obtain ⟨h1, h2⟩ := heldForce_inLift (formedForce (rejudgeSources s)) (s := rejudgeSources s) (by rw [hl]; exact hx)
  refine ⟨h1, fun hn => ?_⟩
  obtain ⟨h3, h4⟩ := h2 (by rw [hl]; exact hd hn)
  refine ⟨h3, fun hw => ?_⟩
  obtain ⟨d', h5⟩ := h4 (by rw [hl]; exact hw)
  exact ⟨o, d', h5.trans (by rw [hl, hs (by rw [hw]; nofun)])⟩

/-- WEN's work in GRIPPED leaves the context there, or takes LIFT-OFF and numbers the lift (R94). -/
theorem cylinderFrame_gripped (hx : s.ltr.state = .gripped) :
    (cylinderFrame s).ltr.state = .gripped ∨ (cylinderFrame s).ltr.number = s.ltr.number + 1 := by
  rw [(cylinderFrame_measured s).ltr]
  obtain ⟨x, o, d, hl, -⟩ := rejudgeSources_near s
  have hand {u : State} (hu : u.ltr.state = .gripped) (hn : u.ltr.number = s.ltr.number) :
      (handLiveUpdate u).ltr.state = .gripped ∨ (handLiveUpdate u).ltr.number = s.ltr.number + 1 := by
    rcases hq : qualify (liftOffHolds u) u.log.clock u.ltr.settings.liftOffTime u.ltr.liftOffStart with ⟨b, e⟩
    show (judgeLive u).ltr.state = _ ∨ (judgeLive u).ltr.number = _
    rw [judgeLive_gripped hu hq]
    cases e with
    | true =>
      refine .inr ?_
      rw [if_pos rfl, takeLiftOff_ltr (s := { u with ltr := { u.ltr with liftOffStart := b } }) hu]
      exact congrArg (· + 1) hn
    | false => exact .inl hu
  have hnone {u : State} (hu : u.ltr.state = .gripped) (hn : u.ltr.number = s.ltr.number) :
      (noCylinderSample u).ltr.state = .gripped ∨ (noCylinderSample u).ltr.number = s.ltr.number + 1 := by
    unfold noCylinderSample
    dsimp only
    split
    · exact hand hu hn
    · exact .inl hu
  have hrs : (rejudgeSources s).ltr.state = .gripped := by rw [hl, ← hx]
  have hrn : (rejudgeSources s).ltr.number = s.ltr.number := by rw [hl]
  unfold sampledCylinder
  generalize formedForce (rejudgeSources s) = o
  generalize rejudgeSources s = r at hrs hrn
  unfold heldForce
  dsimp only
  split
  · exact hnone hrs hrn
  · next f =>
    split
    · next x _ =>
      have hg : (gateCylinder x (feedIf (r.wen.source == .cylinder) x
          { r with wen := { r.wen with frameForce := some f } })).ltr = r.ltr :=
        (gateCylinder_ltr x _).trans (feedIf_ltr _ _ _)
      have hc := completeWindow_other (s := gateCylinder x (feedIf (r.wen.source == .cylinder) x
        { r with wen := { r.wen with frameForce := some f } })) (by rw [hg, hrs]; nofun)
      show (handIf _ (completeWindow _)).ltr.state = _ ∨ (handIf _ (completeWindow _)).ltr.number = _
      rw [hc]
      unfold handIf
      split
      · exact hand (by rw [hg, hrs]) (by rw [hg, hrn])
      · exact .inl (by rw [hg, hrs])
    · exact hnone hrs hrn

/-! ## RELEASE of a lift (R98) -/

/-- The outcome of the lift that RELEASE ends (R101). -/
def releasedOutcome (s : State) : LiftOutcome :=
  outcomeOf (fixedResult s).empty (s.ltr.fromZone.getD .unknown) s.geo.zone

/-- The lift record of a RELEASE (R103). -/
def releasePart (s : State) : LiftPart := liftPart s.ltr (fixedResult s) s.tal.selected s.geo.zone (releasedOutcome s)
  (commitEffect (releasedOutcome s) s.tal.selected (fixedResult s).mass.toNat s.tal)

/-- The commit of the lift that RELEASE ends. -/
def releaseCommit (s : State) : State :=
  commit (releasedOutcome s) s.tal.selected (fixedResult s).mass.toNat (fixedResult s).quality s

theorem outcomeOf_placed (e : Bool) (a b : Zone) : placed e a b (outcomeOf e a b) := by
  cases e with
  | true => exact ⟨fun _ => rfl, nofun⟩
  | false => cases a <;> cases b <;> simp [placed, outcomeOf]

theorem outcomeOf_ne_dropped (e : Bool) (a b : Zone) : outcomeOf e a b ≠ .dropped := by
  cases e with
  | true => nofun
  | false => cases a <;> cases b <;> nofun

theorem takeRelease_ltr (s : State) :
    (takeRelease s).ltr = { s.ltr.clearLift with gripTime := none }.enter .idle := by
  rw [takeRelease_eq, enterState_ltr]

theorem takeRelease_log (s : State) :
    (takeRelease s).log = (record (.lift (releasePart s)) (releaseCommit s)).log := by
  rw [takeRelease_eq]
  simp [releasePart, releaseCommit, releasedOutcome]

theorem takeRelease_commit (s : State) : (takeRelease s).tal = (releaseCommit s).tal := takeRelease_tal s

theorem takeRelease_wen (s : State) : (takeRelease s).wen.liftWindow = none ∧ (takeRelease s).wen.liftSource = none
    ∧ (s.wen.capture = none → (takeRelease s).wen.capture = none) := by
  rw [takeRelease_eq]
  show (abortCaptures _ _).wen.liftWindow = _ ∧ (abortCaptures _ _).wen.liftSource = _
    ∧ (_ → (abortCaptures _ _).wen.capture = _)
  rw [abortCaptures_wen]
  refine ⟨rfl, rfl, fun h => ?_⟩
  simp [Wen.onLiftState, h]

/-- The record of a RELEASE is the ring's last entry. -/
theorem takeRelease_recorded (ht : s.log.enables.tallied = true) (hu : s.log.enables.untallied = true) :
    ∃ e, (takeRelease s).log.ring.getLast? = some e ∧ e.part = .lift (releasePart s) ∧ e.time = s.log.clock := by
  obtain ⟨hc, he, -⟩ := steady_commit (o := releasedOutcome s) (a := s.tal.selected)
    (m := (fixedResult s).mass.toNat) (q := (fixedResult s).quality) (Steady.refl (s := s))
  have hg : (releaseCommit s).log.enables.governs (.lift (releasePart s)) = true := by
    unfold releaseCommit
    rw [he]
    have ho : (releasePart s).outcome ≠ .dropped := outcomeOf_ne_dropped _ _ _
    unfold Enables.governs
    dsimp only
    generalize (releasePart s).outcome = o at ho
    cases o with
    | dropped => exact absurd rfl ho
    | loaded => exact ht
    | unloaded => exact ht
    | _ => exact hu
  obtain ⟨e, h1, h2, h3⟩ := record_last hg
  rw [takeRelease_log]
  exact ⟨e, h1, h2, h3.trans hc⟩

/-- An event that is taken leaves no start stamp. -/
theorem qualify_taken {holds : Bool} {now : Stamp} {time : Nat} {start b : Option Stamp}
    (h : qualify holds now time start = (b, true)) : b = none := by
  unfold qualify at h
  split at h
  · split at h
    · cases h
    · split at h
      · cases h
        rfl
      · cases h
  · cases h

/-- The module as a RELEASE that is taken finds it, its start stamp absent. -/
def unstamped (s : State) : State := { s with ltr := { s.ltr with releaseStart := none } }

/-- The grip sample of a lift releases it, or leaves the lift and the tally. -/
theorem judgeGrip_cases (s : State) : ((judgeGrip s).tal = s.tal
      ∧ (s.ltr.state.inLift = true → (judgeGrip s).ltr.state = s.ltr.state))
    ∨ (s.ltr.state.inLift = true ∧ judgeGrip s = takeRelease (unstamped s)) := by
  by_cases hx : s.ltr.state = .idle
  · rcases hq : qualify (gripHolds s) s.log.clock s.ltr.settings.gripTime s.ltr.gripStart with ⟨b, e⟩
    refine .inl ⟨?_, fun h => by rw [hx] at h; cases h⟩
    rw [judgeGrip_idle hx hq]
    split
    · exact (takeGrip_frame _).2.2.2.2.1
    · rfl
  · rcases hq : qualify (releaseHolds s) s.log.clock s.ltr.settings.releaseTime s.ltr.releaseStart with ⟨b, e⟩
    rw [judgeGrip_runs hx hq]
    cases e with
    | false => exact .inl ⟨rfl, fun _ => rfl⟩
    | true =>
      rw [if_pos rfl]
      by_cases hl : s.ltr.state.inLift = true
      · rw [if_pos hl, qualify_taken hq]
        exact .inr ⟨hl, rfl⟩
      · rw [if_neg hl]
        exact .inl ⟨(releaseWithoutLift_frame _).2.2.2.2.1, fun h => absurd h hl⟩

/-! ## The frame behind a RELEASE -/

theorem handLiveUpdate_idle (hx : s.ltr.state = .idle) : handLiveUpdate s = evaluate s := by
  have h : judgeLive s = s := by
    unfold judgeLive
    rw [hx]
  show evaluate (judgeLive s) = _
  rw [h]

/-- No lift source, no lift window and no capture. -/
def Wen.atRest (w : Wen) : Prop := w.liftWindow = none ∧ w.liftSource = none ∧ w.capture = none

theorem rejudgeSources_rest (hx : s.ltr.state = .idle) (hw : s.wen.atRest) :
    (rejudgeSources s).ltr = s.ltr ∧ (rejudgeSources s).wen.atRest := by
  have hj {u : State} (h : u.wen.liftSource = none) : judgeLiftSource u = u := by
    unfold judgeLiftSource
    rw [h]
  unfold rejudgeSources
  split
  · rw [hj hw.2.1]
    exact ⟨rfl, hw⟩
  · have hc : changeSource (judgedSource s) s = evaluate (evaluate (sourced (judgedSource s) s)) :=
      handLiveUpdate_idle (s := evaluate (sourced (judgedSource s) s)) hx
    rw [hj (by rw [hc]; exact hw.2.1), hc]
    exact ⟨rfl, hw⟩

theorem gateCylinder_rest {x : Int} (h : s.wen.liftSource = none) : gateCylinder x s = s := by
  unfold gateCylinder feedLiftWindow
  split
  · exact if_neg (by rw [h]; nofun)
  · rfl

theorem handLiveUpdate_rest (hx : s.ltr.state = .idle) (hw : s.wen.atRest) :
    (handLiveUpdate s).ltr = s.ltr ∧ (handLiveUpdate s).log = s.log ∧ (handLiveUpdate s).wen.atRest := by
  rw [handLiveUpdate_idle hx]
  exact ⟨rfl, rfl, hw⟩

theorem takeCylinderSample_rest {x : Int} (hx : s.ltr.state = .idle) (hw : s.wen.atRest) :
    (takeCylinderSample x s).ltr = s.ltr ∧ (takeCylinderSample x s).log = s.log
      ∧ (takeCylinderSample x s).wen.atRest := by
  have hu : (feedIf (s.wen.source == .cylinder) x s).ltr = s.ltr ∧ (feedIf (s.wen.source == .cylinder) x s).log = s.log
      ∧ (feedIf (s.wen.source == .cylinder) x s).wen.atRest := by
    unfold feedIf
    split <;> exact ⟨rfl, rfl, hw⟩
  unfold takeCylinderSample
  dsimp only
  generalize feedIf (s.wen.source == .cylinder) x s = u at hu
  obtain ⟨hl, ho, hr⟩ := hu
  have hc : completeWindow (gateCylinder x u) = u := by
    rw [gateCylinder_rest hr.2.1, completeWindow_other (by rw [hl, hx]; nofun)]
  rw [hc]
  unfold handIf
  split
  · obtain ⟨h1, h2, h3⟩ := handLiveUpdate_rest (s := u) (by rw [hl, hx]) hr
    exact ⟨h1.trans hl, h2.trans ho, h3⟩
  · exact ⟨hl, ho, hr⟩

theorem heldForce_rest (o : Option CylinderForce) (hx : s.ltr.state = .idle) (hw : s.wen.atRest) :
    (heldForce o s).ltr = s.ltr ∧ (heldForce o s).log = s.log ∧ (heldForce o s).wen.atRest := by
  have hnone {u : State} (hx : u.ltr.state = .idle) (hw : u.wen.atRest) :
      (noCylinderSample u).ltr = u.ltr ∧ (noCylinderSample u).log = u.log ∧ (noCylinderSample u).wen.atRest := by
    unfold noCylinderSample
    dsimp only
    split
    · exact handLiveUpdate_rest hx hw
    · exact ⟨rfl, rfl, hw⟩
  unfold heldForce
  dsimp only
  split
  · exact hnone (u := { s with wen := _ }) hx hw
  · split
    · exact takeCylinderSample_rest (s := { s with wen := _ }) hx hw
    · exact hnone (u := { s with wen := _ }) hx hw

/-- WEN's work in IDLE with no lift source, no lift window and no capture: all three stay absent, and LOG stands. -/
theorem cylinderFrame_rest (hx : s.ltr.state = .idle) (hw : s.wen.atRest) :
    (cylinderFrame s).ltr = s.ltr ∧ (cylinderFrame s).log = s.log ∧ (cylinderFrame s).wen.atRest := by
  obtain ⟨h1, h2⟩ := rejudgeSources_rest hx hw
  obtain ⟨h3, h4, h5⟩ := heldForce_rest (formedForce (rejudgeSources s)) (s := rejudgeSources s) (by rw [h1, hx]) h2
  have hs : cylinderFrame s = sampledCylinder s := by
    rw [cylinderFrame_eq]
    split
    · rfl
    · unfold captureCylinder
      rw [show (sampledCylinder s).wen.capture = none from h5.2.2]
  rw [hs]
  exact ⟨h3.trans h1, h4.trans (rejudgeSources_kept s).1, h5⟩

end Sys2Proof.Machine
end

section
/-! PROOF. A frame in which RELEASE ends a lift: the commit it makes and the record it leaves (R98 to R103). -/

namespace Sys2Proof.Machine

variable {s t u w : State} {order : FrameOrder}

/-! ## The cylinder's work on the tip source -/

theorem gateCylinder_other {x : Int} (h : s.wen.liftSource ≠ some .cylinder) : gateCylinder x s = s := by
  have hf : feedLiftWindow .cylinder x s = s := if_neg h
  unfold gateCylinder
  rw [hf, ite_self]

theorem takeCylinderSample_other (x : Int) (h : s.wen.source ≠ .cylinder) : takeCylinderSample x s
    = { completeWindow (gateCylinder x s) with
        wen := { (completeWindow (gateCylinder x s)).wen with previousCylinder := some x } } := by
  have hb : (s.wen.source == .cylinder) = false := by simpa using h
  unfold takeCylinderSample
  dsimp only
  rw [hb]
  rfl

/-- On an available tip source, with the lift not on the cylinder and its window open, a frame's sample leaves the
force and the predecessor alone (R64). -/
theorem sampledCylinder_onTip (ht : s.wen.source = .tip) (ha : available s .tip = true)
    (hs : s.wen.liftSource ≠ some .cylinder)
    (hw : s.ltr.state = .lifted → ∀ x : Window, s.wen.liftWindow = some x → x.count < x.size) :
    ∃ f p, sampledCylinder s = { s with wen := { s.wen with frameForce := f, previousCylinder := p } } := by
  have hl : s.liftJudged := fun x hx => by
    cases x with
    | none => exact .inl rfl
    | tip => exact .inr ha
    | cylinder => exact absurd hx hs
  have hr : rejudgeSources s = s := by
    rw [rejudgeSources_stands (by rw [judgedSource_tip.2 ha, ht]), hl.stands]
  unfold sampledCylinder
  rw [hr]
  generalize formedForce s = o
  refine ⟨o, ?_⟩
  have hnone : noCylinderSample { s with wen := { s.wen with frameForce := o } }
      = { s with wen := { s.wen with frameForce := o, previousCylinder := none } } := if_neg (by
    show ¬s.wen.source = .cylinder
    rw [ht]
    nofun)
  have htake (x : Int) : takeCylinderSample x { s with wen := { s.wen with frameForce := o } }
      = { s with wen := { s.wen with frameForce := o, previousCylinder := some x } } := by
    have hg := gateCylinder_other (x := x) (s := { s with wen := { s.wen with frameForce := o } }) hs
    have hc : completeWindow { s with wen := { s.wen with frameForce := o } }
        = { s with wen := { s.wen with frameForce := o } } := by
      unfold completeWindow
      split
      · next x hx hwin => exact if_neg (by simpa [Window.complete] using hw hx x hwin)
      · rfl
    rw [takeCylinderSample_other (s := { s with wen := { s.wen with frameForce := o } }) x (by
      show s.wen.source ≠ .cylinder
      rw [ht]
      nofun), hg, hc]
  unfold heldForce
  split
  · exact ⟨none, hnone⟩
  · split
    · next x _ => exact ⟨some x, htake x⟩
    · exact ⟨none, hnone⟩

/-! ## The module on which the grip sample is judged -/

/-- The module as the frame's inputs leave it: what they do not touch. -/
structure Begun (s u : State) : Prop where
  ltr : u.ltr = s.ltr
  wen : u.wen = s.wen
  sto : u.sto = s.sto
  tlc : u.tlc = s.tlc
  sections : u.vdr.sections = s.vdr.sections
  clock : u.log.clock = s.log.clock
  enables : u.log.enables = s.log.enables
  stuck : u.clp.isLive .tipStuck = s.clp.isLive .tipStuck

theorem acquire_tipStuck (codes : PerChannel RawCode) (levels : PerLine Level) (s : State) :
    (acquire codes levels s).clp.isLive .tipStuck = s.clp.isLive .tipStuck := by
  have h : Reports (fun d => d ≠ .tipStuck) s.clp (acquire codes levels s).clp :=
    reports_acquire (fun _ => nofun) nofun .refl
  exact h.isLive _ (fun k => k rfl)

theorem begun_acquire (codes : PerChannel RawCode) (levels : PerLine Level) {m : Bool}
    (h : Rests m (acquire codes levels s) u) : Begun s u := by
  obtain ⟨h1, h2, h3, h4, h5, h6, h7⟩ := acquire_rests codes levels h
  exact ⟨h1, h2, h5, h6, h7, h3, h4, (h.live .tipStuck nofun).trans (acquire_tipStuck codes levels s)⟩

theorem Begun.available_tip (h : Begun s u) : available u .tip = available s .tip := by
  simp [available, h.tlc, h.stuck, h.wen]

/-- The module `w` on which a frame from `s` to `t` judges its grip sample. -/
structure AtGrip (order : FrameOrder) (s w t : State) : Prop where
  tal : w.tal = { s.tal with switchClosed := t.tal.switchClosed }
  sto : w.sto = s.sto
  clock : w.log.clock = s.log.clock
  enables : w.log.enables = s.log.enables
  geo : w.geo = t.geo
  iau : w.iau = t.iau
  before : (order.gripFirst = true ∧ w.ltr = s.ltr ∧ w.wen = s.wen)
    ∨ (order.gripFirst = false ∧ ∃ u, Begun s u ∧ w.ltr = (cylinderFrame u).ltr ∧ w.wen = (cylinderFrame u).wen)
  tallied : t.tal = (judgeGrip w).tal
  after : (order.gripFirst = true ∧ ∃ v, v.ltr = (judgeGrip w).ltr ∧ v.wen = (judgeGrip w).wen
      ∧ v.log = (judgeGrip w).log ∧ t.ltr = (cylinderFrame v).ltr ∧ t.wen = (cylinderFrame v).wen
      ∧ t.log = (cylinderFrame v).log)
    ∨ (order.gripFirst = false ∧ t.ltr = (judgeGrip w).ltr ∧ t.wen = (judgeGrip w).wen ∧ t.log = (judgeGrip w).log)

theorem isMark_of_mode (before : PerLine LineState) (s : State) (h : before.dl3.settings.mode ≠ .function) :
    isMark before s = false := by
  unfold isMark
  rw [Bool.and_eq_false_iff]
  exact .inl (by simpa using h)

theorem takeFrame_atGrip (codes : PerChannel RawCode) (levels : PerLine Level) (order : FrameOrder) (s : State)
    (hd : s.iau.lines.dl3.settings.mode ≠ .function) : ∃ w, AtGrip order s w (takeFrame codes levels order s) := by
  have hm := isMark_of_mode s.iau.lines (acquire codes levels s) hd
  have hswitch : (acquire codes levels s).tal
      = { s.tal with switchClosed := (takeFrame codes levels order s).tal.switchClosed } := by
    rw [acquire_tal, takeFrame_switch]
    unfold takeFrame
    rw [foldl_performTask_iau]
  cases hg : order.gripFirst with
  | true =>
    obtain ⟨u, v, h1, h2, h3⟩ := takeFrame_gripFirst codes levels s hg
    have hb := begun_acquire codes levels h1
    refine ⟨u, h1.tal.trans hswitch, hb.sto, hb.clock, hb.enables, ?_, ?_, .inl ⟨hg, hb.ltr, hb.wen⟩, ?_,
      .inl ⟨hg, v, h2.ltr, h2.wen, h2.log hm, h3.ltr, h3.wen, h3.log hm⟩⟩
    · rw [h3.geo, (cylinderFrame_frame v).2.2.2.1, h2.geo, (judgeGrip_frame u).2.2.2.1]
    · rw [h3.iau, (cylinderFrame_frame v).2.1, h2.iau, (judgeGrip_frame u).2.1]
    · rw [h3.tal, (cylinderFrame_frame v).2.2.2.2.1, h2.tal]
  | false =>
    obtain ⟨u, v, h1, h2, h3⟩ := takeFrame_cylinderFirst codes levels s hg
    have hb := begun_acquire codes levels h1
    have hst := (steady_cylinderFrame (s := u) .refl).trans h2.steady
    refine ⟨v, ?_, ?_, hst.1.trans hb.clock, hst.2.1.trans hb.enables, ?_, ?_, .inr ⟨hg, u, hb, h2.ltr, h2.wen⟩,
      h3.tal, .inr ⟨hg, h3.ltr, h3.wen, h3.log hm⟩⟩
    · rw [h2.tal, (cylinderFrame_frame u).2.2.2.2.1, h1.tal, hswitch]
    · rw [h2.sto, ← hb.sto]
      simp
    · rw [h3.geo, (judgeGrip_frame v).2.2.2.1]
    · rw [h3.iau, (judgeGrip_frame v).2.1]

/-! ## What a RELEASE leaves at the end of its frame -/

namespace AtGrip

/-- A RELEASE leaves the context in IDLE. -/
theorem idle (h : AtGrip order s w t) (hr : (judgeGrip w).ltr.state = .idle) : t.ltr.state = .idle := by
  rcases h.after with ⟨-, v, hl, -, -, ht, -⟩ | ⟨-, ht, -⟩
  · obtain ⟨a, ha, -⟩ := cylinderFrame_unlifted (s := v) (by rw [hl, hr]; rfl) (fun k => by rw [hl, hr] at k; cases k)
    rw [ht, ha]
    exact (congrArg Ltr.state hl).trans hr
  · rw [ht, hr]

/-- A RELEASE with no capture in flight: the frame adds nothing to what it leaves. -/
theorem released {w' : State} (h : AtGrip order s w t) (hr : judgeGrip w = takeRelease w')
    (hc : order.gripFirst = true → w'.wen.capture = none) : t.ltr = (takeRelease w').ltr
      ∧ t.log = (takeRelease w').log ∧ t.wen.liftWindow = none ∧ t.wen.liftSource = none := by
  obtain ⟨k1, k2, k3⟩ := takeRelease_wen w'
  rcases h.after with ⟨hg, v, hl, hw, ho, ht, htw, hto⟩ | ⟨-, ht, htw, hto⟩
  · rw [hr] at hl hw ho
    have hidle : v.ltr.state = .idle := by
      rw [hl, takeRelease_ltr]
      rfl
    obtain ⟨h1, h2, h3, h4, -⟩ := cylinderFrame_rest hidle (by rw [hw]; exact ⟨k1, k2, k3 (hc hg)⟩)
    rw [ht, htw, hto, h1, h2, hl, ho]
    exact ⟨rfl, rfl, h3, h4⟩
  · rw [hr] at ht htw hto
    rw [ht, htw, hto]
    exact ⟨rfl, rfl, k1, k2⟩

/-- A frame from IDLE judges its grip sample in IDLE. -/
theorem idle_before (h : AtGrip order s w t) (hs : s.ltr.state = .idle) : w.ltr.state = .idle := by
  rcases h.before with ⟨-, hl, -⟩ | ⟨-, u, hb, hl, -⟩
  · rw [hl, hs]
  · obtain ⟨a, ha, -⟩ := cylinderFrame_unlifted (s := u) (by rw [hb.ltr, hs]; rfl)
      (fun k => by rw [hb.ltr, hs] at k; cases k)
    rw [hl, ha]
    exact (congrArg Ltr.state hb.ltr).trans hs

/-- A frame in a lift with no DROP under way before the grip sample judges it in the lift. -/
theorem inLift_before (h : AtGrip order s w t) (hs : s.ltr.state.inLift = true)
    (hd : order.gripFirst = true ∨ s.ltr.dropStart = none) : w.ltr.state.inLift = true := by
  rcases h.before with ⟨-, hl, -⟩ | ⟨hg, u, hb, hl, -⟩
  · rw [hl, hs]
  · obtain ⟨-, hin⟩ := cylinderFrame_inLift (s := u) (by rw [hb.ltr, hs])
    rw [hl]
    exact (hin (by rw [hb.ltr]; exact hd.resolve_left (by rw [hg]; nofun))).1

/-- A frame in WEIGHED with no DROP under way before the grip sample judges it on the same lift. -/
theorem weighed_before (h : AtGrip order s w t) (hs : s.ltr.state = .weighed)
    (hd : order.gripFirst = true ∨ s.ltr.dropStart = none) :
    ∃ a b, w.ltr = { s.ltr with liftOffStart := a, dropStart := b } := by
  rcases h.before with ⟨-, hl, -⟩ | ⟨hg, u, hb, hl, -⟩
  · exact ⟨_, _, hl⟩
  · obtain ⟨-, hin⟩ := cylinderFrame_inLift (s := u) (by rw [hb.ltr, hs]; rfl)
    obtain ⟨a, b, he⟩ := (hin (by rw [hb.ltr]; exact hd.resolve_left (by rw [hg]; nofun))).2 (by rw [hb.ltr, hs])
    exact ⟨a, b, by rw [hl, he, hb.ltr]⟩

/-- Where the grip sample is judged in a lift, the context ends in IDLE by a RELEASE alone. -/
theorem release_of_idle (h : AtGrip order s w t) (hw : w.ltr.state.inLift = true) (ht : t.ltr.state = .idle) :
    judgeGrip w = takeRelease (unstamped w) := by
  rcases judgeGrip_cases w with ⟨-, hk⟩ | ⟨-, hr⟩
  · have hin : (judgeGrip w).ltr.state.inLift = true := by rw [hk hw, hw]
    rcases h.after with ⟨-, v, hl, -, -, hv, -⟩ | ⟨-, hv, -⟩
    · exact absurd (hv ▸ ht) (cylinderFrame_inLift (s := v) (by rw [hl, hin])).1
    · rw [← hv, ht] at hin
      cases hin
  · exact hr

end AtGrip

end Sys2Proof.Machine
end

section
/-! PROOF. RELEASE at a frame: one commit, and the record of the lift (R98 to R103). -/

namespace Sys2Proof.Machine

variable {s t u w : State} {order : FrameOrder}

theorem inLift_iff (x : LiftState) : x.inLift = true ↔ x = .lifted ∨ x = .weighed := by
  cases x <;> simp [LiftState.inLift]

/-- A frame that takes LIFT-OFF before its grip sample numbers the lift, and its RELEASE keeps the number. -/
theorem AtGrip.numbered (h : AtGrip order s w t) (hs : s.ltr.state = .gripped) (hw : w.ltr.state.inLift = true)
    (hr : judgeGrip w = takeRelease (unstamped w)) :
    t.ltr.number = s.ltr.number + 1 := by
  rcases h.before with ⟨-, hl, -⟩ | ⟨hg, u, hb, hl, -⟩
  · rw [hl, hs] at hw
    cases hw
  · have hnum : (cylinderFrame u).ltr.number = s.ltr.number + 1 := by
      rcases cylinderFrame_gripped (s := u) (by rw [hb.ltr, hs]) with k | k
      · rw [hl, k] at hw
        cases hw
      · rw [k, hb.ltr]
    rcases h.after with ⟨hg', -⟩ | ⟨-, ht, -⟩
    · rw [hg] at hg'
      cases hg'
    · rw [ht, hr, takeRelease_ltr, ← hnum, ← hl]
      rfl

/-- What the record of a RELEASE says of the module it was taken in. -/
theorem AtGrip.recorded {w' : State} (h : AtGrip order s w t)
    (hr : judgeGrip w = takeRelease w') (hc : order.gripFirst = true → w'.wen.capture = none)
    (hl : w'.log = w.log) (ht : s.log.enables.tallied = true) (hu : s.log.enables.untallied = true) :
    ∃ e, t.log.ring.getLast? = some e ∧ e.part = .lift (releasePart w') ∧ e.time = s.log.clock := by
  obtain ⟨-, hlog, -⟩ := h.released hr hc
  obtain ⟨e, h1, h2, h3⟩ := takeRelease_recorded (s := w') (by rw [hl, h.enables, ht]) (by rw [hl, h.enables, hu])
  rw [hlog]
  exact ⟨e, h1, h2, h3.trans (by rw [hl, h.clock])⟩

/-- Settles O33: the grip sample commits or leaves the tally, and nothing else of the frame touches it. -/
theorem releasesCommitOnce : Obligations.ReleasesCommitOnce := by
  intro codes levels order s hp hd
  refine ⟨_, exec_acquisitionFrame codes levels order hp, ?_⟩
  obtain ⟨w, h⟩ := takeFrame_atGrip codes levels order s hd
  generalize takeFrame codes levels order s = t at h
  intro kept before
  have hkept (hk : (judgeGrip w).tal = w.tal) : kept := h.tallied.trans (hk.trans h.tal)
  have hbefore : before (unstamped w) := ⟨h.tal, h.sto, h.clock⟩
  have hrel (hr : judgeGrip w = takeRelease (unstamped w)) :
      t.tal = (releaseCommit (unstamped w)).tal := by
    rw [h.tallied, hr, takeRelease_commit]
  have hsel : w.tal.selected = s.tal.selected := by rw [h.tal]
  refine ⟨?_, fun hs => ?_, fun hs hn => ?_, fun _ hne => ?_, fun hs hidle hord hcap hta hut => ?_⟩
  · rcases judgeGrip_cases w with ⟨hk, -⟩ | ⟨hw, hr⟩
    · exact .inl (hkept hk)
    · refine .inr ⟨fun hs => ?_, h.idle (by rw [hr, takeRelease_ltr]; rfl), unstamped w, releasedOutcome (unstamped w),
        (fixedResult (unstamped w)).mass.toNat, (fixedResult (unstamped w)).quality, hbefore, ?_⟩
      · rw [h.idle_before hs] at hw
        cases hw
      · rw [← hsel]
        exact hrel hr
  · rcases judgeGrip_cases w with ⟨hk, -⟩ | ⟨hw, -⟩
    · exact hkept hk
    · rw [h.idle_before hs] at hw
      cases hw
  · rcases judgeGrip_cases w with ⟨hk, -⟩ | ⟨hw, hr⟩
    · exact hkept hk
    · have hnum := h.numbered hs hw hr
      rw [hn] at hnum
      exact absurd hnum (by bv_omega)
  · rcases judgeGrip_cases w with ⟨hk, -⟩ | ⟨-, hr⟩
    · exact hkept hk
    · exact absurd (h.idle (by rw [hr, takeRelease_ltr]; rfl)) hne
  · have hw := h.inLift_before ((inLift_iff _).2 hs) hord
    have hr := h.release_of_idle hw hidle
    have hc : order.gripFirst = true → w.wen.capture = none := fun hg => by
      rcases h.before with ⟨-, -, he⟩ | ⟨hg', -⟩
      · rw [he, hcap]
      · rw [hg] at hg'
        cases hg'
    obtain ⟨e, h1, h2, -⟩ := h.recorded hr hc rfl hta hut
    refine ⟨unstamped w, e, releasePart (unstamped w), hbefore, h1, h2, ?_, ?_, fun q z hws hq hz => ?_⟩
    · rw [← hsel]
      exact hrel hr
    · rw [← hsel]
      rfl
    · obtain ⟨a, b, hl⟩ := h.weighed_before hws hord
      have hfix : fixedResult (unstamped w) = q :=
        fixedResult_weighed (by show w.ltr.state = _; rw [hl, ← hws]) (by show w.ltr.result = _; rw [hl, ← hq])
      have hzone : w.ltr.fromZone = some z := by rw [hl, ← hz]
      refine ⟨congrArg LiftResult.mass hfix, congrArg LiftResult.quality hfix, ?_⟩
      have hout : (releasePart (unstamped w)).outcome
          = outcomeOf q.empty z t.geo.zone := by
        show outcomeOf (fixedResult _).empty (w.ltr.fromZone.getD .unknown) w.geo.zone = _
        rw [hfix, hzone, h.geo]
        rfl
      rw [hout]
      exact outcomeOf_placed _ _ _

/-- Where the grip sample is judged on the frame's own lift, a RELEASE that has held is taken. -/
theorem AtGrip.release_taken {b : Stamp} {p : Int} (h : AtGrip order s w t) (hw : w.ltr.state.inLift = true)
    (hset : w.ltr.settings = s.ltr.settings) (hstart : w.ltr.releaseStart = some b)
    (hh : s.ltr.settings.releaseTime ≤ s.log.clock.since b) (hg : t.iau.channels.grip.status = .good)
    (hv : t.iau.channels.grip.value = some p) (hp : p < (s.ltr.settings.releaseThreshold : Int)) :
    judgeGrip w = takeRelease (unstamped w) := by
  rw [← h.iau] at hg hv
  have hne : w.ltr.state ≠ .idle := fun k => by rw [k] at hw; cases hw
  rw [judgeGrip_runs (b := none) (e := true) hne (by
    rw [releaseHolds_holds hg hv (by rw [hset]; exact hp), hstart, hset, h.clock, qualify_takes hh])]
  rw [if_pos rfl, if_pos hw]
  rfl

/-- The lift on which a RELEASE with its frame's own lift is judged: in WEIGHED, and in LIFTED before the cylinder's
sample or on the tip. -/
theorem AtGrip.own_lift (h : AtGrip order s w t)
    (hs : (s.ltr.state = .weighed ∧ (order.gripFirst = true ∨ s.ltr.dropStart = none))
      ∨ (s.ltr.state = .lifted ∧ (order.gripFirst = true ∨ (s.sourced ∧ s.wen.source = .tip
        ∧ s.wen.liftSource = some .tip ∧ ∀ x : Window, s.wen.liftWindow = some x → x.count < x.size))))
    (hc : s.wen.capture = none) :
    (∃ a b, w.ltr = { s.ltr with liftOffStart := a, dropStart := b })
      ∧ (s.ltr.state = .lifted → ∃ f p, w.wen = { s.wen with frameForce := f, previousCylinder := p }) := by
  rcases hs with ⟨hx, hd⟩ | ⟨hx, hd⟩
  · exact ⟨h.weighed_before hx hd, fun k => by rw [hx] at k; cases k⟩
  · rcases h.before with ⟨-, hl, he⟩ | ⟨hg, u, hb, hl, he⟩
    · exact ⟨⟨s.ltr.liftOffStart, s.ltr.dropStart, hl⟩, fun _ => ⟨s.wen.frameForce, s.wen.previousCylinder, he⟩⟩
    · obtain ⟨hsrc, ht, hls, hwin⟩ := hd.resolve_left (by rw [hg]; nofun)
      obtain ⟨f, p, hsam⟩ := sampledCylinder_onTip (s := u) (by rw [hb.wen, ht])
        (by rw [hb.available_tip]; exact hsrc.tip ht) (by rw [hb.wen, hls]; nofun)
        (fun _ x hx => hwin x (by rw [← hb.wen]; exact hx))
      have hcyl : cylinderFrame u = sampledCylinder u := by
        rw [cylinderFrame_eq]
        split
        · rfl
        · unfold captureCylinder
          rw [hsam]
          dsimp only
          rw [hb.wen, hc]
      refine ⟨⟨s.ltr.liftOffStart, s.ltr.dropStart, hl.trans ?_⟩, fun _ => ⟨f, p, he.trans ?_⟩⟩
      · rw [hcyl, hsam]
        exact hb.ltr
      · rw [hcyl, hsam]
        dsimp only
        rw [hb.wen]

/-- Settles O32: the release is judged on the frame's own lift, and its record closes the ring. -/
theorem releaseDecidesTheOutcome : Obligations.ReleaseDecidesTheOutcome := by
  intro codes levels order s b z src onTip hp hs hz hsrc hb hh hd hcap hta hut
  refine ⟨_, exec_acquisitionFrame codes levels order hp, fun p hg hv hlt => ?_⟩
  obtain ⟨w, h⟩ := takeFrame_atGrip codes levels order s hd
  generalize takeFrame codes levels order s = t at h hg hv
  obtain ⟨⟨a, d, hl⟩, hwen⟩ := h.own_lift hs hcap
  have hin : w.ltr.state.inLift = true := by
    rw [hl]
    exact (inLift_iff _).2 (hs.elim (fun k => .inr k.1) fun k => .inl k.1)
  have hr := h.release_taken (b := b) hin (by rw [hl]) (by rw [hl, ← hb]) hh hg hv hlt
  have hc : order.gripFirst = true → w.wen.capture = none := fun hg => by
    rcases h.before with ⟨-, -, he⟩ | ⟨hg', -⟩
    · rw [he, hcap]
    · rw [hg] at hg'
      cases hg'
  obtain ⟨hltr, -, h3, h4⟩ := h.released hr hc
  obtain ⟨e, e1, e2, e3⟩ := h.recorded hr hc rfl hta hut
  have hzone : w.ltr.fromZone = some z := by rw [hl, ← hz]
  rw [hltr, takeRelease_ltr]
  refine ⟨rfl, ?_, rfl, rfl, rfl, rfl, rfl, rfl, rfl, rfl, rfl, h3, h4, e, releasePart (unstamped w),
    (fixedResult (unstamped w)).empty, e1, e2, e3, ?_, ?_, ?_, ?_, ?_, ?_,
    fun q hx hq => ?_, fun v hx hv => ?_⟩
  · show w.ltr.number = _
    rw [hl]
  · show w.ltr.number = _
    rw [hl]
  · show w.ltr.fromZone.getD _ = z
    rw [hzone]
    rfl
  · exact congrArg Geo.zone h.geo
  · show w.ltr.source.getD _ = src
    rw [hl, hsrc]
    rfl
  · show w.tal.selected = _
    rw [h.tal]
  · have hout : (releasePart (unstamped w)).outcome
        = outcomeOf (fixedResult (unstamped w)).empty z t.geo.zone := by
      show outcomeOf (fixedResult _).empty (w.ltr.fromZone.getD .unknown) w.geo.zone = _
      rw [hzone, h.geo]
      rfl
    rw [hout]
    exact outcomeOf_placed _ _ _
  · have hfix : fixedResult (unstamped w) = q :=
      fixedResult_weighed (by show w.ltr.state = _; rw [hl, ← hx]) (by show w.ltr.result = _; rw [hl, ← hq])
    exact ⟨congrArg LiftResult.mass hfix, congrArg LiftResult.quality hfix, congrArg LiftResult.empty hfix⟩
  · obtain ⟨f, pc, he⟩ := hwen hx
    have hfix := fixedResult_fixesPartial (s := (unstamped w)) (w := v)
      (by show w.ltr.state = _; rw [hl, ← hx]) (by show w.wen.liftWindow = _; rw [he, ← hv])
    have hlive : w.wen.liveEstimate = s.wen.liveEstimate := by rw [he]
    rw [← hlive]
    exact fixesPartial_congr hfix (by show _ = w.wen.calibration; rw [he]) (by show _ = w.wen.zeroOffset; rw [he])
      (by show _ = w.wen.settings; rw [he])

end Sys2Proof.Machine
end

section
/-! PROOF. The cylinder force, band and sample of a frame, and the lift window on the cylinder (R63, R64, R67 to R71,
R95). -/

namespace Sys2Proof.Machine

variable {s t u v : State} {order : FrameOrder}

/-! ## The figures of a frame's sample -/

theorem same_gateCylinder (x : Int) (s : State) : s.wen.Same (gateCylinder x s).wen := by
  unfold gateCylinder feedLiftWindow
  repeat' split
  all_goals exact ⟨rfl, rfl, rfl, rfl, rfl, rfl, rfl, rfl, rfl, rfl, rfl, rfl, rfl⟩

theorem same_handIf (b : Bool) (s : State) : s.wen.Same (handIf b s).wen := by
  unfold handIf
  split
  · exact same_handLiveUpdate (.refl _)
  · exact .refl _

/-- A sample: the predecessor, and on the cylinder source the history and the estimate (R64, R67). -/
theorem takeCylinderSample_figures (x : Int) (s : State) :
    (takeCylinderSample x s).wen.frameForce = s.wen.frameForce
      ∧ (takeCylinderSample x s).wen.previousCylinder = some x
      ∧ (takeCylinderSample x s).wen.source = s.wen.source
      ∧ (s.wen.source = .cylinder → (takeCylinderSample x s).wen.history = (s.wen.feed x).history
        ∧ (takeCylinderSample x s).wen.liveEstimate = (s.wen.feed x).liveEstimate) := by
  have h : (feedIf (s.wen.source == .cylinder) x s).wen.Same (handIf (s.wen.source == .cylinder)
      (completeWindow (gateCylinder x (feedIf (s.wen.source == .cylinder) x s)))).wen :=
    (same_gateCylinder x _).trans ((same_completeWindow (.refl _)).trans (same_handIf _ _))
  have hf : (feedIf (s.wen.source == .cylinder) x s).wen.frameForce = s.wen.frameForce
      ∧ (feedIf (s.wen.source == .cylinder) x s).wen.source = s.wen.source := by
    unfold feedIf
    split <;> exact ⟨rfl, rfl⟩
  refine ⟨h.frameForce.trans hf.1, rfl, h.source.trans hf.2, fun hs => ?_⟩
  have hb : feedIf (s.wen.source == .cylinder) x s = { s with wen := s.wen.feed x } := if_pos (by rw [hs]; rfl)
  exact ⟨h.history.trans (by rw [hb]), h.liveEstimate.trans (by rw [hb])⟩

/-- A frame without a sample: no predecessor, and on the cylinder source no history (R64). -/
theorem noCylinderSample_figures (s : State) :
    (noCylinderSample s).wen.frameForce = s.wen.frameForce ∧ (noCylinderSample s).wen.previousCylinder = none
      ∧ (noCylinderSample s).wen.source = s.wen.source
      ∧ (s.wen.source = .cylinder → (noCylinderSample s).wen.history = []
        ∧ (noCylinderSample s).wen.liveEstimate = none) := by
  unfold noCylinderSample
  dsimp only
  split
  · have h : ({ s.wen with previousCylinder := none }.emptyHistory : Wen).Same (handLiveUpdate
        { s with wen := { s.wen with previousCylinder := none }.emptyHistory }).wen := same_handLiveUpdate (.refl _)
    exact ⟨h.frameForce, h.previousCylinder, h.source, fun _ => ⟨h.history, h.liveEstimate⟩⟩
  · next hs => exact ⟨rfl, rfl, rfl, fun k => absurd k hs⟩

/-- The live estimate of a cylinder history has nothing subtracted (R67). -/
theorem feed_estimate_cylinder (w : Wen) (y : Int) (h : w.source = .cylinder) : ∃ m,
    isRounded (w.feed y).history.sum (w.feed y).history.length m ∧ (w.feed y).liveEstimate = some m := by
  have hne : (pushHistory w.history y).isEmpty = false := by simp [pushHistory]
  refine ⟨_, roundDiv_isRounded _ _ ?_, ?_⟩
  · show (((pushHistory w.history y).length : Nat) : Int) ≠ 0
    simp [pushHistory]
    omega
  · show estimateOf (pushHistory w.history y) w.source _ _ = _
    unfold estimateOf
    rw [hne, h]
    rfl

/-! ## The force of a frame (R63) -/

theorem formedForce_unreadable (h : cylinderReadable s = false) : formedForce s = none := if_neg (by rw [h]; nofun)

theorem bandOf_val (n : Nat) : (bandOf n).val = min (n / 1000) 7 := by
  show min (n / 1000) 7 % 8 = _
  omega

theorem formedForce_readable {h r : Int} {p : Position} (hc : cylinderReadable s = true)
    (hh : s.iau.channels.pHead.value = some h) (hr : s.iau.channels.pRod.value = some r)
    (hp : s.geo.position = some p) : formedForce s
      = some ⟨roundDiv (h * s.wen.calibration.areaHead - r * s.wen.calibration.areaRod) 1000, bandOf p.reach⟩ := by
  unfold formedForce
  rw [if_pos hc, hh, hr, hp]

theorem formedForce_congr (hi : t.iau = s.iau) (hg : t.geo = s.geo) (hc : t.wen.calibration = s.wen.calibration) :
    formedForce t = formedForce s := by
  unfold formedForce cylinderReadable
  rw [hi, hg, hc]

theorem cylinderSample_some {c : Calibration} {f : CylinderForce} (he : c.bands[f.band].emptyCaptured = true)
    (hg : c.bands[f.band].gainCaptured = true) : cylinderSample c f
      = some (clampMass (roundDiv ((f.force - c.bands[f.band].emptyForce) * c.bands[f.band].gain) 65536)) :=
  if_pos (by simp only [Band.calibrated, he, hg]; rfl)

theorem cylinderSample_none {c : Calibration} {f : CylinderForce} (h : c.bands[f.band].emptyCaptured = false
    ∨ c.bands[f.band].gainCaptured = false) : cylinderSample c f = none :=
  if_neg (by
    rw [Band.calibrated, Bool.and_eq_true]
    rintro ⟨k1, k2⟩
    rcases h with h | h
    · exact Bool.false_ne_true (h.symm.trans k1)
    · exact Bool.false_ne_true (h.symm.trans k2))

/-! ## The figures at the end of the frame -/

/-- A frame's cylinder work is on the figures it finds, and the grip sample leaves what it makes of them. -/
theorem takeFrame_figures (codes : PerChannel RawCode) (levels : PerLine Level) (order : FrameOrder) (s : State) :
    ∃ v, s.wen.Same v.wen ∧ v.iau = (takeFrame codes levels order s).iau ∧ v.geo = (takeFrame codes levels order s).geo
      ∧ (cylinderFrame v).wen.Same (takeFrame codes levels order s).wen := by
  cases hg : order.gripFirst with
  | true =>
    obtain ⟨u, v, h1, h2, h3⟩ := takeFrame_gripFirst codes levels s hg
    refine ⟨v, ?_, ?_, ?_, ?_⟩
    · rw [h2.wen]
      exact same_judgeGrip (by rw [(begun_acquire codes levels h1).wen]; exact .refl _)
    · rw [h3.iau, (cylinderFrame_frame v).2.1]
    · rw [h3.geo, (cylinderFrame_frame v).2.2.2.1]
    · rw [h3.wen]
      exact .refl _
  | false =>
    obtain ⟨u, v, h1, h2, h3⟩ := takeFrame_cylinderFirst codes levels s hg
    refine ⟨u, ?_, ?_, ?_, ?_⟩
    · rw [(begun_acquire codes levels h1).wen]
      exact .refl _
    · rw [h3.iau, (judgeGrip_frame v).2.1, h2.iau, (cylinderFrame_frame u).2.1]
    · rw [h3.geo, (judgeGrip_frame v).2.2.2.1, h2.geo, (cylinderFrame_frame u).2.2.2.1]
    · rw [h3.wen]
      exact same_judgeGrip (by rw [h2.wen]; exact .refl _)

theorem Measured.figures (h : Measured s u) : u.wen.frameForce = s.wen.frameForce
    ∧ u.wen.previousCylinder = s.wen.previousCylinder ∧ u.wen.source = s.wen.source
    ∧ u.wen.history = s.wen.history ∧ u.wen.liveEstimate = s.wen.liveEstimate := by
  rw [h.eq]
  exact ⟨rfl, rfl, rfl, rfl, rfl⟩

/-- The history that a judgement of the sources leaves on the cylinder source (R65). -/
theorem rejudgeSources_history (h : (rejudgeSources s).wen.source = .cylinder) :
    (rejudgeSources s).wen.history = if s.wen.source = .cylinder then s.wen.history else [] := by
  rw [rejudgeSources_source] at h
  unfold rejudgeSources
  rw [(same_judgeLiftSource (.refl _)).history]
  split
  · next hj => rw [if_pos (by rw [← hj, h])]
  · next hj =>
    have hs : (sourced (judgedSource s) s).wen.Same (changeSource (judgedSource s) s).wen := same_handLiveUpdate (.refl _)
    rw [if_neg (by rw [← h]; exact fun k => hj k.symm), hs.history]
    rfl

/-! ## The lift window on the cylinder (R69, R71) -/

theorem cylinderAccepted_iff (s : State) (x : Int) : cylinderAccepted s x = true
    ↔ s.vdr.sections.boom.output = 0
      ∧ ∃ z, s.wen.previousCylinder = some z ∧ (x - z).natAbs ≤ s.wen.settings.jitter := by
  unfold cylinderAccepted boomStill within
  cases s.wen.previousCylinder <;> simp

theorem completeWindow_window (s : State) : (completeWindow s).wen.liftWindow = s.wen.liftWindow := by
  unfold completeWindow
  split
  · next w hx hw =>
    split
    · obtain ⟨c, h⟩ := enterState_wen .weighed { s with ltr := { s.ltr with
        result := some (weighedResult s.wen w.source w.mean (w.quality s.wen.settings.spread)) } }
      rw [h]
      rfl
    · rfl
  · rfl

theorem handIf_quiet (b : Bool) (hx : s.ltr.state.inLift = true) (hd : s.ltr.dropStart = none) :
    (handIf b s).wen = s.wen ∧ ∃ d, (handIf b s).ltr = { s.ltr with dropStart := d } := by
  unfold handIf
  split
  · obtain ⟨h1, -⟩ := handLiveUpdate_quiet (s := s) (fun k => by rw [k] at hx; cases hx) fun _ => hd
    obtain ⟨d, h2⟩ := (handLiveUpdate_inLift hx).2 hd
    exact ⟨h1, d, h2⟩
  · exact ⟨rfl, _, rfl⟩

/-- The cylinder's sample in LIFTED, with no DROP under way (R69, R71, R95). -/
theorem takeCylinderSample_lifted {w : Window} {y : Int} (hx : s.ltr.state = .lifted) (hd : s.ltr.dropStart = none)
    (hs : s.wen.liftSource = some .cylinder) (hw : s.wen.liftWindow = some w) (hc : w.count < w.size) :
    (cylinderAccepted s y = false →
      (takeCylinderSample y s).ltr.state = .lifted ∧ (takeCylinderSample y s).wen.liftWindow = some w)
    ∧ (cylinderAccepted s y = true → w.count + 1 < w.size →
      (takeCylinderSample y s).ltr.state = .lifted ∧ (takeCylinderSample y s).wen.liftWindow = some (w.grown y))
    ∧ (cylinderAccepted s y = true → w.count + 1 = w.size →
      (takeCylinderSample y s).ltr.state = .weighed ∧ (takeCylinderSample y s).wen.liftWindow = some (w.grown y)
        ∧ (takeCylinderSample y s).ltr.result
          = some (weighedResult s.wen w.source (w.grown y).mean ((w.grown y).quality s.wen.settings.spread))) := by
  have hf : ∃ n e, feedIf (s.wen.source == .cylinder) y s
      = { s with wen := { s.wen with history := n, liveEstimate := e } } := by
    unfold feedIf
    split
    · exact ⟨_, _, rfl⟩
    · exact ⟨s.wen.history, s.wen.liveEstimate, rfl⟩
  obtain ⟨n, e, hf⟩ := hf
  have hacc : cylinderAccepted { s with wen := { s.wen with history := n, liveEstimate := e } } y
    = cylinderAccepted s y := rfl
  have htake : takeCylinderSample y s = { handIf (s.wen.source == .cylinder) (completeWindow (gateCylinder y
      { s with wen := { s.wen with history := n, liveEstimate := e } })) with wen := { (handIf (s.wen.source == .cylinder)
        (completeWindow (gateCylinder y { s with wen := { s.wen with history := n, liveEstimate := e } }))).wen with
        previousCylinder := some y } } := by
    rw [← hf]
    rfl
  have open_ {u : State} {w' : Window} (hux : u.ltr = s.ltr) (huw : u.wen.liftWindow = some w')
      (hc : w'.count < w'.size) (b : Bool) : (handIf b (completeWindow u)).ltr.state = .lifted
        ∧ (handIf b (completeWindow u)).wen.liftWindow = some w' := by
    rw [completeWindow_open huw hc]
    obtain ⟨h1, d, h2⟩ := handIf_quiet b (s := u) (by rw [hux, hx]; rfl) (by rw [hux, hd])
    rw [h1, h2]
    exact ⟨by show u.ltr.state = _; rw [hux, hx], huw⟩
  rw [htake]
  refine ⟨fun ha => ?_, fun ha hlt => ?_, fun ha hfull => ?_⟩
  · have hg : gateCylinder y { s with wen := { s.wen with history := n, liveEstimate := e } }
        = { s with wen := { s.wen with history := n, liveEstimate := e } } := if_neg (by rw [hacc, ha]; nofun)
    rw [hg]
    exact open_ (u := { s with wen := { s.wen with history := n, liveEstimate := e } }) rfl hw hc _
  all_goals
    have hg : gateCylinder y { s with wen := { s.wen with history := n, liveEstimate := e } }
        = { s with wen := { s.wen with history := n, liveEstimate := e, liftWindow := some (w.grown y) } } :=
      (if_pos (by rw [hacc, ha])).trans (feedLiftWindow_eq
        (s := { s with wen := { s.wen with history := n, liveEstimate := e } }) hs hw hc)
    rw [hg]
  · exact open_ (u := { s with wen := { s.wen with history := n, liveEstimate := e, liftWindow := some (w.grown y) } })
      rfl rfl hlt _
  · have hcf := completeWindow_full (s := { s with wen := { s.wen with
        history := n, liveEstimate := e, liftWindow := some (w.grown y) } }) hx rfl (Nat.le_of_eq hfull.symm)
    have hwin := completeWindow_window { s with wen := { s.wen with
        history := n, liveEstimate := e, liftWindow := some (w.grown y) } }
    generalize completeWindow { s with wen := { s.wen with
        history := n, liveEstimate := e, liftWindow := some (w.grown y) } } = m at hcf hwin
    have hml : m.ltr = _ := (congrArg State.ltr hcf).trans (enterState_ltr _ _)
    obtain ⟨h1, d, h2⟩ := handIf_quiet (s.wen.source == .cylinder) (s := m) (by rw [hml]; rfl)
      (by rw [hml]; simp [Ltr.enter, hd])
    dsimp only
    rw [h1, h2]
    refine ⟨by rw [hml]; rfl, hwin, ?_⟩
    rw [hml]
    rfl

end Sys2Proof.Machine
end

section
/-! PROOF. A frame in a lift with no RELEASE under way, and the cylinder's figures at its end (R63 to R71). -/

namespace Sys2Proof.Machine

variable {s t u v : State} {order : FrameOrder}

/-! ## RELEASE is not begun by WEN's work -/

theorem Ltr.enter_releaseStart {l : Ltr} (x : LiftState) (h : l.releaseStart = none) :
    (l.enter x).releaseStart = none := by
  show (if _ then l.releaseStart else none) = none
  rw [h, ite_self]

theorem judgeLive_releaseStart (h : s.ltr.releaseStart = none) : (judgeLive s).ltr.releaseStart = none := by
  unfold judgeLive
  dsimp only
  split
  · exact h
  · split
    · show (takeLiftOff _).ltr.releaseStart = none
      unfold takeLiftOff
      rw [enterState_ltr]
      exact Ltr.enter_releaseStart _ h
    · exact h
  · split
    · rw [takeDrop_ltr]
      exact Ltr.enter_releaseStart _ h
    · exact h

theorem completeWindow_releaseStart (h : s.ltr.releaseStart = none) : (completeWindow s).ltr.releaseStart = none := by
  unfold completeWindow
  split
  · split
    · rw [enterState_ltr]
      exact Ltr.enter_releaseStart _ h
    · exact h
  · exact h

theorem handIf_releaseStart (b : Bool) (h : s.ltr.releaseStart = none) : (handIf b s).ltr.releaseStart = none := by
  unfold handIf
  split
  · exact judgeLive_releaseStart h
  · exact h

theorem heldForce_releaseStart (o : Option CylinderForce) (h : s.ltr.releaseStart = none) :
    (heldForce o s).ltr.releaseStart = none := by
  have hn {u : State} (h : u.ltr.releaseStart = none) : (noCylinderSample u).ltr.releaseStart = none := by
    unfold noCylinderSample
    dsimp only
    split
    · exact judgeLive_releaseStart (s := { u with wen := _ }) h
    · exact h
  unfold heldForce
  dsimp only
  split
  · exact hn (u := { s with wen := _ }) h
  · next f =>
    split
    · next x _ =>
      have hg : (gateCylinder x (feedIf (s.wen.source == .cylinder) x
          { s with wen := { s.wen with frameForce := some f } })).ltr.releaseStart = none := by
        rw [gateCylinder_ltr, feedIf_ltr]
        exact h
      exact handIf_releaseStart _ (completeWindow_releaseStart hg)
    · exact hn (u := { s with wen := _ }) h

theorem cylinderFrame_releaseStart (h : s.ltr.releaseStart = none) : (cylinderFrame s).ltr.releaseStart = none := by
  rw [(cylinderFrame_measured s).ltr]
  obtain ⟨x, o, d, hl, -⟩ := rejudgeSources_near s
  exact heldForce_releaseStart _ (by rw [hl]; exact h)

/-- A RELEASE that is not under way may be begun and is not taken. -/
theorem judgeGrip_unreleased (hx : s.ltr.state ≠ .idle) (h : s.ltr.releaseStart = none) :
    ∃ b, judgeGrip s = { s with ltr := { s.ltr with releaseStart := b } } := by
  have hq : qualify (releaseHolds s) s.log.clock s.ltr.settings.releaseTime s.ltr.releaseStart
      = ((qualify (releaseHolds s) s.log.clock s.ltr.settings.releaseTime none).1, false) := by
    rw [h, ← qualify_none (releaseHolds s) s.log.clock s.ltr.settings.releaseTime]
  exact ⟨_, (judgeGrip_runs hx hq).trans (if_neg (by nofun))⟩

/-! ## The module on which the cylinder's sample is taken -/

/-- The module `v` on which a frame from `s` to `t`, which takes no RELEASE, does WEN's work on the cylinder. -/
structure AtSample (s v t : State) : Prop where
  wen : v.wen = s.wen
  ltr : ∃ b, v.ltr = { s.ltr with releaseStart := b }
  sto : v.sto = s.sto
  sections : v.vdr.sections = s.vdr.sections
  tlc : v.tlc = s.tlc
  stuck : v.clp.isLive .tipStuck = s.clp.isLive .tipStuck
  iau : v.iau = t.iau
  geo : v.geo = t.geo
  windows : t.wen = (cylinderFrame v).wen
  context : ∃ b, t.ltr = { (cylinderFrame v).ltr with releaseStart := b }

theorem takeFrame_atSample (codes : PerChannel RawCode) (levels : PerLine Level) (order : FrameOrder)
    (hx : s.ltr.state.inLift = true) (hr : s.ltr.releaseStart = none) :
    ∃ v, AtSample s v (takeFrame codes levels order s) := by
  have hidle {l : Ltr} (h : l.state.inLift = true) : l.state ≠ .idle := fun k => by rw [k] at h; cases h
  cases hg : order.gripFirst with
  | true =>
    obtain ⟨u, v, h1, h2, h3⟩ := takeFrame_gripFirst codes levels s hg
    have hb := begun_acquire codes levels h1
    obtain ⟨b, hj⟩ := judgeGrip_unreleased (s := u) (hidle (by rw [hb.ltr, hx])) (by rw [hb.ltr, hr])
    rw [hj] at h2
    refine ⟨v, h2.wen.trans hb.wen, ⟨b, h2.ltr.trans (by rw [← hb.ltr])⟩, h2.sto.trans hb.sto,
      h2.steady.2.2.trans hb.sections, h2.tlc.trans hb.tlc, (h2.live .tipStuck nofun).trans hb.stuck, ?_, ?_, h3.wen,
      (cylinderFrame v).ltr.releaseStart, h3.ltr⟩
    · rw [h3.iau, (cylinderFrame_frame v).2.1]
    · rw [h3.geo, (cylinderFrame_frame v).2.2.2.1]
  | false =>
    obtain ⟨u, v, h1, h2, h3⟩ := takeFrame_cylinderFirst codes levels s hg
    have hb := begun_acquire codes levels h1
    obtain ⟨b, hj⟩ := judgeGrip_unreleased (s := v)
      (by rw [h2.ltr]; exact (cylinderFrame_inLift (by rw [hb.ltr, hx])).1)
      (by rw [h2.ltr]; exact cylinderFrame_releaseStart (by rw [hb.ltr, hr]))
    rw [hj] at h3
    refine ⟨u, hb.wen, ⟨s.ltr.releaseStart, hb.ltr⟩, hb.sto, hb.sections, hb.tlc, hb.stuck, ?_, ?_, h3.wen.trans h2.wen,
      b, h3.ltr.trans (by rw [← h2.ltr])⟩
    · rw [h3.iau]
      show _ = v.iau
      rw [h2.iau, (cylinderFrame_frame u).2.1]
    · rw [h3.geo]
      show _ = v.geo
      rw [h2.geo, (cylinderFrame_frame u).2.2.2.1]

/-! ## A lift on the cylinder at a frame -/

theorem Measured.window (h : Measured s u) : u.wen.liftWindow = s.wen.liftWindow
    ∧ u.wen.liftSource = s.wen.liftSource := by
  rw [h.eq]
  exact ⟨rfl, rfl⟩

/-- A lift on an available cylinder stands through a judgement of the sources. -/
theorem rejudgeSources_lift (h : s.liftJudged) :
    (rejudgeSources s).wen.liftWindow = s.wen.liftWindow ∧ (rejudgeSources s).wen.liftSource = s.wen.liftSource
      ∧ ∃ o d, (rejudgeSources s).ltr = { s.ltr with liftOffStart := o, dropStart := d }
        ∧ (s.ltr.dropStart = none → d = none) := by
  unfold rejudgeSources
  split
  · rw [h.stands]
    exact ⟨rfl, rfl, _, _, rfl, id⟩
  · have hc : changeSource (judgedSource s) s
        = evaluate { evaluate (sourced (judgedSource s) s) with ltr := s.ltr.unestimated } := changeSource_eq _ s
    have hj : (changeSource (judgedSource s) s).liftJudged :=
      h.of_eq (by rw [hc]; rfl) (changeSource_available _ s)
    rw [hj.stands, hc]
    refine ⟨rfl, rfl, s.ltr.unestimated.liftOffStart, s.ltr.unestimated.dropStart, Ltr.unestimated_eq _, fun hd => ?_⟩
    unfold Ltr.unestimated
    split
    · exact hd
    · exact hd
    · rfl

/-- In LIFTED on an available cylinder with no DROP under way, a frame's sample of that source (R69, R71, R95). -/
theorem cylinderFrame_lifted {w : Window} {f : CylinderForce} {y : Int} (hx : s.ltr.state = .lifted)
    (hd : s.ltr.dropStart = none) (hs : s.wen.liftSource = some .cylinder) (ha : available s .cylinder = true)
    (hw : s.wen.liftWindow = some w) (hc : w.count < w.size) (hf : formedForce s = some f)
    (hy : cylinderSample s.wen.calibration f = some y) :
    let passes := cylinderAccepted s y = true
    let t := cylinderFrame s
    (¬passes → t.ltr.state = .lifted ∧ t.wen.liftWindow = some w)
    ∧ (passes → w.count + 1 < w.size → t.ltr.state = .lifted ∧ t.wen.liftWindow = some (w.grown y))
    ∧ (passes → w.count + 1 = w.size → t.ltr.state = .weighed ∧ t.wen.liftWindow = some (w.grown y)
        ∧ t.ltr.result
          = some (weighedResult s.wen w.source (w.grown y).mean ((w.grown y).quality s.wen.settings.spread))) := by
  have hlj : s.liftJudged := fun x hx => by
    rw [hs] at hx
    cases hx
    exact .inr ha
  obtain ⟨h1, h2, o, d, h3, h4⟩ := rejudgeSources_lift hlj
  have hh := rejudgeSources_held s
  have hk := (rejudgeSources_kept s).2.1
  have hform : formedForce (rejudgeSources s) = some f := by
    rw [formedForce_congr (by simp) (by simp) hh.calibration, hf]
  have hm := cylinderFrame_measured s
  intro passes t
  have ht : t.ltr = (sampledCylinder s).ltr ∧ t.wen.liftWindow = (sampledCylinder s).wen.liftWindow :=
    ⟨hm.ltr, hm.window.1⟩
  rw [ht.1, ht.2]
  have hsam : sampledCylinder s = takeCylinderSample y { rejudgeSources s with wen := { (rejudgeSources s).wen with
      frameForce := some f } } := by
    unfold sampledCylinder heldForce
    rw [hform]
    dsimp only
    rw [hh.calibration, hy]
  rw [hsam]
  have hacc : cylinderAccepted { rejudgeSources s with wen := { (rejudgeSources s).wen with frameForce := some f } } y
      = cylinderAccepted s y := by
    unfold cylinderAccepted boomStill
    dsimp only
    rw [hk, hh.previousCylinder, hh.settings]
  obtain ⟨a, b, c⟩ := takeCylinderSample_lifted (y := y) (w := w)
    (s := { rejudgeSources s with wen := { (rejudgeSources s).wen with frameForce := some f } })
    (by show (rejudgeSources s).ltr.state = _; rw [h3, ← hx])
    (by show (rejudgeSources s).ltr.dropStart = _; rw [h3]; exact h4 hd) (h2.trans hs) (h1.trans hw) hc
  rw [hacc] at a b c
  refine ⟨fun hn => a (by simpa [passes] using hn), b, fun hp hfull => ?_⟩
  obtain ⟨c1, c2, c3⟩ := c hp hfull
  refine ⟨c1, c2, c3.trans ?_⟩
  simp only [weighedResult_eq, hh.calibration, hh.zeroOffset, hh.settings]

/-- Settles O25: the frame's sample is taken on the figures of the frame's start, and the grip sample touches none of
them. -/
theorem framesFormTheCylinderForce : Obligations.FramesFormTheCylinderForce := by
  intro codes levels order s hp
  refine ⟨_, exec_acquisitionFrame codes levels order hp, ?_⟩
  obtain ⟨v, hsame, hiau, hgeo, hafter⟩ := takeFrame_figures codes levels order s
  have hsample := takeFrame_atSample (s := s) codes levels order
  generalize takeFrame codes levels order s = t at hiau hgeo hafter hsample
  obtain ⟨m1, m2, m3, m4, m5⟩ := (cylinderFrame_measured v).figures
  have hh := rejudgeSources_held v
  have hform : formedForce (rejudgeSources v) = formedForce v := formedForce_congr (by simp) (by simp) hh.calibration
  have hcal : (rejudgeSources v).wen.calibration = s.wen.calibration := hh.calibration.trans hsame.calibration
  have hforce : t.wen.frameForce = (heldForce (formedForce v) (rejudgeSources v)).wen.frameForce := by
    rw [hafter.frameForce, m1, ← hform]
    rfl
  have hprev : t.wen.previousCylinder = (heldForce (formedForce v) (rejudgeSources v)).wen.previousCylinder := by
    rw [hafter.previousCylinder, m2, ← hform]
    rfl
  have hhist : t.wen.history = (heldForce (formedForce v) (rejudgeSources v)).wen.history := by
    rw [hafter.history, m4, ← hform]
    rfl
  have hest : t.wen.liveEstimate = (heldForce (formedForce v) (rejudgeSources v)).wen.liveEstimate := by
    rw [hafter.liveEstimate, m5, ← hform]
    rfl
  have hsrc : t.wen.source = (heldForce (formedForce v) (rejudgeSources v)).wen.source := by
    rw [hafter.source, m3, ← hform]
    rfl
  rw [hforce, hprev, hhist, hest, hsrc]
  refine ⟨fun hbad => ?_, fun h r p hhs hhv hrs hrv hgv hgp => ?_⟩
  · have hu : formedForce v = none := formedForce_unreadable (by
      rw [Bool.eq_false_iff, Ne, cylinderReadable_iff, hiau, hgeo]
      rintro ⟨k1, k2, k3⟩
      rcases hbad with k | k | k
      · exact k k1
      · exact k k2
      · rw [k3] at k
        cases k)
    rw [hu]
    obtain ⟨n1, n2, -⟩ := noCylinderSample_figures { rejudgeSources v with wen := { (rejudgeSources v).wen with
      frameForce := none } }
    exact ⟨n1, n2⟩
  · have hread : cylinderReadable v = true := (cylinderReadable_iff v).2 (by rw [hiau, hgeo]; exact ⟨hhs, hrs, hgv⟩)
    have hff := formedForce_readable hread (by rw [hiau]; exact hhv) (by rw [hiau]; exact hrv) (by rw [hgeo]; exact hgp)
    rw [hsame.calibration] at hff
    generalize hf : (⟨roundDiv (h * s.wen.calibration.areaHead - r * s.wen.calibration.areaRod) 1000, bandOf p.reach⟩ :
      CylinderForce) = f at hff
    rw [hff]
    have hround : isRounded (h * s.wen.calibration.areaHead - r * s.wen.calibration.areaRod) 1000 f.force := by
      rw [← hf]
      exact roundDiv_isRounded _ _ (by decide)
    have hband : f.band.val = min (p.reach / 1000) 7 := by
      rw [← hf]
      exact bandOf_val _
    refine ⟨f, ?_, hround, hband, fun he hg => ?_, fun hne => ?_⟩
    · unfold heldForce
      dsimp only
      split
      · exact (takeCylinderSample_figures _ _).1
      · exact (noCylinderSample_figures _).1
    · have hy := cylinderSample_some he hg
      generalize hq : roundDiv ((f.force - s.wen.calibration.bands[f.band].emptyForce)
        * s.wen.calibration.bands[f.band].gain) 65536 = q at hy
      have hheld : heldForce (some f) (rejudgeSources v) = takeCylinderSample (clampMass q)
          { rejudgeSources v with wen := { (rejudgeSources v).wen with frameForce := some f } } := by
        unfold heldForce
        dsimp only
        rw [hcal, hy]
      rw [hheld]
      obtain ⟨-, t2, t3, t4⟩ := takeCylinderSample_figures (clampMass q)
        { rejudgeSources v with wen := { (rejudgeSources v).wen with frameForce := some f } }
      refine ⟨q, clampMass q, ?_, clamp_isClamped _ _ _ (by decide), t2, fun hcyl => ?_,
        fun w hx hrel hdrop hfall hls hw hws hc => ?_⟩
      · rw [← hq]
        exact roundDiv_isRounded _ _ (by decide)
      · have hrs := t3.symm.trans hcyl
        obtain ⟨k1, k2⟩ := t4 hrs
        have hold := rejudgeSources_history hrs
        rw [hsame.source, hsame.history] at hold
        rw [k1, k2]
        refine ⟨?_, ?_⟩
        · rw [← hold]
          rfl
        · exact feed_estimate_cylinder ({ (rejudgeSources v).wen with frameForce := some f }) _ hrs
      · obtain ⟨x, ⟨xw, ⟨b, xl⟩, xs, xv, -, -, xi, xg, xt, ⟨b', xc⟩⟩⟩ := hsample (by rw [hx]; rfl) hrel
        have hxread : cylinderReadable x = true := (cylinderReadable_iff x).2 (by rw [xi, xg]; exact ⟨hhs, hrs, hgv⟩)
        have hxf : formedForce x = some f := by
          rw [formedForce_readable hxread (by rw [xi]; exact hhv) (by rw [xi]; exact hrv) (by rw [xg]; exact hgp), xw, hf]
        have hxa : available x .cylinder = true := by
          show (x.sto.working.fallback && cylinderReadable x) = true
          rw [xs, hfall, hxread]
          rfl
        obtain ⟨a1, a2, a3⟩ := cylinderFrame_lifted (s := x) (w := w) (f := f) (y := clampMass q)
          (by rw [xl, ← hx]) (by rw [xl, ← hdrop]) (by rw [xw, hls]) hxa (by rw [xw, hw]) hc hxf (by rw [xw, hy])
        have hpass : cylinderAccepted x (clampMass q) = true ↔ _ := cylinderAccepted_iff x (clampMass q)
        rw [xv, xw] at hpass
        rw [hpass] at a1 a2 a3
        rw [xc, xt]
        refine ⟨a1, a2, fun hy hfull => ?_⟩
        obtain ⟨c1, c2, c3⟩ := a3 hy hfull
        have hgrown : (w.grown (clampMass q)).count = (w.grown (clampMass q)).size := hfull
        refine ⟨c1, c2, (w.grown (clampMass q)).mean, _, _, ?_, weighs_of s .cylinder (w.grown (clampMass q)).mean .good,
          ?_⟩
        · have hr := roundDiv_isRounded (w.grown (clampMass q)).sum (w.grown (clampMass q)).count
            (by show ((w.count + 1 : Nat) : Int) ≠ 0; omega)
          show isRounded (w.grown (clampMass q)).sum ((w.grown (clampMass q)).size : Nat) _
          rw [← hgrown]
          exact hr
        · refine c3.trans ?_
          rw [xw, hws, weighedResult_eq, weighedResult_eq]
          have hcap : capQuality .cylinder ((w.grown (clampMass q)).quality s.wen.settings.spread) = .estimate := by
            unfold Window.quality
            split <;> rfl
          rw [hcap]
    · have hheld : heldForce (some f) (rejudgeSources v) = noCylinderSample
          { rejudgeSources v with wen := { (rejudgeSources v).wen with frameForce := some f } } := by
        unfold heldForce
        dsimp only
        rw [hcal, cylinderSample_none hne]
      rw [hheld]
      obtain ⟨-, n2, n3, n4⟩ := noCylinderSample_figures
        { rejudgeSources v with wen := { (rejudgeSources v).wen with frameForce := some f } }
      exact ⟨n2, fun hcyl => n4 (n3.symm.trans hcyl)⟩

end Sys2Proof.Machine
end

section
/-! PROOF. The lift source falls and does not rise (R65, R66, R91, R96). -/

namespace Sys2Proof.Machine

variable {s t u v : State}

/-! ## What a fall leaves of the lift -/

/-- The lift goes on: its state, number, times, from-zone and result stand. -/
def State.sameLift (s t : State) : Prop := t.ltr.state = s.ltr.state ∧ t.ltr.number = s.ltr.number
  ∧ t.ltr.gripTime = s.ltr.gripTime ∧ t.ltr.liftOffTime = s.ltr.liftOffTime
  ∧ t.ltr.fromZone = s.ltr.fromZone ∧ t.ltr.result = s.ltr.result

/-- The lift source falls: in LIFTED the window is reopened on the lower source, in WEIGHED all else stands. -/
def State.fallen (low : Source) (s t : State) : Prop := s.sameLift t ∧ t.wen.liftSource = some low
  ∧ (s.ltr.state = .lifted → t.ltr.source = some low
    ∧ t.wen.liftWindow = some ⟨low, s.wen.settings.windowSize, 0, 0, none, none⟩)
  ∧ (s.ltr.state = .weighed → t.ltr.source = s.ltr.source ∧ t.wen.liftWindow = s.wen.liftWindow)

/-- What a fall is judged from. -/
structure Poised (s u : State) : Prop where
  ltr : u.ltr = s.ltr
  liftSource : u.wen.liftSource = s.wen.liftSource
  liftWindow : u.wen.liftWindow = s.wen.liftWindow
  settings : u.wen.settings = s.wen.settings

theorem Poised.fallen {low : Source} (h : Poised s u) (k : u.fallen low t) : s.fallen low t := by
  unfold State.fallen State.sameLift at k ⊢
  rw [h.ltr, h.liftWindow, h.settings] at k
  exact k

/-- Steps that leave LTR but for the stamps of LIFT-OFF, RELEASE and DROP, and the lift in WEN. -/
structure Follows (t u : State) : Prop where
  ltr : ∃ r o d, u.ltr = { t.ltr with releaseStart := r, liftOffStart := o, dropStart := d }
  liftSource : u.wen.liftSource = t.wen.liftSource
  liftWindow : u.wen.liftWindow = t.wen.liftWindow

theorem Follows.refl (t : State) : Follows t t := ⟨⟨_, _, _, rfl⟩, rfl, rfl⟩

theorem Follows.trans {a b c : State} (h : Follows a b) (k : Follows b c) : Follows a c := by
  obtain ⟨r, o, d, hl⟩ := h.ltr
  obtain ⟨r', o', d', kl⟩ := k.ltr
  exact ⟨⟨r', o', d', by rw [kl, hl]⟩, k.liftSource.trans h.liftSource, k.liftWindow.trans h.liftWindow⟩

theorem Follows.of_eq (hl : u.ltr = t.ltr) (hs : u.wen.liftSource = t.wen.liftSource)
    (hw : u.wen.liftWindow = t.wen.liftWindow) : Follows t u := ⟨⟨_, _, _, hl⟩, hs, hw⟩

theorem Follows.sameLift (h : Follows t u) : t.sameLift u := by
  obtain ⟨r, o, d, hl⟩ := h.ltr
  unfold State.sameLift
  rw [hl]
  exact ⟨rfl, rfl, rfl, rfl, rfl, rfl⟩

theorem State.fallen.follow {low : Source} (h : s.fallen low t) (k : Follows t u) : s.fallen low u := by
  obtain ⟨r, o, d, hl⟩ := k.ltr
  unfold State.fallen State.sameLift at h ⊢
  rw [hl, k.liftSource, k.liftWindow]
  exact h

/-! ## The judgement of a source that is gone (R66, R96) -/

/-- A change of the current source during a lift, but for the lift source (R65, R91). -/
theorem changeSource_follows (y : Source) (s : State) : Follows s (changeSource y s) := by
  rw [changeSource_eq]
  exact ⟨⟨s.ltr.releaseStart, s.ltr.unestimated.liftOffStart, s.ltr.unestimated.dropStart, Ltr.unestimated_eq _⟩, rfl, rfl⟩

theorem judgeLiftSource_falls {old : Source} (hs : s.wen.liftSource = some old) (hn : old ≠ .none)
    (ha : available s old = false) :
    s.fallen (lowerSource s old) (judgeLiftSource s) := by
  have h : judgeLiftSource s = takeDowngrade (lowerSource s old)
      { s with wen := { s.wen with liftSource := some (lowerSource s old) } } := by
    unfold judgeLiftSource
    split
    · next k => rw [hs] at k; cases k
    · next k => rw [hs] at k; cases k; exact absurd rfl hn
    · next x _ k =>
      rw [hs] at k
      cases k
      exact if_neg (by rw [ha]; nofun)
  rw [h]
  unfold takeDowngrade
  dsimp only
  split
  · next hl => exact ⟨⟨rfl, rfl, rfl, rfl, rfl, rfl⟩, rfl, fun _ => ⟨rfl, rfl⟩, fun k => by rw [hl] at k; cases k⟩
  · next hl => exact ⟨⟨rfl, rfl, rfl, rfl, rfl, rfl⟩, rfl, fun k => absurd k hl, fun _ => ⟨rfl, rfl⟩⟩

theorem lowerSource_congr (h : ∀ x, available t x = available s x) (old : Source) :
    lowerSource t old = lowerSource s old := by
  unfold lowerSource
  rw [h]

/-- A lift source that is gone falls, and the current source is the one judged (R65, R66). -/
theorem rejudgeSources_falls {old : Source} (hs : s.wen.liftSource = some old) (hn : old ≠ .none)
    (ha : available s old = false) :
    s.fallen (lowerSource s old) (rejudgeSources s)
      ∧ (s.wen.source ≠ judgedSource s → (rejudgeSources s).wen.history = [] ∧ (rejudgeSources s).wen.liveEstimate = none) := by
  unfold rejudgeSources
  rw [(same_judgeLiftSource (.refl _)).history, (same_judgeLiftSource (.refl _)).liveEstimate]
  split
  · next h => exact ⟨judgeLiftSource_falls hs hn ha, fun k => absurd h.symm k⟩
  · have hf := changeSource_follows (judgedSource s) s
    obtain ⟨r, o, d, hl⟩ := hf.ltr
    have hset : (changeSource (judgedSource s) s).wen.settings = s.wen.settings := (changeSource_held _ s).settings
    have hfall := judgeLiftSource_falls (s := changeSource (judgedSource s) s) (hf.liftSource.trans hs) hn
      ((changeSource_available _ s _).trans ha)
    rw [lowerSource_congr (changeSource_available _ s)] at hfall
    refine ⟨?_, fun _ => ?_⟩
    · unfold State.fallen State.sameLift at hfall ⊢
      rw [hl, hf.liftWindow, hset] at hfall
      exact hfall
    · rw [changeSource_eq]
      exact ⟨rfl, rfl⟩

/-- Sources that stand are judged to the same. -/
theorem State.settled.rejudged (h : s.settled) : rejudgeSources s = s := by
  rw [rejudgeSources_stands h.1.symm, h.2.stands]

/-- With the tip gone, the current source is what a lift on the tip falls to. -/
theorem judgedSource_lower (h : available s .tip = false) : judgedSource s = lowerSource s .tip := by
  unfold judgedSource lowerSource
  rw [h]
  cases available s .cylinder <;> rfl

/-! ## The tip link leaves UP -/

theorem moveLink_eq (new : Tlc) (s : State) : ∃ m c d, moveLink new s
    = { handLink s.tlc.link new.link (linked new s) with mlm := m, clp := c, vdr := d }
      ∧ ∀ x, available (moveLink new s) x = available (handLink s.tlc.link new.link (linked new s)) x := by
  unfold moveLink
  dsimp only
  split
  · exact ⟨_, _, _, rfl, fun x => available_congr rfl rfl rfl rfl rfl rfl x⟩
  · exact ⟨_, _, _, rfl, fun _ => rfl⟩

/-- Whether the cylinder is available reads no part of the tip link. -/
theorem available_cylinder_congr (hs : t.sto = s.sto) (hi : t.iau = s.iau) (hg : t.geo = s.geo) :
    available t .cylinder = available s .cylinder := by
  show (t.sto.working.fallback && cylinderReadable t) = (s.sto.working.fallback && cylinderReadable s)
  unfold cylinderReadable
  rw [hs, hi, hg]

/-- A lift on the tip whose link leaves UP: the fall, and the judged source (R60, R65, R66). -/
structure Falls (s t : State) : Prop where
  fallen : s.fallen (lowerSource s .tip) t
  source : t.wen.source = lowerSource s .tip
  emptied : s.wen.source ≠ lowerSource s .tip → t.wen.history = [] ∧ t.wen.liveEstimate = none

theorem Falls.follow (h : Falls s t) (k : Follows t u) (hw : u.wen.source = t.wen.source)
    (hh : u.wen.history = t.wen.history) (he : u.wen.liveEstimate = t.wen.liveEstimate) : Falls s u :=
  ⟨h.fallen.follow k, hw.trans h.source, fun x => by rw [hh, he]; exact h.emptied x⟩

theorem rejudged_falls (h : Poised s u) (hsrc : u.wen.source = s.wen.source) (hs : s.wen.liftSource = some .tip)
    (ha : available u .tip = false) (hc : available u .cylinder = available s .cylinder) :
    Falls s (rejudgeSources u) := by
  have hlow : lowerSource u .tip = lowerSource s .tip := by
    unfold lowerSource
    rw [hc]
  obtain ⟨h1, h2⟩ := rejudgeSources_falls (h.liftSource.trans hs) nofun ha
  rw [judgedSource_lower ha, hlow, hsrc] at h2
  rw [hlow] at h1
  exact ⟨h.fallen h1, by rw [rejudgeSources_source, judgedSource_lower ha, hlow], h2⟩

theorem abortCaptures_poised (k : List CaptureKind) (s : State) : Poised s (abortCaptures k s) := by
  refine ⟨by simp, ?_, ?_, ?_⟩ <;> rw [abortCaptures_wen]

theorem Poised.trans (h : Poised s t) (k : Poised t u) : Poised s u :=
  ⟨k.ltr.trans h.ltr, k.liftSource.trans h.liftSource, k.liftWindow.trans h.liftWindow, k.settings.trans h.settings⟩

theorem available_of_down (h : s.tlc.link ≠ .up) : available s .tip = false := by
  simp [available, h]

theorem moveLink_falls {new : Tlc} (ho : s.tlc.link = .up) (hn : new.link ≠ .up) (hs : s.wen.liftSource = some .tip) :
    Falls s (moveLink new s) ∧ (moveLink new s).settled := by
  obtain ⟨m, c, d, he, ha⟩ := moveLink_eq new s
  have hh : handLink s.tlc.link new.link (linked new s) = tipLinkDown (linked new s) := if_pos ⟨ho, hn⟩
  rw [hh] at he ha
  generalize hu : setLive .tipOverrange false { linked new s with wen := { (linked new s).wen with
    previousCorrected := none, previousCount := none } } = u at *
  have hpu : Poised s u := by
    rw [← hu]
    exact ⟨rfl, rfl, rfl, rfl⟩
  have hpa := hpu.trans (abortCaptures_poised [.zero, .span] u)
  have hdown : tipLinkDown (linked new s) = rejudgeSources (abortCaptures [.zero, .span] u) := by
    rw [← hu]
    rfl
  have hsame : (abortCaptures [.zero, .span] u).tlc = (linked new s).tlc ∧ (abortCaptures [.zero, .span] u).sto = s.sto
      ∧ (abortCaptures [.zero, .span] u).iau = s.iau ∧ (abortCaptures [.zero, .span] u).geo = s.geo
      ∧ (abortCaptures [.zero, .span] u).wen.source = s.wen.source := by
    rw [← hu]
    refine ⟨by simp, by simp [linked], by simp [linked], by simp [linked], ?_⟩
    rw [abortCaptures_wen]
    rfl
  obtain ⟨h1, h2, h3, h4, h5⟩ := hsame
  have hf := rejudged_falls hpa h5 hs (available_of_down (by rw [h1, linked_link]; exact hn))
    (available_cylinder_congr h2 h3 h4)
  rw [← hdown] at hf
  have hset : (tipLinkDown (linked new s)).settled := by
    rw [hdown]
    exact settled_rejudgeSources _
  refine ⟨?_, hset.of_eq (by rw [he]) (by rw [he]) ha⟩
  rw [he]
  exact hf.follow (.of_eq rfl rfl rfl) rfl rfl rfl

theorem settled_stuck {v : Bool} (h : s.settled) (hl : s.tlc.link ≠ .up) : (setLive .tipStuck v s).settled :=
  h.of_eq rfl rfl fun x => by
    cases x with
    | tip => rw [available_of_down (s := setLive .tipStuck v s) hl, available_of_down hl]
    | cylinder => rfl
    | none => rfl

/-- A fresh bring-up from UP: the link moves, and TIP_STUCK is taken non-live behind it (R22). -/
theorem freshBringUp_falls (ho : s.tlc.link = .up) (hs : s.wen.liftSource = some .tip) :
    Falls s (freshBringUp s) := by
  have hn : s.tlc.fresh.link ≠ .up := nofun
  obtain ⟨hf, hset⟩ := moveLink_falls ho hn hs
  have hlink : (moveLink s.tlc.fresh s).tlc.link ≠ .up := by
    rw [moveLink_tlc, Moves.leaveUp_link]
    exact hn
  show Falls s (setStuck false (moveLink s.tlc.fresh s))
  generalize moveLink s.tlc.fresh s = m at hf hset hlink
  unfold setStuck
  split
  · exact hf
  · have hk : (setLive .tipStuck false m).clp.isLive .tipStuck = false := Clp.setLive_self _ _ _
    have hr : tipStuckChanged (setLive .tipStuck false m) = setLive .tipStuck false m := by
      unfold tipStuckChanged
      rw [if_neg (by rw [hk]; nofun), (settled_stuck hset hlink).rejudged]
    rw [hr]
    exact hf.follow (.of_eq rfl rfl rfl) rfl rfl rfl

end Sys2Proof.Machine
end

section
/-! PROOF. A lift source falls at a stuck tip and at a frame, and does not rise when the link returns (R65, R66,
R91, R96). -/

namespace Sys2Proof.Machine

variable {s t u v : State}

/-! ## A sample that is not the lift's -/

theorem gateTip_notLift {x : TipSample} {y : Int} (hx : s.ltr.state ≠ .idle) (hs : s.wen.liftSource ≠ some .tip) :
    gateTip x y s = s := by
  have hf : feedEmptyWindow y (feedLiftWindow .tip y s) = s := by
    have h : feedLiftWindow .tip y s = s := if_neg hs
    rw [h, feedEmptyWindow_other hx]
  unfold gateTip
  rw [hf, ite_self]

/-- In a lift whose window, in LIFTED, is not complete, nothing is weighed. -/
theorem completeWindow_waits (h : s.ltr.state = .lifted → ∀ w : Window, s.wen.liftWindow = some w → w.count < w.size) :
    completeWindow s = s := by
  unfold completeWindow
  split
  · next w hx hw => exact if_neg (by simpa [Window.complete] using h hx w hw)
  · rfl

/-- A capture that is not a tip capture takes no raw count (R75). -/
theorem countTip_cylinder {x : TipSample} (h : ∀ c, s.wen.capture = some c → c.kind ≠ .zero ∧ c.kind ≠ .span) :
    countTip x s = s := by
  have hc : captureTip x.force s = s := by
    unfold captureTip
    split
    · rfl
    · next c hcap =>
      obtain ⟨h1, h2⟩ := h c hcap
      split
      · next k => exact absurd k h1
      · next k => exact absurd k h2
      · rfl
      · rfl
  unfold countTip
  rw [hc, ite_self]

/-- A tip sample while neither the source nor the lift is the tip's, and no tip capture is in flight. -/
theorem tipSample_offTip {x : TipSample} (ht : s.wen.source ≠ .tip) (hx : s.ltr.state ≠ .idle)
    (hs : s.wen.liftSource ≠ some .tip) (hc : ∀ c, s.wen.capture = some c → c.kind ≠ .zero ∧ c.kind ≠ .span)
    (hw : s.ltr.state = .lifted → ∀ w : Window, s.wen.liftWindow = some w → w.count < w.size) :
    tipSample x s = rememberTip x (correctedValue s.wen x) (setLive .tipOverrange x.overrange s) := by
  have hb : (s.wen.source == .tip) = false := by simpa using ht
  have hg := gateTip_notLift (x := x) (y := correctedValue s.wen x) (s := setLive .tipOverrange x.overrange s) hx hs
  have hk := countTip_cylinder (x := x) (s := setLive .tipOverrange x.overrange s) hc
  have hm := completeWindow_waits (s := setLive .tipOverrange x.overrange s) hw
  unfold tipSample
  dsimp only
  rw [hb, show feedIf false (correctedValue s.wen x) (setLive .tipOverrange x.overrange s)
    = setLive .tipOverrange x.overrange s from rfl, hg, hk, hm]
  rfl

/-! ## TIP_STUCK goes live (R32, R65) -/

theorem abortCaptures_tip (s : State) (c : Capture) (h : (abortCaptures [.zero, .span] s).wen.capture = some c) :
    c.kind ≠ .zero ∧ c.kind ≠ .span := by
  rw [abortCaptures_wen] at h
  dsimp only at h
  unfold capturing at h
  cases hs : s.wen.capture with
  | none => simp [hs] at h
  | some d => cases hk : d.kind <;> simp_all

theorem rejudgeSources_capture (s : State) : (rejudgeSources s).wen.capture = s.wen.capture := by
  have hj (u : State) : (judgeLiftSource u).wen.capture = u.wen.capture := by
    unfold judgeLiftSource takeDowngrade
    repeat' split
    all_goals rfl
  unfold rejudgeSources
  rw [hj]
  split
  · rfl
  · rw [changeSource_eq]
    rfl

theorem lowerSource_ne_tip (s : State) (x : Source) : lowerSource s x ≠ .tip := by
  unfold lowerSource
  split <;> nofun

/-- The frame that makes TIP_STUCK live: the fall, and its own sample on neither source. -/
theorem stuckFrame_falls {r : Byte} {x : TipSample} (ho : s.tlc.link = .up) (hs : s.wen.liftSource = some .tip)
    (hx : s.ltr.state.inLift = true) (hz : 1 ≤ s.wen.settings.windowSize) (hk : s.clp.isLive .tipStuck = false)
    (hstuck : stuckLiveAfter s.tlc false x.force = true) : Falls s (tipSample x (received r x 0 s)) := by
  have hm : moveLink (s.tlc.accepted r x) s = linked (s.tlc.accepted r x) s := moveLink_upToUp ho rfl
  have hlk : (linked (s.tlc.accepted r x) s).clp.isLive .tipStuck = false :=
    (linked_isLive _ _ (show Condition.tipDown ≠ .tipStuck from nofun) nofun).trans hk
  have hr : received r x 0 s = rejudgeSources (abortCaptures [.zero, .span]
      (setLive .tipStuck true (linked (s.tlc.accepted r x) s))) := by
    show setStuck (stuckLiveAfter s.tlc (s.clp.isLive .tipStuck) x.force) (moveLink (s.tlc.accepted r x) s) = _
    rw [hk, hstuck, hm]
    unfold setStuck
    rw [if_neg (by rw [hlk]; nofun)]
    have hset : (setLive .tipStuck true (linked (s.tlc.accepted r x) s)).clp.isLive .tipStuck = true :=
      Clp.setLive_self _ _ _
    unfold tipStuckChanged
    rw [if_pos hset]
  generalize hu : setLive .tipStuck true (linked (s.tlc.accepted r x) s) = u at hr
  have hpu : Poised s u := by
    rw [← hu]
    exact ⟨rfl, rfl, rfl, rfl⟩
  have huk : u.clp.isLive .tipStuck = true := by
    rw [← hu]
    exact Clp.setLive_self _ _ _
  have husame : u.sto = s.sto ∧ u.iau = s.iau ∧ u.geo = s.geo ∧ u.wen = s.wen := by
    rw [← hu]
    exact ⟨by simp [linked], by simp [linked], by simp [linked], rfl⟩
  have hak : (abortCaptures [.zero, .span] u).clp.isLive .tipStuck = true := (abortCaptures_isLive _ _ _).trans huk
  have hpa := hpu.trans (abortCaptures_poised [.zero, .span] u)
  obtain ⟨h2, h3, h4, h5⟩ := husame
  have hf := rejudged_falls hpa (by rw [abortCaptures_wen, h5]) hs (by simp [available, hak])
    (available_cylinder_congr (by simp [h2]) (by simp [h3]) (by simp [h4]))
  have hcap := rejudgeSources_capture (abortCaptures [.zero, .span] u)
  have hkind (c : Capture) (h : (rejudgeSources (abortCaptures [.zero, .span] u)).wen.capture = some c) :
      c.kind ≠ .zero ∧ c.kind ≠ .span := abortCaptures_tip u c (hcap.symm.trans h)
  rw [hr]
  generalize rejudgeSources (abortCaptures [.zero, .span] u) = v at hf hkind
  obtain ⟨hsame, hlow, hwin, -⟩ := hf.fallen
  have hvx : v.ltr.state = s.ltr.state := hsame.1
  have hsample : tipSample x v = _ := tipSample_offTip (x := x) (s := v)
    (by rw [hf.source]; exact lowerSource_ne_tip _ _) (by rw [hvx]; intro k; rw [k] at hx; cases hx)
    (by rw [hlow]; exact fun k => lowerSource_ne_tip _ _ (Option.some.inj k)) hkind
    (fun hl w hw => by
      rw [(hwin (hvx.symm.trans hl)).2] at hw
      cases hw
      exact hz)
  rw [hsample]
  exact hf.follow (.of_eq rfl rfl rfl) rfl rfl rfl

/-! ## The cylinder is gone at a frame (R66, R96) -/

theorem noCylinderSample_other (h : s.wen.source ≠ .cylinder) : noCylinderSample s
    = { s with wen := { s.wen with previousCylinder := none } } := if_neg h

/-- A cylinder sample while neither the source nor the lift is the cylinder's. -/
theorem takeCylinderSample_follows {o : Option CylinderForce} (x : Int) (h : s.wen.source ≠ .cylinder) (hs : s.wen.liftSource ≠ some .cylinder)
    (hw : s.ltr.state = .lifted → ∀ w : Window, s.wen.liftWindow = some w → w.count < w.size) :
    Follows s (takeCylinderSample x { s with wen := { s.wen with frameForce := o } }) := by
  generalize hu : ({ s with wen := { s.wen with frameForce := o } } : State) = u
  have hk : Follows s u := by
    rw [← hu]
    exact .of_eq rfl rfl rfl
  obtain ⟨h1, h2, h3⟩ : u.wen.source = s.wen.source ∧ u.ltr = s.ltr ∧ u.wen.liftWindow = s.wen.liftWindow := by
    rw [← hu]
    exact ⟨rfl, rfl, rfl⟩
  rw [takeCylinderSample_other (s := u) x (by rwa [h1]), gateCylinder_other (s := u) (by rwa [hk.liftSource]),
    completeWindow_waits (s := u) (by rwa [h2, h3])]
  refine hk.trans ?_
  exact .of_eq rfl rfl rfl

/-- A frame on which nothing of the cylinder is available: a lift on it falls to NONE. -/
theorem cylinderFrame_falls (hs : s.wen.liftSource = some .cylinder) (ha : available s .cylinder = false)
    (hx : s.ltr.state = .lifted) (hz : 1 ≤ s.wen.settings.windowSize) : s.fallen .none (cylinderFrame s) := by
  obtain ⟨hf, -⟩ := rejudgeSources_falls (s := s) hs nofun ha
  have hlow : lowerSource s .cylinder = .none := if_neg nofun
  rw [hlow] at hf
  obtain ⟨hsame, hls, hwin, -⟩ := hf
  have hsrc : (rejudgeSources s).wen.source ≠ .cylinder := by
    rw [rejudgeSources_source]
    unfold judgedSource
    rw [ha]
    split <;> nofun
  have hrx : (rejudgeSources s).ltr.state = .lifted := hsame.1.trans hx
  have hheld (o : Option CylinderForce) : Follows (rejudgeSources s) (heldForce o (rejudgeSources s)) := by
    unfold heldForce
    dsimp only
    split
    · rw [noCylinderSample_other (s := { rejudgeSources s with wen := { (rejudgeSources s).wen with
        frameForce := none } }) hsrc]
      exact .of_eq rfl rfl rfl
    · next f =>
      split
      · next x _ =>
        exact takeCylinderSample_follows (o := some f) x hsrc
          (by rw [hls]; nofun) fun _ w hw => by
            have hw' : (rejudgeSources s).wen.liftWindow = some w := hw
            rw [(hwin hx).2] at hw'
            cases hw'
            exact hz
      · rw [noCylinderSample_other (s := { rejudgeSources s with wen := { (rejudgeSources s).wen with
          frameForce := some f } }) hsrc]
        exact .of_eq rfl rfl rfl
  have hm := cylinderFrame_measured s
  have hk : Follows (sampledCylinder s) (cylinderFrame s) := .of_eq hm.ltr hm.window.2 hm.window.1
  exact (State.fallen.follow (t := rejudgeSources s) (by
    have := (rejudgeSources_falls (s := s) hs nofun ha).1
    rwa [hlow] at this) (hheld _)).follow hk

theorem AtSample.fallen {low : Source} (h : AtSample s v t) (k : v.fallen low (cylinderFrame v)) : s.fallen low t := by
  obtain ⟨b, hl⟩ := h.ltr
  obtain ⟨b', hc⟩ := h.context
  have hf := k.follow (u := t) ⟨⟨b', _, _, hc⟩, by rw [h.windows], by rw [h.windows]⟩
  unfold State.fallen State.sameLift at hf ⊢
  rw [hl, h.wen] at hf
  exact hf

/-! ## The tip link comes back (R65, R91) -/

/-- While the current source is the tip no DROP is under way. -/
def State.undropped (s : State) : Prop := s.wen.source = .tip → s.ltr.dropStart = none

/-- A judgement of the sources leaves a lift on an available cylinder. -/
theorem rejudgeSources_follows (h : s.liftJudged) (hx : s.ltr.state.inLift = true) (hd : s.undropped) :
    Follows s (rejudgeSources s) ∧ (rejudgeSources s).undropped := by
  obtain ⟨h1, h2, o, d, h3, h4⟩ := rejudgeSources_lift h
  refine ⟨⟨⟨s.ltr.releaseStart, o, d, h3⟩, h2, h1⟩, fun ht => ?_⟩
  rw [rejudgeSources_source] at ht
  by_cases hs : s.wen.source = .tip
  · rw [h3]
    exact h4 (hd hs)
  · unfold rejudgeSources
    rw [if_neg (by rw [ht]; exact fun k => hs k.symm), judgeLiftSource_ltr, changeSource_eq]
    show s.ltr.unestimated.dropStart = none
    unfold Ltr.unestimated
    split
    · next k => rw [k] at hx; cases hx
    · next k => rw [k] at hx; cases hx
    · rfl

/-- The lift, the current source and DROP's stamp stand. -/
def Stays (s u : State) : Prop :=
  Follows s u ∧ u.wen.source = s.wen.source ∧ u.ltr.dropStart = s.ltr.dropStart

theorem Stays.refl (s : State) : Stays s s := ⟨.refl s, rfl, rfl⟩

theorem Stays.measured (h : Stays s t) (k : Measured t u) : Stays s u := by
  obtain ⟨hf, hs, hd⟩ := h
  exact ⟨hf.trans (.of_eq k.ltr k.window.2 k.window.1), k.figures.2.2.1.trans hs, by rw [k.ltr, hd]⟩

/-- Only TIP_STUCK among the live states is read by the sources. -/
theorem State.settled.setLive {d : Condition} {v : Bool} (h : s.settled) (hd : d ≠ .tipStuck) :
    (setLive d v s).settled :=
  h.of_eq rfl rfl fun x => by
    have hk : (Machine.setLive d v s).clp.isLive .tipStuck = s.clp.isLive .tipStuck := setLive_other d .tipStuck hd
    cases x <;> simp [available, cylinderReadable, hk]

/-- The offset z, the empty window and the live history are not read by the sources. -/
theorem State.settled.rewindowed {z : Int} {w : Option Window} (h : s.settled) :
    State.settled { s with wen := { s.wen with zeroOffset := z, emptyWindow := w } } :=
  h.of_eq rfl rfl fun _ => rfl

theorem finishZero_stays {c : Capture} {m : Int} (h : s.settled) (hv : s.wen.calibration.zeroValid = true) :
    Stays s (finishZero c m s) := by
  unfold finishZero
  dsimp only
  generalize hu : setLive .zeroDrift false { s with wen := { s.wen with zeroOffset := 0, emptyWindow := none } } = u
  have hset : u.settled := by
    rw [← hu]
    exact h.rewindowed.setLive (show Condition.zeroDrift ≠ .tipStuck from nofun)
  have hst : Stays s u ∧ u.wen.calibration = s.wen.calibration := by
    rw [← hu]
    exact ⟨⟨Follows.of_eq (t := s) rfl rfl rfl, rfl, rfl⟩, rfl⟩
  refine hst.1.measured (finishCapture_measured hset ?_)
  rw [hst.2]
  simp [Calibration.tipValid, hv]

theorem finishSpan_stays {c : Capture} {m : Int} (h : s.settled) (hv : s.wen.calibration.spanValid = true) :
    Stays s (finishSpan c m s) := by
  unfold finishSpan
  dsimp only
  split
  · exact (Stays.refl s).measured (failCapture_measured _ s)
  · generalize hu : ({ s with wen := { s.wen with emptyWindow := none } } : State) = u
    have hset : u.settled := by
      rw [← hu]
      exact h.of_eq rfl rfl fun _ => rfl
    have hst : Stays s u ∧ u.wen.calibration = s.wen.calibration := by
      rw [← hu]
      exact ⟨⟨.of_eq rfl rfl rfl, rfl, rfl⟩, rfl⟩
    refine hst.1.measured (finishCapture_measured hset ?_)
    rw [hst.2]
    simp [Calibration.tipValid, hv]

/-- A raw count leaves the lift, on an available tip source. -/
theorem countTip_stays (x : TipSample) (h : s.settled) (ha : available s .tip = true) : Stays s (countTip x s) := by
  obtain ⟨hz, hs⟩ : s.wen.calibration.zeroValid = true ∧ s.wen.calibration.spanValid = true := by
    simpa [Calibration.tipValid] using ((available_tip s).1 ha).2.2
  have htake (c : Capture) (n : Int) (hc : c.kind = .zero ∨ c.kind = .span) : Stays s (captureTake c n s) := by
    unfold captureTake
    dsimp only
    split
    · rcases hc with hc | hc
      · rw [finish_zero (c := { c with count := c.count + 1, sum := c.sum + n }) hc]
        exact finishZero_stays h hz
      · rw [finish_span (c := { c with count := c.count + 1, sum := c.sum + n }) hc]
        exact finishSpan_stays h hs
    · exact ⟨.of_eq rfl rfl rfl, rfl, rfl⟩
  unfold countTip
  split
  · unfold captureTip
    split
    · exact .refl s
    · split
      · next hc => exact htake _ _ (.inl hc)
      · next hc => exact htake _ _ (.inr hc)
      · exact .refl s
      · exact .refl s
  · exact .refl s

/-- A tip sample during a lift on the cylinder, on an available tip source with no DROP under way. -/
theorem tipSample_follows (x : TipSample) (h : s.settled) (ht : s.wen.source = .tip) (hx : s.ltr.state.inLift = true)
    (hs : s.wen.liftSource = some .cylinder) (hd : s.ltr.dropStart = none)
    (hw : s.ltr.state = .lifted → ∀ w : Window, s.wen.liftWindow = some w → w.count < w.size) :
    Follows s (tipSample x s) ∧ (tipSample x s).wen.source = .tip := by
  have ha : available s .tip = true := judgedSource_tip.1 (h.1.symm.trans ht)
  rw [tipSample_onTip ht]
  have hfed : (fedTip x s).settled :=
    (h.setLive (v := x.overrange) (show Condition.tipOverrange ≠ .tipStuck from nofun)).of_eq (t := fedTip x s)
      rfl rfl fun _ => rfl
  have hg : gateTip x (correctedValue s.wen x) (fedTip x s) = fedTip x s := gateTip_notLift (s := fedTip x s)
    (fun k => by rw [show s.ltr.state = .idle from k] at hx; cases hx)
    (by show s.wen.liftSource ≠ some .tip; rw [hs]; nofun)
  rw [hg]
  obtain ⟨k1, k2, k3⟩ : Stays (fedTip x s) (countTip x (fedTip x s)) := countTip_stays x hfed (fedTip_available ha)
  have hstate : (countTip x (fedTip x s)).ltr.state = s.ltr.state := k1.sameLift.1
  have hwin : (countTip x (fedTip x s)).wen.liftWindow = s.wen.liftWindow := k1.liftWindow
  have hall : Follows s (countTip x (fedTip x s)) := Follows.trans (b := fedTip x s) (.of_eq rfl rfl rfl) k1
  generalize countTip x (fedTip x s) = m at *
  rw [completeWindow_waits (s := m) fun hl w hmw => hw (hstate.symm.trans hl) w (hwin.symm.trans hmw)]
  obtain ⟨h1, -⟩ := handLiveUpdate_quiet (s := m) (fun k => by rw [hstate] at k; rw [k] at hx; cases hx) fun _ => k3.trans hd
  obtain ⟨d, h2⟩ := (handLiveUpdate_inLift (s := m) (by rw [hstate, hx])).2 (k3.trans hd)
  refine ⟨hall.trans ⟨⟨m.ltr.releaseStart, m.ltr.liftOffStart, d, h2⟩, ?_, ?_⟩, ?_⟩
  · show (handLiveUpdate m).wen.liftSource = _
    rw [h1]
  · show (handLiveUpdate m).wen.liftWindow = _
    rw [h1]
  · show (handLiveUpdate m).wen.source = _
    rw [h1, k2]
    exact ht

end Sys2Proof.Machine
end

section
/-! PROOF. A lift source only falls (R65, R66, R91, R96). -/

namespace Sys2Proof.Machine

variable {s t u v : State}

/-! ## The link comes back UP (R25, R65, R91) -/

/-- A lift on an available cylinder, the sources judged. -/
structure OnCylinder (s : State) : Prop where
  settled : s.settled
  cylinder : available s .cylinder = true
  lift : s.wen.liftSource = some .cylinder
  inLift : s.ltr.state.inLift = true
  undropped : s.undropped

theorem liftJudged_cylinder (h : s.wen.liftSource = some .cylinder) (ha : available s .cylinder = true) :
    s.liftJudged := fun x hx => .inr (by
  rw [h] at hx
  cases hx
  exact ha)

theorem rejudgeSources_onCylinder (h : s.wen.liftSource = some .cylinder) (ha : available s .cylinder = true)
    (hx : s.ltr.state.inLift = true) (hd : s.undropped) :
    Follows s (rejudgeSources s) ∧ OnCylinder (rejudgeSources s) := by
  obtain ⟨hf, hu⟩ := rejudgeSources_follows (liftJudged_cylinder h ha) hx hd
  exact ⟨hf, settled_rejudgeSources s, (rejudgeSources_available s .cylinder).trans ha, hf.liftSource.trans h,
    hf.sameLift.1 ▸ hx, hu⟩

theorem moveLink_onCylinder {new : Tlc} (ho : s.tlc.link ≠ .up) (hn : new.link = .up)
    (h : s.wen.liftSource = some .cylinder) (ha : available s .cylinder = true) (hx : s.ltr.state.inLift = true)
    (hd : s.undropped) : Follows s (moveLink new s) ∧ OnCylinder (moveLink new s) := by
  obtain ⟨m, c, d, he, hav⟩ := moveLink_eq new s
  have hh : handLink s.tlc.link new.link (linked new s) = rejudgeSources (linked new s) := by
    unfold handLink
    rw [if_neg fun k => k.2 hn, if_pos ⟨ho, hn⟩]
  rw [hh] at he hav
  obtain ⟨hf, hs, hc, hl, hi, hu⟩ := rejudgeSources_onCylinder (s := linked new s) h
    ((available_cylinder_congr rfl rfl rfl).trans ha) hx hd
  generalize rejudgeSources (linked new s) = r at *
  refine ⟨Follows.trans (b := linked new s) (.of_eq rfl rfl rfl) (hf.trans ?_), ?_⟩
  · rw [he]
    exact .of_eq rfl rfl rfl
  · refine ⟨hs.of_eq (by rw [he]) (by rw [he]) hav, (hav _).trans hc, ?_, ?_, ?_⟩
    · rw [he]
      exact hl
    · rw [he]
      exact hi
    · rw [he]
      exact hu

theorem setStuck_onCylinder (h : OnCylinder s) : Follows s (setStuck false s) ∧ OnCylinder (setStuck false s) := by
  unfold setStuck
  split
  · exact ⟨.refl s, h⟩
  · have hk : (setLive .tipStuck false s).clp.isLive .tipStuck = false := Clp.setLive_self _ _ _
    unfold tipStuckChanged
    rw [if_neg (by rw [hk]; nofun)]
    obtain ⟨hf, ho⟩ := rejudgeSources_onCylinder (s := setLive .tipStuck false s) h.lift
      ((available_cylinder_congr rfl rfl rfl).trans h.cylinder) h.inLift h.undropped
    exact ⟨Follows.trans (b := setLive .tipStuck false s) (.of_eq rfl rfl rfl) hf, ho⟩

theorem stuckLiveAfter_unstuckBy {c : BitVec 16} (h : s.unstuckBy c) :
    stuckLiveAfter s.tlc (s.clp.isLive .tipStuck) c.toNat = false := by
  rcases h with ⟨n, hn, hne⟩ | ⟨hk, hc⟩
  · simp [stuckLiveAfter, hn, hne]
  · exact stuckLiveAfter_of_unstuck hk (.inr ⟨hk, hc⟩)

/-- The frame that brings the link back, before its sample is handed on. -/
theorem received_onCylinder {q g x : Byte} {c a : BitVec 16} (ho : s.tlc.link = .starting)
    (h : s.wen.liftSource = some .cylinder) (ha : available s .cylinder = true) (hx : s.ltr.state.inLift = true)
    (hd : s.undropped) (hc : s.unstuckBy c) :
    Follows s (received q (tipSampleOf c a g x) 0 s) ∧ OnCylinder (received q (tipSampleOf c a g x) 0 s) := by
  have hr : received q (tipSampleOf c a g x) 0 s
      = setStuck false (moveLink (s.tlc.accepted q (tipSampleOf c a g x)) s) := by
    show setStuck (stuckLiveAfter s.tlc (s.clp.isLive .tipStuck) c.toNat) _ = _
    rw [stuckLiveAfter_unstuckBy hc]
    rfl
  obtain ⟨hf, hm⟩ := moveLink_onCylinder (new := s.tlc.accepted q (tipSampleOf c a g x)) (by rw [ho]; nofun) rfl h ha hx hd
  obtain ⟨hg, hn⟩ := setStuck_onCylinder hm
  rw [hr]
  exact ⟨hf.trans hg, hn⟩

/-- The frame that brings the link back during a lift on the cylinder: the current source is TIP again. -/
theorem takeData_returns {q g x : Byte} {c a : BitVec 16} (ho : s.tlc.link = .starting)
    (h : s.wen.liftSource = some .cylinder) (ha : available s .cylinder = true) (hx : s.ltr.state.inLift = true)
    (hd : s.undropped) (hw : s.ltr.state = .lifted → ∀ w : Window, s.wen.liftWindow = some w → w.count < w.size)
    (hc : s.unstuckBy c) (hv : s.wen.calibration.tipValid = true) :
    Follows s (takeData q (tipSampleOf c a g x) s) ∧ (takeData q (tipSampleOf c a g x) s).wen.source = .tip := by
  obtain ⟨hf, hn⟩ := received_onCylinder (q := q) (a := a) (g := g) (x := x) ho h ha hx hd hc
  have htip : available (received q (tipSampleOf c a g x) 0 s) .tip = true := by
    refine (available_tip _).2 ⟨?_, ?_, ?_⟩
    · rw [received_tlc]
      rfl
    · rw [received_stuck]
      exact stuckLiveAfter_unstuckBy hc
    · rw [(received_held q (tipSampleOf c a g x) s).calibration, hv]
  rw [takeData_starting ho, acceptFrame_eq, if_pos rfl]
  generalize received q (tipSampleOf c a g x) 0 s = r at *
  have hsrc : r.wen.source = .tip := hn.settled.1.trans (judgedSource_tip.2 htip)
  obtain ⟨hg, ht⟩ := tipSample_follows (tipSampleOf c a g x) hn.settled hsrc hn.inLift hn.lift (hn.undropped hsrc)
    (fun k w kw => hw (hf.sameLift.1.symm.trans k) w (hf.liftWindow.symm.trans kw))
  exact ⟨hf.trans hg, ht⟩

/-! ## The three parts of the obligation -/

theorem lowerSource_tip (s : State) : lowerSource s .tip = if available s .cylinder then .cylinder else .none := by
  unfold lowerSource
  cases available s .cylinder <;> rfl

theorem lowerSource_readable (hf : s.sto.working.fallback = true) (hr : cylinderReadable s = true) :
    lowerSource s .tip = .cylinder := by
  rw [lowerSource_tip, available, hf, hr]
  rfl

theorem lowerSource_gone (h : s.sto.working.fallback = false ∨ ¬cylinderReadable s = true) :
    lowerSource s .tip = .none := by
  rw [lowerSource_tip, available, if_neg]
  rcases h with h | h <;> simp [h]

/-- At the threshold of the stuck rule the count of an equal force makes TIP_STUCK live (R32). -/
theorem stuckLiveAfter_stuck {c : BitVec 16} (hk : s.tlc.stuckRef = some c.toNat)
    (hc : (if s.tlc.settings.stuckRule = .strict then 24 else 120) ≤ s.tlc.stuckCount + 1) :
    stuckLiveAfter s.tlc false c.toNat = true := by
  rw [← StuckRule.threshold_eq] at hc
  have ht : s.tlc.settings.stuckRule.threshold ≤ 65535 := by
    cases s.tlc.settings.stuckRule <;> decide
  simp [stuckLiveAfter, hk, stuckCountAfter, saturate16, hc, ht]

/-- What a lift on the tip falls by. -/
theorem exec_falls (i : Instr) (hp : s.powered = true) (ho : s.tlc.link = .up) (hs : s.wen.liftSource = some .tip)
    (hx : s.ltr.state.inLift = true) (hz : 1 ≤ s.wen.settings.windowSize)
    (hi : i = .lossTimerExpiry ∨ i = .hail ∨ (i = .linkRestart ∧ s.serves 1)
      ∨ ∃ r c a g x, i = .dataFrame (r + 1) c a g x ∧ s.tlc.sequenceRef = some r
        ∧ s.clp.isLive .tipStuck = false ∧ s.tlc.stuckRef = some c.toNat
        ∧ (if s.tlc.settings.stuckRule = .strict then 24 else 120) ≤ s.tlc.stuckCount + 1) :
    ∃ t, exec i s = .next t ∧ Falls s t := by
  rcases hi with rfl | rfl | ⟨rfl, hv⟩ | ⟨r, c, a, g, x, rfl, hr, hk, hsr, hc⟩
  · exact ⟨_, exec_powered hp (if_pos ho), (moveLink_falls ho (show LinkState.probing ≠ .up from nofun) hs).1⟩
  · exact ⟨_, exec_powered hp rfl, freshBringUp_falls ho hs⟩
  · obtain ⟨hf, hsrc, he⟩ := freshBringUp_falls (s := s.replied 0x09 .ok []) ho hs
    exact ⟨_, congrArg Host.Outcome.next (answer_ok hv), hf, hsrc, he⟩
  · exact ⟨_, exec_inOrder hp ho hr, stuckFrame_falls (x := tipSampleOf c a g x) ho hs hx hz hk (stuckLiveAfter_stuck hsr hc)⟩

/-- Settles O60: the fall is the one that `judgeLiftSource` takes of an unavailable source, and the return changes
the current source alone. -/
theorem liftSourcesOnlyFall : Obligations.LiftSourcesOnlyFall := by
  refine ⟨fun s i hp ho hs hx hz hi => ?_, fun codes levels order s hp hs hx hr hz => ?_,
    fun s q c a g x hp ho hs hfb hrd hx hd hw hc hz hsp => ?_⟩
  · obtain ⟨t, he, hf⟩ := exec_falls i hp ho hs ((inLift_iff _).2 hx) hz hi
    refine ⟨t, lowerSource s .tip, he, hf.fallen, fun h => ?_, fun h => ?_, hf.source, hf.emptied⟩
    · exact lowerSource_readable h.1 ((cylinderReadable_iff s).2 h.2)
    · exact lowerSource_gone (h.imp_right fun k r => k ((cylinderReadable_iff s).1 r))
  · obtain ⟨v, hv⟩ := takeFrame_atSample codes levels order ((inLift_iff _).2 (.inl hx)) hr
    refine ⟨_, exec_acquisitionFrame codes levels order hp, fun h => hv.fallen ?_⟩
    obtain ⟨b, hl⟩ := hv.ltr
    have ha : available v .cylinder = false := by
      rw [available, hv.sto]
      rcases h with h | h
      · simp [h]
      · have : cylinderReadable v = false := Bool.eq_false_iff.2 fun k => h (by
          obtain ⟨k1, k2, k3⟩ := (cylinderReadable_iff v).1 k
          rw [← hv.iau, ← hv.geo]
          exact ⟨k1, k2, k3⟩)
        simp [this]
    exact cylinderFrame_falls (s := v) (by rw [hv.wen, hs]) ha (by rw [hl]; exact hx) (by rw [hv.wen]; exact hz)
  · obtain ⟨hf, ht⟩ := takeData_returns (q := q) (a := a) (g := g) (x := x) ho hs
      (by simp [available, hfb, (cylinderReadable_iff s).2 hrd]) ((inLift_iff _).2 hx)
      (fun k => hd.resolve_left fun h => h k)
      (fun hl w kw => (hw w kw).resolve_right fun k => by rw [k] at hl; cases hl) hc
      (by simp [Calibration.tipValid, hz, hsp])
    obtain ⟨r, o, d, hl⟩ := hf.ltr
    exact ⟨_, exec_powered hp rfl, hf.sameLift, ht, hf.liftSource.trans hs, hf.liftWindow, by rw [hl]⟩

end Sys2Proof.Machine
end

section
/-! PROOF. MLM stands on its inputs after a frame, a sample and a PROFILE RESTORE (R8, R67, R146, R187). -/

namespace Sys2Proof.Machine

variable {s t u v : State}

/-! ## A frame whose evaluation comes last (log 8) -/

/-- LTR's one task among those of WEN and LOG, and then the evaluation. -/
theorem orderedTasks_last {o : FrameOrder} (h : o.evaluationAt = 3) : ∃ a b,
    orderedTasks o = a ++ .grip :: (b ++ [.evaluation])
      ∧ (∀ x ∈ a, x = .cylinder ∨ x = .mark) ∧ ∀ x ∈ b, x = .cylinder ∨ x = .mark := by
  have hall : ∀ g m,
      let l := orderedTasks ⟨g, m, 3⟩
      let a := l.takeWhile (· != .grip)
      let b := (l.drop (a.length + 1)).takeWhile (· != .evaluation)
      l = a ++ .grip :: (b ++ [.evaluation])
        ∧ (∀ x ∈ a, x = .cylinder ∨ x = .mark) ∧ ∀ x ∈ b, x = .cylinder ∨ x = .mark := by
    decide
  obtain ⟨g, m, e⟩ := o
  cases h
  exact ⟨_, _, hall g m⟩

theorem takeFrame_last (codes : PerChannel RawCode) (levels : PerLine Level) {order : FrameOrder}
    (h : order.evaluationAt = 3) (s : State) : ∃ a b,
    let work := fun (l : List FrameTask) u =>
      l.foldl (fun u x => performTask (isMark s.iau.lines (acquire codes levels s)) x u) u
    takeFrame codes levels order s = evaluate (work b (judgeGrip (work a (acquire codes levels s))))
      ∧ (∀ x ∈ a, x = .cylinder ∨ x = .mark) ∧ ∀ x ∈ b, x = .cylinder ∨ x = .mark := by
  obtain ⟨a, b, hl, ha, hb⟩ := orderedTasks_last h
  refine ⟨a, b, ?_, ha, hb⟩
  unfold takeFrame
  dsimp only
  rw [hl, List.foldl_append, List.foldl_cons, List.foldl_append]
  rfl

/-! ## The stage while a frame's other tasks are done -/

/-- The tip source stands, with the lift not on the cylinder and its window open, and MLM as it was. -/
structure TipHeld (m : Mlm) (s : State) : Prop where
  available : available s .tip = true
  source : s.wen.source = .tip
  lift : s.wen.liftSource ≠ some .cylinder
  window : ∀ w : Window, s.wen.liftWindow = some w → w.count < w.size
  mlm : s.mlm = m

theorem cylinderFrame_held {m : Mlm} (h : TipHeld m s) :
    TipHeld m (cylinderFrame s) ∧ (cylinderFrame s).ltr = s.ltr := by
  obtain ⟨f, p, hs⟩ := sampledCylinder_onTip h.source h.available h.lift fun _ => h.window
  have hm := cylinderFrame_measured s
  have hmlm : (cylinderFrame s).mlm = (sampledCylinder s).mlm := by rw [hm.eq]
  have ha : Machine.available (cylinderFrame s) .tip = Machine.available s .tip := by
    rw [hm.available, hs]
    rfl
  obtain ⟨hw, hl⟩ := hm.window
  obtain ⟨-, -, hsrc, -⟩ := hm.figures
  have hltr := hm.ltr
  rw [hs] at hw hl hsrc hltr hmlm
  exact ⟨⟨ha.trans h.available, hsrc.trans h.source, by rw [hl]; exact h.lift, by rw [hw]; exact h.window,
    hmlm.trans h.mlm⟩, hltr⟩

theorem mark_held {m : Mlm} {b : Bool} (h : TipHeld m s) :
    TipHeld m (performTask b .mark s) ∧ (performTask b .mark s).ltr = s.ltr := by
  have hr := rests_mark b s
  have ha : Machine.available (performTask b .mark s) .tip = Machine.available s .tip := by
    simp [Machine.available, hr.wen, hr.live .tipStuck nofun]
  have hm : (performTask b .mark s).mlm = s.mlm := by
    unfold performTask
    dsimp only
    split <;> simp
  exact ⟨⟨ha.trans h.available, by rw [hr.wen, h.source], by rw [hr.wen]; exact h.lift,
    by rw [hr.wen]; exact h.window, hm.trans h.mlm⟩, hr.ltr⟩

theorem tasks_held {m : Mlm} {b : Bool} (l : List FrameTask) (hl : ∀ x ∈ l, x = .cylinder ∨ x = .mark)
    (h : TipHeld m s) : TipHeld m (l.foldl (fun u x => performTask b x u) s)
      ∧ (l.foldl (fun u x => performTask b x u) s).ltr = s.ltr := by
  induction l generalizing s with
  | nil => exact ⟨h, rfl⟩
  | cons x l ih =>
    obtain ⟨hx, hr⟩ := List.forall_mem_cons.1 hl
    have hstep : TipHeld m (performTask b x s) ∧ (performTask b x s).ltr = s.ltr := by
      rcases hx with rfl | rfl
      · exact cylinderFrame_held h
      · exact mark_held h
    obtain ⟨h1, h2⟩ := ih hr hstep.1
    exact ⟨h1, h2.trans hstep.2⟩

/-- A grip sample with no qualification under way starts one at most (R90). -/
theorem judgeGrip_unstamped (hg : s.ltr.gripStart = none) (hr : s.ltr.releaseStart = none) :
    ∃ a b, judgeGrip s = { s with ltr := { s.ltr with gripStart := a, releaseStart := b } } := by
  unfold judgeGrip
  dsimp only
  split
  · rw [if_neg (by rw [hr, qualify_none]; nofun)]
    exact ⟨s.ltr.gripStart, _, rfl⟩
  · rw [if_neg (by rw [hg, qualify_none]; nofun)]
    exact ⟨_, s.ltr.releaseStart, rfl⟩

theorem judgeGrip_held {m : Mlm} (h : TipHeld m s) (hg : s.ltr.gripStart = none) (hr : s.ltr.releaseStart = none) :
    TipHeld m (judgeGrip s) := by
  obtain ⟨a, b, he⟩ := judgeGrip_unstamped hg hr
  rw [he]
  exact ⟨h.available, h.source, h.lift, h.window, h.mlm⟩

theorem acquire_held (codes : PerChannel RawCode) (levels : PerLine Level) {m : Mlm} (h : TipHeld m s) :
    TipHeld m (acquire codes levels s) ∧ (acquire codes levels s).ltr = s.ltr := by
  have hb : Begun s (acquire codes levels s) := begun_acquire codes levels (.refl false _)
  exact ⟨⟨hb.available_tip.trans h.available, by rw [hb.wen, h.source], by rw [hb.wen]; exact h.lift,
    by rw [hb.wen]; exact h.window, by simpa using h.mlm⟩, hb.ltr⟩

/-! ## A sample -/

/-- The evaluation at the live-estimate update stands through the last step of a sample. -/
theorem tipSample_evaluated {x : TipSample} (h : s.wen.source = .tip) :
    (tipSample x s).evaluated (judgeLive (completeWindow (countedTip x s))).mlm.stage := by
  rw [tipSample_eq h]
  exact (evaluate_evaluated (judgeLive (completeWindow (countedTip x s)))).congr rfl rfl rfl rfl rfl rfl rfl rfl rfl
    rfl rfl rfl

/-- Outside LIFTED, with neither LIFT-OFF nor DROP under way, no other evaluation goes before it. -/
theorem countedTip_stage {x : TipSample} (h : s.wen.source = .tip) (ha : available s .tip = true)
    (ho : s.ltr.liftOffStart = none) (hd : s.ltr.dropStart = none) (hx : s.ltr.state ≠ .lifted) :
    (judgeLive (completeWindow (countedTip x s))).mlm = s.mlm := by
  have hc := countedTip_counted x h ha
  have hl : (countedTip x s).ltr = s.ltr := hc.ltr hx
  rw [completeWindow_other (by rw [hl]; exact hx)]
  obtain ⟨a, b, hj⟩ := judgeLive_quiet (s := countedTip x s) (fun _ => by rw [hl, ho]) (fun _ => by rw [hl, hd])
  rw [hj]
  exact hc.mlm

/-- Settles O39: each command ends with `evaluate`, or with steps that leave its inputs. -/
theorem evaluationsFollowTheirInputs : Obligations.EvaluationsFollowTheirInputs := by
  refine ⟨fun codes levels order s hp he => ?_, fun s r c a g x hp hl hr hs ht hu => ?_, fun s hs hf hw => ?_⟩
  · obtain ⟨a, b, hframe, ha, hb⟩ := takeFrame_last codes levels he s
    dsimp only at hframe
    obtain ⟨hfig, hlim⟩ := evaluate_evaluated _
    refine ⟨_, _, (exec_acquisitionFrame codes levels order hp).trans (congrArg _ hframe), hfig, hlim,
      fun hs ht hc hw hg hr => ?_⟩
    have h0 : TipHeld s.mlm s := ⟨judgedSource_tip.1 (hs.1.symm.trans ht), ht, hc, hw, rfl⟩
    obtain ⟨h1, k1⟩ := acquire_held codes levels h0
    obtain ⟨h2, k2⟩ := tasks_held a ha h1
    have h3 := judgeGrip_held h2 (by rw [k2, k1, hg]) (by rw [k2, k1, hr])
    exact congrArg Mlm.stage (tasks_held b hb h3).1.mlm
  · have ha := judgedSource_tip.1 (hs.1.symm.trans ht)
    obtain ⟨hfig, hlim⟩ := tipSample_evaluated (x := tipSampleOf c a g x) (s := onTip r (tipSampleOf c a g x) s) ht
    exact ⟨_, _, exec_onTip hp hl hr hs ht hu, hfig, hlim, fun ho hd hx =>
      congrArg Mlm.stage (countedTip_stage (s := onTip r (tipSampleOf c a g x) s) ht (onTip_available ha) ho hd hx)⟩
  · obtain ⟨-, -, h⟩ := profileRestore_and_freeze s hs
    obtain ⟨b, ⟨hfig, hlim⟩, hb⟩ := handProfile_evaluated { s.replied 0x52 .accepted [] with
      sto := { s.sto with working := .factory } }
    exact ⟨_, b, (h hf hw).1, hfig, hlim, hb⟩

end Sys2Proof.Machine
end

section
/-! PROOF. The steps around a capture in flight that leave it, the calibration and LOG (R74, R75), and what a
completion leaves (R74). -/

namespace Sys2Proof.Machine

variable {s t u v : State} {m : Bool}

/-! ## Steps that leave a capture in flight -/

/-- A step that leaves the calibration, a capture and the valves, and LOG where no mark is taken, and sends n frames
at most. -/
structure Calm (m : Bool) (n : Nat) (s t : State) : Prop where
  calibration : t.wen.calibration = s.wen.calibration
  settings : t.wen.settings = s.wen.settings
  zeroOffset : t.wen.zeroOffset = s.wen.zeroOffset
  capture : t.wen.capture = s.wen.capture
  steady : Steady s t
  log : m = false → t.log = s.log
  zeroDrift : t.clp.isLive .zeroDrift = s.clp.isLive .zeroDrift
  queued : Queued n s t

theorem Queued.still (h : t.clp = s.clp) : Queued 0 s t := ⟨[], by rw [h, List.append_nil], Nat.le_refl 0⟩

theorem Queued.mono {k n : Nat} (h : Queued k s t) (hn : k ≤ n) : Queued n s t := by
  obtain ⟨e, he, hk⟩ := h
  exact ⟨e, he, hk.trans hn⟩

theorem Calm.refl (m : Bool) (s : State) : Calm m 0 s s :=
  ⟨rfl, rfl, rfl, rfl, .refl, fun _ => rfl, rfl, .still rfl⟩

theorem Calm.mono {k n : Nat} (h : Calm m k s t) (hn : k ≤ n) : Calm m n s t :=
  { h with queued := h.queued.mono hn }

theorem Calm.trans {k n : Nat} (h : Calm m k s t) (g : Calm m n t u) : Calm m (k + n) s u :=
  ⟨g.calibration.trans h.calibration, g.settings.trans h.settings, g.zeroOffset.trans h.zeroOffset,
    g.capture.trans h.capture, h.steady.trans g.steady, fun x => (g.log x).trans (h.log x),
    g.zeroDrift.trans h.zeroDrift, h.queued.trans g.queued⟩

/-- A step of WEN beside the calibration, the offset and a capture. -/
theorem calm_of_wen {w : Wen} (m : Bool) (s : State) (hc : w.calibration = s.wen.calibration)
    (hs : w.settings = s.wen.settings) (hz : w.zeroOffset = s.wen.zeroOffset) (hk : w.capture = s.wen.capture) :
    Calm m 0 s { s with wen := w } :=
  ⟨hc, hs, hz, hk, .refl, fun _ => rfl, rfl, .still rfl⟩

theorem calm_of_ltr (m : Bool) (l : Ltr) (s : State) : Calm m 0 s { s with ltr := l } :=
  ⟨rfl, rfl, rfl, rfl, .refl, fun _ => rfl, rfl, .still rfl⟩

theorem calm_setLive (m : Bool) {d : Condition} (v : Bool) (hd : d ≠ .zeroDrift) (s : State) :
    Calm m 1 s (setLive d v s) :=
  ⟨rfl, rfl, rfl, rfl, .refl, fun _ => rfl, setLive_other d .zeroDrift hd, queued_setLive d v s⟩

theorem calm_evaluate (m : Bool) (s : State) : Calm m 1 s (evaluate s) :=
  ⟨rfl, rfl, rfl, rfl, .refl, fun _ => rfl, evaluate_isLive s nofun, Clp.setLive_extends s.clp .limitHold _⟩

theorem calm_judgeLiftSource (m : Bool) (s : State) : Calm m 0 s (judgeLiftSource s) := by
  have hw : s.wen.Same (judgeLiftSource s).wen := same_judgeLiftSource (.refl _)
  have hk : (judgeLiftSource s).wen.capture = s.wen.capture := by
    unfold judgeLiftSource takeDowngrade
    repeat' split
    all_goals rfl
  exact ⟨hw.calibration, hw.settings, hw.zeroOffset, hk, ⟨by simp, by simp, by simp⟩, fun _ => by simp, by simp,
    .still (by simp)⟩

/-- The sources judged: two evaluations at most (R65). -/
theorem calm_rejudgeSources (m : Bool) (s : State) : Calm m 2 s (rejudgeSources s) := by
  unfold rejudgeSources
  split
  · exact ((Calm.refl m s).trans (calm_judgeLiftSource m s)).mono (Nat.zero_le 2)
  · rw [changeSource_eq]
    have h1 : Calm m 1 s (evaluate (sourced (judgedSource s) s)) :=
      ((calm_of_wen (w := (sourced (judgedSource s) s).wen) m s rfl rfl rfl rfl).trans
        (calm_evaluate m (sourced (judgedSource s) s))).mono (Nat.le_refl 1)
    have h2 := (h1.trans (calm_of_ltr m s.ltr.unestimated _)).trans (calm_evaluate m _)
    exact h2.trans (calm_judgeLiftSource m _)

/-! ## Qualifications that are not under way -/

/-- Neither LIFT-OFF nor DROP is under way. -/
def Ltr.quiet (l : Ltr) : Prop := l.liftOffStart = none ∧ l.dropStart = none

theorem Ltr.quiet.unestimated {l : Ltr} (h : l.quiet) : l.unestimated = l := by
  obtain ⟨ho, hd⟩ := h
  cases l
  subst ho hd
  unfold Ltr.unestimated
  split <;> rfl

theorem rejudgeSources_quiet (h : s.ltr.quiet) : ∃ x, (rejudgeSources s).ltr = { s.ltr with source := x } := by
  unfold rejudgeSources
  split
  · exact ⟨_, judgeLiftSource_ltr s⟩
  · have hl : (changeSource (judgedSource s) s).ltr = s.ltr := by
      rw [changeSource_eq]
      exact h.unestimated
    exact ⟨_, (judgeLiftSource_ltr _).trans (by rw [hl])⟩

theorem Ltr.quiet.enter {l : Ltr} (h : l.quiet) (x : LiftState) : (l.enter x).quiet := by
  refine ⟨rfl, ?_⟩
  show (if _ then l.dropStart else none) = none
  rw [h.2, ite_self]

/-- A live-estimate update that takes no event (R88). -/
theorem calm_handLiveUpdate (m : Bool) (h : s.ltr.quiet) : Calm m 1 s (handLiveUpdate s) := by
  obtain ⟨a, b, hj⟩ := judgeLive_quiet (s := s) (fun _ => h.1) (fun _ => h.2)
  have he : handLiveUpdate s = evaluate (judgeLive s) := rfl
  rw [he, hj]
  exact ((calm_of_ltr m _ s).trans (calm_evaluate m _)).mono (Nat.le_refl 1)

/-- A change from LIFTED to WEIGHED breaks no capture in flight (R76, R78). -/
def State.unbroken (s : State) : Prop :=
  s.ltr.state = .lifted → ∀ c, s.wen.capture = some c → c.kind ≠ .zero ∧ c.kind ≠ .cylEmpty

theorem not_capturing_of_unbroken (h : s.unbroken) (hx : s.ltr.state = .lifted) :
    capturing [.zero, .cylEmpty] s = false := by
  unfold capturing
  split
  · rfl
  · next c hc =>
    obtain ⟨h1, h2⟩ := h hx c hc
    simp [h1, h2]

theorem calm_completeWindow (m : Bool) (h : s.unbroken) : Calm m 1 s (completeWindow s) := by
  unfold completeWindow
  split
  · next w hx _ =>
    split
    · generalize hr : ({ s.ltr with result := some (weighedResult s.wen w.source w.mean
        (w.quality s.wen.settings.spread)) } : Ltr) = l
      have hn : abortCaptures (brokenBy .weighed)
          { s with ltr := l.enter .weighed, wen := s.wen.onLiftState .weighed }
          = { s with ltr := l.enter .weighed, wen := s.wen.onLiftState .weighed } :=
        if_neg (by
          have hk : capturing (brokenBy .weighed)
              { s with ltr := l.enter .weighed, wen := s.wen.onLiftState .weighed }
              = capturing [.zero, .cylEmpty] s := rfl
          rw [hk, not_capturing_of_unbroken h hx]
          nofun)
      have he : enterState .weighed { s with ltr := l }
          = evaluate { s with ltr := l.enter .weighed, wen := s.wen.onLiftState .weighed } :=
        congrArg evaluate hn
      rw [he]
      have hw : Calm m 0 s { s with ltr := l.enter .weighed, wen := s.wen.onLiftState .weighed } :=
        ⟨rfl, rfl, rfl, rfl, .refl, fun _ => rfl, rfl, .still rfl⟩
      exact (hw.trans (calm_evaluate m _)).mono (Nat.le_refl 1)
    · exact (Calm.refl m s).mono (Nat.zero_le 1)
  · exact (Calm.refl m s).mono (Nat.zero_le 1)

theorem completeWindow_quiet (h : s.ltr.quiet) : (completeWindow s).ltr.quiet := by
  unfold completeWindow
  split
  · split
    · rw [enterState_ltr]
      exact Ltr.quiet.enter h .weighed
    · exact h
  · exact h

theorem calm_handIf (m b : Bool) (h : s.ltr.quiet) : Calm m 1 s (handIf b s) := by
  unfold handIf
  split
  · exact calm_handLiveUpdate m h
  · exact (Calm.refl m s).mono (Nat.zero_le 1)

theorem calm_feedIf (m b : Bool) (x : Int) (s : State) : Calm m 0 s (feedIf b x s) := by
  unfold feedIf
  split
  · exact calm_of_wen m s rfl rfl rfl rfl
  · exact .refl m s

/-! ## The steps of a sample around its capture (R59, R64) -/

theorem calm_rememberTip (m : Bool) (x : TipSample) (y : Int) (s : State) : Calm m 0 s (rememberTip x y s) :=
  ⟨rfl, rfl, rfl, rfl, .refl, fun _ => rfl, rfl, .still rfl⟩

theorem calm_previousCylinder (m : Bool) (x : Option Int) (s : State) :
    Calm m 0 s { s with wen := { s.wen with previousCylinder := x } } :=
  ⟨rfl, rfl, rfl, rfl, .refl, fun _ => rfl, rfl, .still rfl⟩

theorem calm_emptyHistory (m : Bool) (s : State) : Calm m 0 s { s with wen := s.wen.emptyHistory } :=
  ⟨rfl, rfl, rfl, rfl, .refl, fun _ => rfl, rfl, .still rfl⟩

/-- The steps of a tip sample behind the capture. -/
theorem calm_afterCapture (b : Bool) (x : TipSample) (y : Int) (hu : s.unbroken) (hq : s.ltr.quiet) :
    Calm false 2 s (rememberTip x y (handIf b (completeWindow s))) :=
  ((calm_completeWindow false hu).trans (calm_handIf false b (completeWindow_quiet hq))).trans
    (calm_rememberTip false x y _)

/-- With no empty window open the gates fill a window at most. -/
theorem gateTip_windows {x : TipSample} {y : Int} (h : s.wen.emptyWindow = none) :
    ∃ e w, gateTip x y s = { s with wen := { s.wen with emptyWindow := e, liftWindow := w } } := by
  have hl (s : State) : ∃ w, feedLiftWindow .tip y s = { s with wen := { s.wen with liftWindow := w } } := by
    unfold feedLiftWindow
    split
    · exact ⟨_, rfl⟩
    · exact ⟨s.wen.liftWindow, rfl⟩
  have he {s : State} (h : s.wen.emptyWindow = none) :
      ∃ e, feedEmptyWindow y s = { s with wen := { s.wen with emptyWindow := e } } := by
    unfold feedEmptyWindow
    dsimp only
    rw [h]
    split
    · rw [if_neg (by simp [Window.complete, Window.add, Window.opened, emptyWindowSize])]
      exact ⟨_, rfl⟩
    · exact ⟨s.wen.emptyWindow, rfl⟩
  unfold gateTip
  split
  · obtain ⟨w, hw⟩ := hl s
    obtain ⟨e, hew⟩ := he (s := feedLiftWindow .tip y s) (by rw [hw]; exact h)
    rw [hew, hw]
    exact ⟨e, w, rfl⟩
  · exact ⟨s.wen.emptyWindow, s.wen.liftWindow, rfl⟩

theorem calm_noCylinderSample (m : Bool) (hq : s.ltr.quiet) : Calm m 1 s (noCylinderSample s) := by
  have h := calm_previousCylinder m none s
  have he := (calm_emptyHistory m { s with wen := { s.wen with previousCylinder := none } }).trans
    (calm_handLiveUpdate m hq)
  unfold noCylinderSample
  dsimp only
  split
  · exact (h.trans he).mono (Nat.le_refl 1)
  · exact h.mono (Nat.zero_le 1)

theorem calm_takeCylinderSample (m : Bool) (x : Int) (hu : s.unbroken) (hq : s.ltr.quiet) :
    Calm m 2 s (takeCylinderSample x s) := by
  have hf : ∃ w, gateCylinder x (feedIf (s.wen.source == .cylinder) x s) = { s with wen := w }
      ∧ w.calibration = s.wen.calibration ∧ w.settings = s.wen.settings ∧ w.zeroOffset = s.wen.zeroOffset
      ∧ w.capture = s.wen.capture := by
    unfold gateCylinder feedLiftWindow feedIf
    repeat' split
    all_goals exact ⟨_, rfl, rfl, rfl, rfl, rfl⟩
  obtain ⟨w, hg, h2, h3, h4, h5⟩ := hf
  have hw := calm_of_wen m s h2 h3 h4 h5
  have hub : State.unbroken { s with wen := w } := fun k c hc => hu k c (h5.symm.trans hc)
  have hqb : (completeWindow { s with wen := w }).ltr.quiet := completeWindow_quiet (s := { s with wen := w }) hq
  unfold takeCylinderSample
  dsimp only
  rw [hg]
  exact ((hw.trans (calm_completeWindow m hub)).trans (calm_handIf m _ hqb)).trans
    (calm_previousCylinder m (some x) _)

/-- The steps of a frame's cylinder sample, in front of the capture. -/
theorem calm_heldForce (m : Bool) (o : Option CylinderForce) (hu : s.unbroken) (hq : s.ltr.quiet) :
    Calm m 2 s (heldForce o s) := by
  have h : Calm m 0 s { s with wen := { s.wen with frameForce := o } } :=
    ⟨rfl, rfl, rfl, rfl, .refl, fun _ => rfl, rfl, .still rfl⟩
  have hn := (h.trans (calm_noCylinderSample m (s := { s with wen := { s.wen with frameForce := o } }) hq)).mono
    (Nat.le_succ 1)
  have ht (x : Int) := (h.trans (calm_takeCylinderSample m x
    (s := { s with wen := { s.wen with frameForce := o } }) hu hq)).mono (Nat.le_refl 2)
  unfold heldForce
  dsimp only
  split
  · exact hn
  · split
    · exact ht _
    · exact hn

/-! ## What ends a capture (R74) -/

/-- A capture has ended: the calibration as it then stands, and the notice sent. -/
structure Ended (cal : Calibration) (n : Notice) (t : State) : Prop where
  calibration : t.wen.calibration = cal
  capture : t.wen.capture = none
  notice : .notice n ∈ t.clp.queue

theorem Ended.calm {cal : Calibration} {n : Notice} {k : Nat} (h : Ended cal n t) (g : Calm m k t u) : Ended cal n u :=
  ⟨g.calibration.trans h.calibration, g.capture.trans h.capture, g.queued.mem h.notice⟩

theorem failCapture_ended {c : Capture} {r : CaptureReason} (h : s.wen.capture = some c) (hq : s.clp.queue.length ≤ 31) :
    Ended s.wen.calibration (.calFailed c.kind r) (failCapture r s) := by
  refine ⟨rfl, rfl, ?_⟩
  have he : (failCapture r s).clp = (notify (.calFailed c.kind r) s).clp := by
    unfold failCapture
    rw [h]
    rfl
  rw [he]
  exact mem_notify rfl (by omega)

/-- A completion as LOG and CLP are passed it. -/
def passed (c : Capture) (n : CalName) (x y : Int) (b : State) : State :=
  notify (.calDone c.kind c.band y) (record (.cal ⟨n, c.band, x, y⟩) b)

theorem queued_record (p : EntryPart) (s : State) : Queued 1 s (record p s) := by
  by_cases h : (s.log.enables.governs p && s.log.ring.isEmpty) = true
  · have he : (record p s).clp = s.clp.send (.logPending s.log.nextSequence) := if_pos h
    unfold Queued
    rw [he]
    exact Clp.send_extends s.clp rfl
  · exact (Queued.still (if_neg h)).mono (Nat.zero_le 1)

variable {c : Capture} {n : CalName} {x y : Int} {cal : Calibration}

theorem passed_ended (hc : u.wen.calibration = cal) (hk : u.wen.capture = none) (hq : u.clp.queue.length ≤ 30) :
    Ended cal (.calDone c.kind c.band y) (passed c n x y u) := by
  have hl := (queued_record (.cal ⟨n, c.band, x, y⟩) u).length_le
  exact ⟨by simp [passed, hc], by simp [passed, hk], mem_notify rfl (by omega)⟩

theorem passed_entry (h : u.log.enables.system = true) : ∃ e, (passed c n x y u).log.ring.getLast? = some e
    ∧ e.time = u.log.clock ∧ e.part = .cal ⟨n, c.band, x, y⟩ := by
  obtain ⟨e, h1, h2, h3⟩ := record_last (p := .cal ⟨n, c.band, x, y⟩) h
  exact ⟨e, h1, h3, h2⟩

/-- The state that a completion passes on: calibration replaced, NO_CAL and the sources judged (R58, R65). -/
def recalibrated (cal : Calibration) (s : State) : State :=
  rejudgeSources (judgeNoCal { s with wen := { s.wen with calibration := cal, capture := none } })

theorem finishCapture_passed (s : State) : finishCapture c n x y cal s = passed c n x y (recalibrated cal s) := rfl

theorem calm_judged (m : Bool) (s : State) : Calm m 3 s (rejudgeSources (judgeNoCal s)) :=
  (calm_setLive m (!s.wen.calibration.tipValid) (show Condition.noCal ≠ .zeroDrift from nofun) s).trans
    (calm_rejudgeSources m (judgeNoCal s))

theorem calm_recalibrated (s : State) :
    Calm m 3 { s with wen := { s.wen with calibration := cal, capture := none } } (recalibrated cal s) :=
  calm_judged m _

theorem finishCapture_ended (hq : s.clp.queue.length ≤ 27) :
    Ended cal (.calDone c.kind c.band y) (finishCapture c n x y cal s) := by
  have h : Calm false 3 { s with wen := { s.wen with calibration := cal, capture := none } } (recalibrated cal s) :=
    calm_recalibrated s
  rw [finishCapture_passed]
  have hl : (recalibrated cal s).clp.queue.length ≤ s.clp.queue.length + 3 := h.queued.length_le
  exact passed_ended h.calibration h.capture (by omega)

theorem finishCapture_entry (h : s.log.enables.system = true) :
    ∃ e, (finishCapture c n x y cal s).log.ring.getLast? = some e ∧ e.time = s.log.clock
      ∧ e.part = .cal ⟨n, c.band, x, y⟩ := by
  have hs : Calm false 3 { s with wen := { s.wen with calibration := cal, capture := none } } (recalibrated cal s) :=
    calm_recalibrated s
  have hlog : (recalibrated cal s).log = s.log := hs.log rfl
  obtain ⟨e, h1, h2, h3⟩ := passed_entry (c := c) (n := n) (x := x) (y := y) (u := recalibrated cal s) (by rw [hlog, h])
  exact ⟨e, h1, h2.trans (by rw [hlog]), h3⟩

/-- Where the sources stand, fewer frames are sent. -/
theorem finishCapture_ended_settled (h : s.settled) (hv : cal.tipValid = s.wen.calibration.tipValid)
    (hq : s.clp.queue.length ≤ 29) : Ended cal (.calDone c.kind c.band y) (finishCapture c n x y cal s) := by
  rw [finishCapture_eq h hv]
  have hl : (judgeNoCal { s with wen := { s.wen with calibration := cal, capture := none } }).clp.queue.length
      ≤ s.clp.queue.length + 1 := (queued_setLive .noCal _ _).length_le
  exact passed_ended rfl rfl (by omega)

/-- What a completion leaves of the offset and of LTR's qualifications. -/
theorem finishCapture_leaves (h : s.ltr.quiet) : (finishCapture c n x y cal s).wen.zeroOffset = s.wen.zeroOffset
    ∧ (finishCapture c n x y cal s).clp.isLive .zeroDrift = s.clp.isLive .zeroDrift
    ∧ (finishCapture c n x y cal s).ltr.quiet := by
  have hs : Calm false 3 { s with wen := { s.wen with calibration := cal, capture := none } } (recalibrated cal s) :=
    calm_recalibrated s
  have hr : Reports (fun _ => False) (recalibrated cal s).clp (passed c n x y (recalibrated cal s)).clp :=
    reports_notify (reports_record .refl)
  obtain ⟨z, hl⟩ := rejudgeSources_quiet
    (s := judgeNoCal { s with wen := { s.wen with calibration := cal, capture := none } }) h
  rw [finishCapture_passed]
  refine ⟨?_, (hr.isLive .zeroDrift id).trans hs.zeroDrift, ?_⟩
  · have : (passed c n x y (recalibrated cal s)).wen = (recalibrated cal s).wen := by simp [passed]
    rw [this]
    exact hs.zeroOffset
  · have : (passed c n x y (recalibrated cal s)).ltr = (recalibrated cal s).ltr := by simp [passed]
    rw [this, show (recalibrated cal s).ltr = _ from hl]
    exact h

end Sys2Proof.Machine
end

section
/-! PROOF. The 32nd raw count of a tip capture (R75 to R77). -/

namespace Sys2Proof.Machine

variable {s t u v : State} {k : Capture}

/-! ## The steps in front of the capture -/

/-- The module as a tip sample's raw count meets the capture (steps 1 to 4 of R59). -/
def gated (x : TipSample) (s : State) : State :=
  gateTip x (correctedValue s.wen x) (feedIf (s.wen.source == .tip) (correctedValue s.wen x)
    (setLive .tipOverrange x.overrange s))

theorem tipSample_gated (x : TipSample) (s : State) : tipSample x s = rememberTip x (correctedValue s.wen x)
    (handIf (s.wen.source == .tip) (completeWindow (countTip x (gated x s)))) := rfl

/-- A step that leaves a capture, LTR and what the capture gates read. -/
structure Fronts (n : Nat) (s t : State) : Prop where
  calm : Calm false n s t
  ltr : t.ltr = s.ltr
  previousCount : t.wen.previousCount = s.wen.previousCount

theorem fronts_linked (new : Tlc) (s : State) : Fronts 2 s (linked new s) := by
  generalize hu : ({ s with tlc := new.leaveUp s.tlc.link } : State) = u
  have h : Calm false 0 s u ∧ u.ltr = s.ltr ∧ u.wen.previousCount = s.wen.previousCount := by
    rw [← hu]
    exact ⟨⟨rfl, rfl, rfl, rfl, .refl, fun _ => rfl, rfl, .still rfl⟩, rfl, rfl⟩
  have he : linked new s = setLive .tipFailed (new.link == .failed) (setLive .tipDown (new.link != .up) u) := by
    rw [← hu]
    rfl
  rw [he]
  exact ⟨((h.1.trans (calm_setLive false _ (show Condition.tipDown ≠ .zeroDrift from nofun) u)).trans
    (calm_setLive false _ (show Condition.tipFailed ≠ .zeroDrift from nofun) _)).mono (Nat.le_refl 2), h.2.1, h.2.2⟩

theorem fronts_gated (x : TipSample) (h : s.wen.emptyWindow = none) : Fronts 1 s (gated x s) := by
  have ho := calm_setLive false x.overrange (show Condition.tipOverrange ≠ .zeroDrift from nofun) s
  have hf : ∀ u : State, ∃ w : Wen, feedIf (s.wen.source == .tip) (correctedValue s.wen x) u = { u with wen := w }
      ∧ w.emptyWindow = u.wen.emptyWindow ∧ w.previousCount = u.wen.previousCount := by
    intro u
    unfold feedIf
    split
    · exact ⟨_, rfl, rfl, rfl⟩
    · exact ⟨u.wen, rfl, rfl, rfl⟩
  obtain ⟨w, hw, h1, h2⟩ := hf (setLive .tipOverrange x.overrange s)
  have hc := ho.trans (calm_feedIf false (s.wen.source == .tip) (correctedValue s.wen x) _)
  unfold gated
  generalize hm : feedIf (s.wen.source == .tip) (correctedValue s.wen x) (setLive .tipOverrange x.overrange s) = m at *
  have hml : m.ltr = s.ltr ∧ m.wen.previousCount = s.wen.previousCount ∧ m.wen.emptyWindow = none := by
    rw [hw]
    exact ⟨rfl, h2, h1.trans h⟩
  obtain ⟨e, lw, hg⟩ := gateTip_windows (s := m) (x := x) (y := correctedValue s.wen x) hml.2.2
  rw [hg]
  have hw : Calm false 0 m { m with wen := { m.wen with emptyWindow := e, liftWindow := lw } } :=
    ⟨rfl, rfl, rfl, rfl, .refl, fun _ => rfl, rfl, .still rfl⟩
  exact ⟨(hc.trans hw).mono (Nat.le_refl 1), hml.1, hml.2.1⟩

theorem Fronts.trans {j n : Nat} (h : Fronts j s t) (g : Fronts n t u) : Fronts (j + n) s u :=
  ⟨h.calm.trans g.calm, g.ltr.trans h.ltr, g.previousCount.trans h.previousCount⟩

/-- An in-order frame while TIP_STUCK is not live, whatever the current source. -/
theorem exec_counts {r : Byte} {c a : BitVec 16} {g x : Byte} (hp : s.powered = true) (hl : s.tlc.link = .up)
    (hr : s.tlc.sequenceRef = some r) (hk : s.clp.isLive .tipStuck = false) (hu : s.unstuckBy c)
    (he : s.wen.emptyWindow = none) : ∃ u b y, exec (.dataFrame (r + 1) c a g x) s
      = .next (rememberTip (tipSampleOf c a g x) y (handIf b (completeWindow (countTip (tipSampleOf c a g x) u))))
      ∧ Fronts 3 s u := by
  have h := exec_inOrder (c := c) (a := a) (g := g) (x := x) hp hl hr
  rw [received_unstuck hl hk hu, tipSample_gated] at h
  exact ⟨_, _, _, h, (fronts_linked _ s).trans (fronts_gated _ he)⟩

/-! ## The capture gates and the 32nd count (R75) -/

theorem countAccepted_iff {w : Wen} {c a : BitVec 16} {g x : Byte} {n : Nat} (h : w.previousCount = some n) :
    countAccepted w (tipSampleOf c a g x) = true ↔ min a.toNat 900 ≤ w.settings.swing ∧ x.getLsbD 0 = false
      ∧ ((c.toNat : Int) - n).natAbs ≤ w.settings.jitter := by
  simp [countAccepted, tipSampleOf, h, within, and_assoc]

theorem countTip_refused {x : TipSample} (h : countAccepted s.wen x = false) : countTip x s = s :=
  if_neg (by rw [h]; nofun)

/-- A capture as its 32nd value joins it. -/
def Capture.filled (k : Capture) (x : Int) : Capture := { k with count := k.count + 1, sum := k.sum + x }

theorem captureTake_full {x : Int} (h : k.count = 31) : captureTake k x s = finish (k.filled x) s :=
  if_pos (by
    show captureSize ≤ k.count + 1
    rw [h]
    exact Nat.le_refl 32)

/-- The mean of a full capture. -/
def Capture.mean (k : Capture) (x : Int) : Int := roundDiv (k.sum + x) captureSize

theorem Capture.mean_isRounded (k : Capture) (x : Int) : isRounded (k.sum + x) 32 (k.mean x) :=
  roundDiv_isRounded _ _ (by decide)

theorem countTip_zero {x : TipSample} (ha : countAccepted s.wen x = true) (hc : s.wen.capture = some k)
    (hk : k.kind = .zero) (hn : k.count = 31) : countTip x s = finishZero (k.filled x.force) (k.mean x.force) s := by
  unfold countTip captureTip
  rw [if_pos ha, hc]
  dsimp only
  rw [hk]
  exact (captureTake_full hn).trans (finish_zero hk)

theorem countTip_span {x : TipSample} (ha : countAccepted s.wen x = true) (hc : s.wen.capture = some k)
    (hk : k.kind = .span) (hn : k.count = 31) : countTip x s = finishSpan (k.filled x.force) (k.mean x.force) s := by
  unfold countTip captureTip
  rw [if_pos ha, hc]
  dsimp only
  rw [hk]
  exact (captureTake_full hn).trans (finish_span hk)

/-! ## The completions of CAL ZERO and CAL SPAN (R76, R77) -/

theorem finishZero_done {c : Capture} {m : Int} (hq : s.ltr.quiet) (hl : s.clp.queue.length ≤ 26) :
    Ended { s.wen.calibration with zero := m.toNat, zeroValid := true } (.calDone c.kind c.band m) (finishZero c m s)
      ∧ (finishZero c m s).wen.zeroOffset = 0 ∧ (finishZero c m s).clp.isLive .zeroDrift = false
      ∧ (finishZero c m s).ltr.quiet
      ∧ (s.log.enables.system = true → ∃ e, (finishZero c m s).log.ring.getLast? = some e
        ∧ e.part = .cal ⟨.z, c.band, s.wen.calibration.zero, m⟩) := by
  unfold finishZero
  dsimp only
  generalize hu : setLive .zeroDrift false { s with wen := { s.wen with zeroOffset := 0, emptyWindow := none } } = u
  have hfacts : u.clp.queue.length ≤ s.clp.queue.length + 1 ∧ u.ltr = s.ltr ∧ u.wen.zeroOffset = 0
      ∧ u.clp.isLive .zeroDrift = false ∧ u.log = s.log := by
    rw [← hu]
    exact ⟨(queued_setLive .zeroDrift false _).length_le, rfl, rfl, Clp.setLive_self _ _ _, rfl⟩
  obtain ⟨h1, h2, h3, h4, h5⟩ := hfacts
  obtain ⟨g1, g2, g3⟩ := finishCapture_leaves (c := c) (n := .z) (x := s.wen.calibration.zero) (y := m)
    (cal := { s.wen.calibration with zero := m.toNat, zeroValid := true }) (s := u) (by rw [h2]; exact hq)
  refine ⟨finishCapture_ended (by omega), g1.trans h3, g2.trans h4, g3, fun he => ?_⟩
  obtain ⟨e, e1, -, e3⟩ := finishCapture_entry (c := c) (n := .z) (x := s.wen.calibration.zero) (y := m)
    (cal := { s.wen.calibration with zero := m.toNat, zeroValid := true }) (s := u) (by rw [h5, he])
  exact ⟨e, e1, e3⟩

theorem finishSpan_small {c : Capture} {m : Int} (hk : s.wen.capture = some k) (hd : m - s.wen.calibration.zero < 1000)
    (hl : s.clp.queue.length ≤ 31) : Ended s.wen.calibration (.calFailed k.kind .smallSpan) (finishSpan c m s)
      ∧ (finishSpan c m s).log = s.log ∧ (finishSpan c m s).ltr = s.ltr := by
  have h : finishSpan c m s = failCapture .smallSpan s := if_pos hd
  rw [h]
  exact ⟨failCapture_ended hk hl, rfl, rfl⟩

theorem finishSpan_done {c : Capture} {m : Int} (hq : s.ltr.quiet) (hd : 1000 ≤ m - s.wen.calibration.zero)
    (hl : s.clp.queue.length ≤ 27) :
    let span := roundDiv ((c.mass + s.wen.calibration.tare) * 1024) (m - s.wen.calibration.zero)
    Ended { s.wen.calibration with span := span.toNat, spanValid := true } (.calDone c.kind c.band span)
        (finishSpan c m s) ∧ (finishSpan c m s).ltr.quiet
      ∧ (s.log.enables.system = true → ∃ e, (finishSpan c m s).log.ring.getLast? = some e
        ∧ e.part = .cal ⟨.s, c.band, s.wen.calibration.span, span⟩) := by
  intro span
  have h : finishSpan c m s = finishCapture c .s s.wen.calibration.span span
      { s.wen.calibration with span := span.toNat, spanValid := true }
      { s with wen := { s.wen with emptyWindow := none } } := if_neg (by omega)
  rw [h]
  refine ⟨finishCapture_ended hl, (finishCapture_leaves (s := { s with wen := { s.wen with emptyWindow := none } }) hq).2.2,
    fun he => ?_⟩
  obtain ⟨e, e1, -, e3⟩ := finishCapture_entry (c := c) (n := .s) (x := s.wen.calibration.span) (y := span)
    (cal := { s.wen.calibration with span := span.toNat, spanValid := true })
    (s := { s with wen := { s.wen with emptyWindow := none } }) he
  exact ⟨e, e1, e3⟩

theorem Ended.unbroken {cal : Calibration} {n : Notice} (h : Ended cal n t) : t.unbroken := fun _ c hc => by
  rw [h.capture] at hc
  cases hc

end Sys2Proof.Machine
end

section
/-! PROOF. The 32nd value of a capture completes it or fails it (R74 to R79). -/

namespace Sys2Proof.Machine

variable {s t u v : State} {m : Bool} {k : Capture}

/-! ## The tasks of a frame around the cylinder's (log 8) -/

theorem orderedTasks_length (o : FrameOrder) : (orderedTasks o).length = 4 := by
  have hall : ∀ g m e, (orderedTasks ⟨g, m, e⟩).length = 4 := by decide
  obtain ⟨g, m, e⟩ := o
  exact hall g m e

theorem calm_onlooker (x : FrameTask) (h : x.onlooker = true) (s : State) : Calm m 1 s (performTask m x s) := by
  cases x with
  | evaluation => exact calm_evaluate m s
  | mark =>
    cases m with
    | false => exact (Calm.refl false s).mono (Nat.zero_le 1)
    | true =>
      have hw : (performTask true .mark s).wen = s.wen := (rests_mark true s).wen
      exact ⟨by rw [hw], by rw [hw], by rw [hw], by rw [hw], (rests_mark true s).steady, nofun,
        (rests_mark true s).live .zeroDrift nofun, queued_record (.mark (markPart s)) s⟩
  | cylinder => cases h
  | grip => cases h

theorem calm_onlookers (l : List FrameTask) (h : l.all FrameTask.onlooker = true) (s : State) :
    Calm m l.length s (l.foldl (fun u x => performTask m x u) s) := by
  induction l generalizing s with
  | nil => exact .refl m s
  | cons x l ih =>
    rw [List.all_cons, Bool.and_eq_true] at h
    exact ((calm_onlooker x h.1 s).trans (ih h.2 _)).mono (Nat.le_of_eq (Nat.add_comm 1 l.length))

theorem calm_acquire (m : Bool) (codes : PerChannel RawCode) (levels : PerLine Level) (s : State) :
    Calm m 14 s (acquire codes levels s) := by
  have hr : Reports (fun d => d ≠ .zeroDrift) s.clp (acquire codes levels s).clp :=
    reports_acquire (fun _ => nofun) nofun .refl
  exact ⟨by simp, by simp, by simp, by simp, ⟨by simp, by simp, by simp⟩, fun _ => by simp,
    hr.isLive _ fun x => x rfl, queued_acquire codes levels s⟩

/-- A grip sample that takes no event. -/
theorem calm_of_grip {l : Ltr} (h : judgeGrip s = { s with ltr := l }) : Calm m 0 s (judgeGrip s) := by
  rw [h]
  exact calm_of_ltr m l s

/-- A grip sample behind the cylinder's work, with no qualification under way before it. -/
theorem judgeGrip_after (hg : v.ltr.gripStart = none) (hr : v.ltr.releaseStart = none) (hq : v.ltr.quiet)
    (hl : u.ltr = (cylinderFrame v).ltr) : ∃ l, judgeGrip u = { u with ltr := l } := by
  cases hx : v.ltr.state.inLift with
  | true =>
    obtain ⟨b, hb⟩ := judgeGrip_unreleased (s := u) (by rw [hl]; exact (cylinderFrame_inLift hx).1)
      (by rw [hl]; exact cylinderFrame_releaseStart hr)
    exact ⟨_, hb⟩
  | false =>
    obtain ⟨o, ho, -⟩ := cylinderFrame_unlifted hx fun _ => hq.1
    obtain ⟨a, b, hb⟩ := judgeGrip_unstamped (s := u) (by rw [hl, ho]; exact hg) (by rw [hl, ho]; exact hr)
    exact ⟨_, hb⟩

/-- The module `v` on which a frame from `s` to `t` does WEN's work on the cylinder. -/
structure AtCylinder (m : Bool) (s v t : State) : Prop where
  before : Calm m 16 s v
  quiet : v.ltr.quiet
  state : v.ltr.state = s.ltr.state
  wen : v.wen = s.wen
  after : ∃ n, Calm m n (cylinderFrame v) t
  windows : t.wen = (cylinderFrame v).wen

theorem takeFrame_atCylinder (codes : PerChannel RawCode) (levels : PerLine Level) (order : FrameOrder)
    (hg : s.ltr.gripStart = none) (hr : s.ltr.releaseStart = none) (hq : s.ltr.quiet) :
    ∃ v, AtCylinder (isMark s.iau.lines (acquire codes levels s)) s v (takeFrame codes levels order s) := by
  obtain ⟨a, b, c, ho, ha, hb, hc⟩ := orderedTasks_split order
  have hlen : a.length + b.length + c.length = 2 := by
    have h := orderedTasks_length order
    rw [ho] at h
    simp only [List.length_append, List.length_cons] at h
    omega
  generalize hm : isMark s.iau.lines (acquire codes levels s) = m
  have hframe : takeFrame codes levels order s = c.foldl (fun u x => performTask m x u) (performTask m (secondTask order)
      (b.foldl (fun u x => performTask m x u) (performTask m (firstTask order)
        (a.foldl (fun u x => performTask m x u) (acquire codes levels s))))) := by
    unfold takeFrame
    dsimp only
    rw [hm, ho, List.foldl_append, List.foldl_cons, List.foldl_append, List.foldl_cons]
  have hc0 := (calm_acquire m codes levels s).trans (calm_onlookers a ha (acquire codes levels s))
  have hb0 := begun_acquire codes levels (rests_onlookers (m := m) a ha (acquire codes levels s))
  rw [hframe]
  generalize a.foldl (fun u x => performTask m x u) (acquire codes levels s) = u at hc0 hb0
  cases hgf : order.gripFirst with
  | true =>
    have h1 : firstTask order = .grip := by simp [firstTask, hgf]
    have h2 : secondTask order = .cylinder := by simp [secondTask, hgf]
    rw [h1, h2]
    obtain ⟨x, y, hj⟩ := judgeGrip_unstamped (s := u) (by rw [hb0.ltr, hg]) (by rw [hb0.ltr, hr])
    have hk : performTask m .grip u = judgeGrip u := rfl
    rw [hk]
    have hrest := rests_onlookers (m := m) b hb (judgeGrip u)
    have hv := (hc0.trans (calm_of_grip (m := m) hj)).trans (calm_onlookers b hb (judgeGrip u))
    refine ⟨b.foldl (fun u x => performTask m x u) (judgeGrip u), hv.mono (by omega), ?_, ?_, ?_,
      ⟨_, calm_onlookers c hc _⟩, (rests_onlookers (m := m) c hc _).wen⟩
    · rw [hrest.ltr, hj]
      exact hb0.ltr ▸ hq
    · rw [hrest.ltr, hj]
      show u.ltr.state = s.ltr.state
      rw [hb0.ltr]
    · rw [hrest.wen, hj]
      exact hb0.wen
  | false =>
    have h1 : firstTask order = .cylinder := by simp [firstTask, hgf]
    have h2 : secondTask order = .grip := by simp [secondTask, hgf]
    rw [h1, h2]
    have hk : performTask m .cylinder u = cylinderFrame u := rfl
    rw [hk]
    have hrest := rests_onlookers (m := m) b hb (cylinderFrame u)
    have hcb := calm_onlookers (m := m) b hb (cylinderFrame u)
    generalize b.foldl (fun u x => performTask m x u) (cylinderFrame u) = w at hrest hcb
    obtain ⟨l, hj⟩ := judgeGrip_after (v := u) (u := w) (by rw [hb0.ltr, hg]) (by rw [hb0.ltr, hr])
      (by rw [hb0.ltr]; exact hq) hrest.ltr
    have hk : performTask m .grip w = judgeGrip w := rfl
    rw [hk]
    refine ⟨u, hc0.mono (by omega), by rw [hb0.ltr]; exact hq, by rw [hb0.ltr], hb0.wen,
      ⟨_, (hcb.trans (calm_of_grip hj)).trans (calm_onlookers c hc _)⟩, ?_⟩
    rw [(rests_onlookers (m := m) c hc _).wen, hj, ← hrest.wen]

/-! ## A frame's force and a cylinder capture (R75, R78, R79) -/

theorem heldForce_frameForce (o : Option CylinderForce) (s : State) : (heldForce o s).wen.frameForce = o := by
  have hn := (noCylinderSample_figures { s with wen := { s.wen with frameForce := o } }).1
  have ht (x : Int) := (takeCylinderSample_figures x { s with wen := { s.wen with frameForce := o } }).1
  unfold heldForce
  dsimp only
  split
  · exact hn
  · split
    · exact ht _
    · exact hn

/-- WEN's work on the cylinder in front of a capture, with no event taken. -/
theorem cylinderFrame_captures (m : Bool) (hu : s.unbroken) (hq : s.ltr.quiet) : Calm m 4 s (sampledCylinder s)
    ∧ ∀ f, (cylinderFrame s).wen.frameForce = some f →
      cylinderFrame s = captureCylinder f s.wen.frameForce (sampledCylinder s) := by
  have hc := calm_rejudgeSources m s
  obtain ⟨x, hl⟩ := rejudgeSources_quiet hq
  have hbefore := (rejudgeSources_held s).frameForce
  have hform : (cylinderFrame s).wen.frameForce = formedForce (rejudgeSources s) :=
    (cylinderFrame_measured s).figures.1.trans (heldForce_frameForce _ _)
  have heq := cylinderFrame_eq s
  have hur : (rejudgeSources s).unbroken := fun h c k => by
    rw [hl] at h
    exact hu h c (hc.capture.symm.trans k)
  refine ⟨hc.trans (calm_heldForce m _ hur (by rw [hl]; exact hq)), fun f hf => ?_⟩
  rw [hform] at hf
  rw [heq, hf]
  exact congrArg (fun g => captureCylinder f g (sampledCylinder s)) hbefore

theorem captureCylinder_moved {f : CylinderForce} {g : Option CylinderForce} (hc : s.wen.capture = some k)
    (hk : k.kind = .cylEmpty ∨ k.kind = .cylLoad) (hb : k.band ≠ some f.band) :
    captureCylinder f g s = failCapture .bandMoved s := by
  unfold captureCylinder
  rw [hc]
  dsimp only
  rcases hk with hk | hk <;> rw [hk] <;> exact if_neg hb

theorem captureCylinder_takes {f g : CylinderForce} (hc : s.wen.capture = some k)
    (hk : k.kind = .cylEmpty ∨ k.kind = .cylLoad) (hb : k.band = some f.band) (hn : k.count = 31)
    (hs : s.vdr.sections.boom.output = 0) (hj : (f.force - g.force).natAbs ≤ s.wen.settings.jitter) :
    captureCylinder f (some g) s = finish (k.filled f.force) s := by
  have ha : (boomStill s && within f.force g.force s.wen.settings.jitter) = true := by
    rw [Bool.and_eq_true, boomStill_iff]
    exact ⟨hs, by simpa [within] using hj⟩
  unfold captureCylinder
  rw [hc]
  dsimp only
  rcases hk with hk | hk <;> rw [hk] <;>
    exact (if_pos hb).trans ((if_pos ha).trans (captureTake_full hn))

theorem finish_cylEmpty {b : Fin 8} {x : Int} (hk : k.kind = .cylEmpty) (hb : k.band = some b) :
    finish (k.filled x) s = finishCylEmpty (k.filled x) b (k.mean x) s := by
  unfold finish
  rw [show (k.filled x).kind = .cylEmpty from hk, show (k.filled x).band = some b from hb]
  rfl

theorem finish_cylLoad {b : Fin 8} {x : Int} (hk : k.kind = .cylLoad) (hb : k.band = some b) :
    finish (k.filled x) s = finishCylLoad (k.filled x) b (k.mean x) s := by
  unfold finish
  rw [show (k.filled x).kind = .cylLoad from hk, show (k.filled x).band = some b from hb]
  rfl

end Sys2Proof.Machine
end

section
/-! PROOF. The 32nd value of a capture completes it or fails it (R74 to R79). -/

namespace Sys2Proof.Machine

variable {s t u v : State} {m : Bool} {k : Capture}

/-! ## A tip capture -/

/-- CAL ZERO by the sample whose raw count is the 32nd (R76). -/
theorem sample_zero {x : TipSample} {y : Int} {b : Bool} (hu : Fronts 3 s u) (hs : s.ltr.quiet)
    (hk : s.wen.capture = some k) (hkind : k.kind = .zero) (hn : k.count = 31) (ha : countAccepted u.wen x = true)
    (he : s.log.enables.system = true) (hl : s.clp.queue.length ≤ 16) :
    let t := rememberTip x y (handIf b (completeWindow (countTip x u)))
    t.wen.calibration = { s.wen.calibration with zero := (k.mean x.force).toNat, zeroValid := true }
      ∧ t.wen.zeroOffset = 0 ∧ t.wen.capture = none ∧ t.clp.isLive .zeroDrift = false
      ∧ (∃ e, t.log.ring.getLast? = some e
        ∧ e.part = .cal ⟨.z, k.band, s.wen.calibration.zero, k.mean x.force⟩)
      ∧ .notice (.calDone .zero k.band (k.mean x.force)) ∈ t.clp.queue := by
  intro t
  have hlen := hu.calm.queued.length_le
  obtain ⟨hend, hz, hd, hq, hent⟩ := finishZero_done (c := k.filled x.force) (m := k.mean x.force) (s := u)
    (by rw [hu.ltr]; exact hs) (by omega)
  have hcount := countTip_zero ha (hu.calm.capture.trans hk) hkind hn
  have hlog : u.log = s.log := hu.calm.log rfl
  rw [← hcount] at hend hz hd hq hent
  change Ended _ (.calDone k.kind k.band _) _ at hend
  rw [hu.calm.calibration, hkind] at hend
  obtain ⟨e, he1, he2⟩ := hent (by rw [hlog, he])
  rw [hu.calm.calibration] at he2
  have hc : Calm false 2 (countTip x u) t := calm_afterCapture b x y hend.unbroken hq
  have ht := hend.calm hc
  exact ⟨ht.calibration, hc.zeroOffset.trans hz, ht.capture, hc.zeroDrift.trans hd,
    ⟨e, by rw [hc.log rfl, he1], he2⟩, ht.notice⟩

/-- CAL SPAN by the sample whose raw count is the 32nd (R77). -/
theorem sample_span {x : TipSample} {y : Int} {b : Bool} (hu : Fronts 3 s u) (hs : s.ltr.quiet)
    (hk : s.wen.capture = some k) (hkind : k.kind = .span) (hn : k.count = 31) (ha : countAccepted u.wen x = true)
    (he : s.log.enables.system = true) (hl : s.clp.queue.length ≤ 16) :
    let t := rememberTip x y (handIf b (completeWindow (countTip x u)))
    let cal := s.wen.calibration
    let mean := k.mean x.force
    t.wen.capture = none
      ∧ (mean - cal.zero < 1000 → t.wen.calibration = cal ∧ t.log.ring = s.log.ring
        ∧ .notice (.calFailed .span .smallSpan) ∈ t.clp.queue)
      ∧ (1000 ≤ mean - cal.zero → ∃ span : Int, isRounded ((k.mass + cal.tare) * 1024) (mean - cal.zero) span
        ∧ t.wen.calibration = { cal with span := span.toNat, spanValid := true }
        ∧ (∃ e, t.log.ring.getLast? = some e ∧ e.part = .cal ⟨.s, k.band, cal.span, span⟩)
        ∧ .notice (.calDone .span k.band span) ∈ t.clp.queue) := by
  intro t cal mean
  have hlen := hu.calm.queued.length_le
  have hcap := hu.calm.capture.trans hk
  have hcal : u.wen.calibration = cal := hu.calm.calibration
  have hcount := countTip_span ha hcap hkind hn
  have hlog : u.log = s.log := hu.calm.log rfl
  have small (hd : mean - cal.zero < 1000) : Ended cal (.calFailed .span .smallSpan) t ∧ t.log = s.log := by
    obtain ⟨h1, h2, h3⟩ := finishSpan_small (c := k.filled x.force) (m := mean) (s := u) hcap (by rw [hcal]; exact hd)
      (by omega)
    rw [← hcount] at h1 h2 h3
    rw [hkind, hcal] at h1
    have hc : Calm false 2 (countTip x u) t := calm_afterCapture b x y h1.unbroken (by rw [h3, hu.ltr]; exact hs)
    exact ⟨h1.calm hc, (hc.log rfl).trans (h2.trans hlog)⟩
  have done (hd : 1000 ≤ mean - cal.zero) :
      let span := roundDiv ((k.mass + cal.tare) * 1024) (mean - cal.zero)
      Ended { cal with span := span.toNat, spanValid := true } (.calDone .span k.band span) t
        ∧ ∃ e, t.log.ring.getLast? = some e ∧ e.part = .cal ⟨.s, k.band, cal.span, span⟩ := by
    intro span
    obtain ⟨h1, h2, h3⟩ := finishSpan_done (c := k.filled x.force) (m := mean) (s := u) (by rw [hu.ltr]; exact hs)
      (by rw [hcal]; exact hd) (by omega)
    rw [← hcount, hcal] at h1 h3
    rw [← hcount] at h2
    change Ended _ (.calDone k.kind k.band span) _ at h1
    rw [hkind] at h1
    have hc : Calm false 2 (countTip x u) t := calm_afterCapture b x y h1.unbroken h2
    obtain ⟨e, e1, e2⟩ := h3 (by rw [hlog, he])
    exact ⟨h1.calm hc, e, by rw [hc.log rfl, e1], e2⟩
  refine ⟨?_, fun hd => ?_, fun hd => ?_⟩
  · rcases lt_or_ge (mean - cal.zero) 1000 with hd | hd
    · exact (small hd).1.capture
    · exact (done hd).1.capture
  · obtain ⟨h1, h2⟩ := small hd
    exact ⟨h1.calibration, by rw [h2], h1.notice⟩
  · obtain ⟨h1, h2⟩ := done hd
    exact ⟨_, roundDiv_isRounded _ _ (by omega), h1.calibration, h2, h1.notice⟩

/-- A raw count that fails the capture gates leaves the capture (R75). -/
theorem sample_refused {x : TipSample} {y : Int} {b : Bool} (hu : Fronts 3 s u) (hs : s.ltr.quiet)
    (hb : s.unbroken) (ha : countAccepted u.wen x = false) :
    let t := rememberTip x y (handIf b (completeWindow (countTip x u)))
    t.wen.capture = s.wen.capture ∧ t.wen.calibration = s.wen.calibration := by
  intro t
  have hub : u.unbroken := fun hx c hc => hb (by rw [← hu.ltr]; exact hx) c (hu.calm.capture.symm.trans hc)
  have ht : t = rememberTip x y (handIf b (completeWindow u)) :=
    congrArg (fun v => rememberTip x y (handIf b (completeWindow v))) (countTip_refused ha)
  have hc : Calm false 2 u t := by
    rw [ht]
    exact calm_afterCapture b x y hub (by rw [hu.ltr]; exact hs)
  exact ⟨hc.capture.trans hu.calm.capture, hc.calibration.trans hu.calm.calibration⟩

/-! ## A cylinder capture -/

/-- The completion of CAL CYL EMPTY (R78). -/
theorem finish_empty_done {b : Fin 8} {x : Int} (h : s.settled) (hk : k.kind = .cylEmpty) (hb : k.band = some b)
    (hl : s.clp.queue.length ≤ 29) :
    let cal := s.wen.calibration
    let t := finish (k.filled x) s
    Ended { cal with bands := cal.bands.set b { cal.bands[b] with emptyForce := k.mean x, emptyCaptured := true } }
        (.calDone .cylEmpty (some b) (k.mean x)) t
      ∧ (s.log.enables.system = true → ∃ e, t.log.ring.getLast? = some e ∧ e.time = s.log.clock
        ∧ e.part = .cal ⟨.fe, some b, cal.bands[b].emptyForce, k.mean x⟩) := by
  intro cal t
  have ht : t = finishCylEmpty (k.filled x) b (k.mean x) s := finish_cylEmpty hk hb
  rw [ht, ← hk, ← hb]
  exact ⟨finishCapture_ended_settled h rfl hl, finishCapture_entry⟩

/-- The completion of CAL CYL LOAD, or its failure (R79). -/
theorem finish_load_done {b : Fin 8} {x : Int} (h : s.settled) (hc : s.wen.capture = some k) (hk : k.kind = .cylLoad)
    (hb : k.band = some b) (hl : s.clp.queue.length ≤ 29) :
    let cal := s.wen.calibration
    let t := finish (k.filled x) s
    let d := k.mean x - cal.bands[b].emptyForce
    (d < 500 → Ended cal (.calFailed .cylLoad .smallSpan) t)
      ∧ (500 ≤ d → let gain := roundDiv (k.mass * 65536) d
        (gain < 1 ∨ 65535 < gain → Ended cal (.calFailed .cylLoad .range) t)
        ∧ (1 ≤ gain → gain ≤ 65535 →
          Ended { cal with bands := cal.bands.set b { cal.bands[b] with gain := gain.toNat, gainCaptured := true } }
              (.calDone .cylLoad (some b) gain) t
            ∧ (s.log.enables.system = true → ∃ e, t.log.ring.getLast? = some e ∧ e.time = s.log.clock
              ∧ e.part = .cal ⟨.g, some b, cal.bands[b].gain, gain⟩))) := by
  intro cal t d
  have ht : t = finishCylLoad (k.filled x) b (k.mean x) s := finish_cylLoad hk hb
  refine ⟨fun hd => ?_, fun hd => ?_⟩
  · have hf : t = failCapture .smallSpan s := ht.trans (if_pos hd)
    rw [hf, ← hk]
    exact failCapture_ended hc (by omega)
  have hnd : ¬k.mean x - s.wen.calibration.bands[b].emptyForce < 500 := not_lt.2 hd
  intro gain
  refine ⟨fun hg => ?_, fun h1 h2 => ?_⟩
  · have hr : Int.inRange 1 65535 gain = false := by
      rw [Bool.eq_false_iff, Int.inRange, Ne, Bool.and_eq_true, decide_eq_true_iff, decide_eq_true_iff]
      omega
    have hf : t = failCapture .range s :=
      ht.trans ((if_neg hnd).trans (if_neg (by rw [Bool.not_eq_true]; exact hr)))
    rw [hf, ← hk]
    exact failCapture_ended hc (by omega)
  · have hr : Int.inRange 1 65535 gain = true := by
      rw [Int.inRange, Bool.and_eq_true, decide_eq_true_iff, decide_eq_true_iff]
      exact ⟨h1, h2⟩
    have hf : t = finishCapture (k.filled x) .g cal.bands[b].gain gain
        { cal with bands := cal.bands.set b { cal.bands[b] with gain := gain.toNat, gainCaptured := true } } s :=
      ht.trans ((if_neg hnd).trans (if_pos hr))
    rw [hf, ← hk, ← hb]
    exact ⟨finishCapture_ended_settled h rfl hl, finishCapture_entry⟩

theorem finish_load_ends {b : Fin 8} {x : Int} (h : s.settled) (hc : s.wen.capture = some k) (hk : k.kind = .cylLoad)
    (hb : k.band = some b) (hl : s.clp.queue.length ≤ 29) : (finish (k.filled x) s).wen.capture = none := by
  obtain ⟨hsmall, hlarge⟩ := finish_load_done (x := x) h hc hk hb hl
  rcases lt_or_ge (k.mean x - s.wen.calibration.bands[b].emptyForce) 500 with hd | hd
  · exact (hsmall hd).capture
  · obtain ⟨hrange, hdone⟩ := hlarge hd
    by_cases hg : 1 ≤ roundDiv (k.mass * 65536) (k.mean x - s.wen.calibration.bands[b].emptyForce)
        ∧ roundDiv (k.mass * 65536) (k.mean x - s.wen.calibration.bands[b].emptyForce) ≤ 65535
    · exact (hdone hg.1 hg.2).1.capture
    · exact (hrange (by omega)).capture

/-- A frame whose cylinder work meets a capture. -/
structure Meets (m : Bool) (s u t : State) (f before : CylinderForce) : Prop where
  calm : Calm m 20 s u
  settled : u.settled
  after : ∃ n, Calm m n (captureCylinder f (some before) u) t

theorem takeFrame_meets (codes : PerChannel RawCode) (levels : PerLine Level) (order : FrameOrder)
    {f before : CylinderForce} (hg : s.ltr.gripStart = none) (hr : s.ltr.releaseStart = none) (hq : s.ltr.quiet)
    (hb : s.unbroken) (hf : s.wen.frameForce = some before)
    (ht : (takeFrame codes levels order s).wen.frameForce = some f) :
    ∃ u, Meets (isMark s.iau.lines (acquire codes levels s)) s u (takeFrame codes levels order s) f before := by
  obtain ⟨v, hv⟩ := takeFrame_atCylinder codes levels order hg hr hq
  obtain ⟨hc, he⟩ := cylinderFrame_captures (isMark s.iau.lines (acquire codes levels s)) (s := v)
    (fun hx c k => hb (hv.state.symm.trans hx) c (by rw [← hv.wen]; exact k)) hv.quiet
  obtain ⟨n, hafter⟩ := hv.after
  rw [he f (by rw [← hv.windows, ht]), hv.wen, hf] at hafter
  exact ⟨sampledCylinder v, hv.before.trans hc, settled_sampledCylinder v, n, hafter⟩

/-- Settles O27: the steps around a capture are `Calm`, and what ends it is read off its last value. -/
theorem capturesComplete : Obligations.CapturesComplete := by
  refine ⟨fun s r c a g x k n => ?_, fun codes levels order s k b f before => ?_⟩
  · intro cal passes hp hl hr hk hu hcap hcount hprev hempty hlo hdr hen _ hlen
    obtain ⟨u, b, y, hexec, hf⟩ := exec_counts (a := a) (g := g) (x := x) hp hl hr hk hu hempty
    have hgate := countAccepted_iff (w := u.wen) (c := c) (a := a) (g := g) (x := x) (hf.previousCount.trans hprev)
    rw [hf.calm.settings] at hgate
    refine ⟨_, hexec, fun hkind _ hpass => ?_, fun hkind _ hpass => ?_, fun hkind hpass => ?_⟩
    · exact ⟨_, k.mean_isRounded _, sample_zero hf ⟨hlo, hdr⟩ hcap hkind hcount (hgate.2 hpass) hen hlen⟩
    · exact ⟨_, k.mean_isRounded _, sample_span hf ⟨hlo, hdr⟩ hcap hkind hcount (hgate.2 hpass) hen hlen⟩
    · have hb : s.unbroken := fun hx d hd => by
        rw [hcap] at hd
        cases hd
        rcases hkind with ⟨-, hi⟩ | ⟨hk, -⟩
        · rw [hi] at hx
          cases hx
        · rw [hk]
          exact ⟨nofun, nofun⟩
      obtain ⟨h1, h2⟩ := sample_refused (x := tipSampleOf c a g x) (y := y) (b := b) hf ⟨hlo, hdr⟩ hb
        (Bool.eq_false_iff.2 fun h => hpass (hgate.1 h))
      exact ⟨h1.trans hcap, h2⟩
  · intro cal hp hg hr hlo hdr hne hcap hband hcount hbefore hboom hlen
    have meets (hk : k.kind = .cylEmpty ∨ k.kind = .cylLoad)
        (ht : (takeFrame codes levels order s).wen.frameForce = some f) :=
      takeFrame_meets codes levels order hg hr ⟨hlo, hdr⟩ (fun hx d hd => by
        rw [hcap] at hd
        cases hd
        rcases hk with hk | hk
        · exact absurd hx (hne hk)
        · rw [hk]
          exact ⟨nofun, nofun⟩) hbefore ht
    refine ⟨_, exec_acquisitionFrame codes levels order hp, fun hk hforce hb => ?_, fun hforce hb hj => ?_⟩
    · obtain ⟨u, hc, -, n, hafter⟩ := meets hk hforce
      have hlu := hc.queued.length_le
      have hend := failCapture_ended (r := .bandMoved) (hc.capture.trans hcap) (by omega)
      rw [← captureCylinder_moved (f := f) (g := some before) (hc.capture.trans hcap) hk (by
        rw [hband]
        exact fun x => hb (Option.some.inj x).symm), hc.calibration] at hend
      have ht := hend.calm hafter
      exact ⟨ht.capture, ht.calibration, ht.notice⟩
    · intro entered
      have takes (hk : k.kind = .cylEmpty ∨ k.kind = .cylLoad) : ∃ u n, Calm (isMark s.iau.lines (acquire codes levels s))
          20 s u ∧ u.settled ∧ Calm (isMark s.iau.lines (acquire codes levels s)) n (finish (k.filled f.force) u)
            (takeFrame codes levels order s) := by
        obtain ⟨u, hc, hs, n, hafter⟩ := meets hk hforce
        rw [captureCylinder_takes (hc.capture.trans hcap) hk (by rw [hband, hb]) hcount
          (by rw [hc.steady.2.2]; exact hboom) (by rw [hc.settings]; exact hj)] at hafter
        exact ⟨u, n, hc, hs, hafter⟩
      have enters {u : State} {n : Nat} {name : CalName} {old new : Int}
          (hc : Calm (isMark s.iau.lines (acquire codes levels s)) 20 s u)
          (hafter : Calm (isMark s.iau.lines (acquire codes levels s)) n (finish (k.filled f.force) u)
            (takeFrame codes levels order s))
          (h : u.log.enables.system = true → ∃ e, (finish (k.filled f.force) u).log.ring.getLast? = some e
            ∧ e.time = u.log.clock ∧ e.part = .cal ⟨name, some b, old, new⟩) : entered name old new := by
        intro hen hmode
        have hm := isMark_of_mode s.iau.lines (acquire codes levels s) hmode
        obtain ⟨e, e1, e2, e3⟩ := h (by rw [hc.log hm, hen])
        exact ⟨e, by rw [hafter.log hm, e1], e2.trans (by rw [hc.log hm]), e3⟩
      refine ⟨_, k.mean_isRounded _, fun hk => ?_, fun hk => ?_⟩
      · obtain ⟨u, n, hc, hs, hafter⟩ := takes (.inl hk)
        have hlu := hc.queued.length_le
        obtain ⟨hend, hent⟩ := finish_empty_done (x := f.force) hs hk hband (by omega)
        rw [hc.calibration] at hend hent
        have ht := hend.calm hafter
        exact ⟨ht.capture, ht.calibration, enters hc hafter hent, ht.notice⟩
      · obtain ⟨u, n, hc, hs, hafter⟩ := takes (.inr hk)
        have hlu := hc.queued.length_le
        obtain ⟨hsmall, hlarge⟩ := finish_load_done (x := f.force) hs (hc.capture.trans hcap) hk hband (by omega)
        rw [hc.calibration] at hsmall hlarge
        refine ⟨?_, fun hd => ?_, fun hd => ?_⟩
        · exact hafter.capture.trans (finish_load_ends hs (hc.capture.trans hcap) hk hband (by omega))
        · have ht := (hsmall hd).calm hafter
          exact ⟨ht.calibration, ht.notice⟩
        · obtain ⟨hrange, hdone⟩ := hlarge hd
          refine ⟨_, roundDiv_isRounded _ _ (by omega), fun hg => ?_, fun h1 h2 => ?_⟩
          · have ht := (hrange hg).calm hafter
            exact ⟨ht.calibration, ht.notice⟩
          · obtain ⟨hend, hent⟩ := hdone h1 h2
            have ht := hend.calm hafter
            exact ⟨ht.calibration, enters hc hafter hent, ht.notice⟩

end Sys2Proof.Machine
end

section
/-! PROOF. Requests do not read the receiver and do not touch it, so a rescan may take its bytes before it dispatches
the frames they complete (R193, R194). -/

namespace Sys2Proof.Machine

variable {s t u : State}

/-! ## Steps that do not see the receiver -/

/-- A step that neither reads nor changes the receiver, and leaves the mark of STARTED. -/
structure Blind (f : State → State) : Prop where
  receiving : ∀ s r, f (s.receiving r) = (f s).receiving r
  started : ∀ s, (f s).clp.started = s.clp.started

theorem Blind.id : Blind id := ⟨fun _ _ => rfl, fun _ => rfl⟩

theorem Blind.comp {f g : State → State} (hg : Blind g) (hf : Blind f) : Blind fun s => g (f s) :=
  ⟨fun s r => by rw [hf.receiving, hg.receiving], fun s => (hg.started _).trans (hf.started s)⟩

/-- A step by a figure that is not the receiver's. -/
theorem Blind.arg {α : Type} {a : State → α} {f : α → State → State} (hf : ∀ x, Blind (f x))
    (ha : ∀ s r, a (s.receiving r) = a s) : Blind fun s => f (a s) s :=
  ⟨fun s r => by rw [ha, (hf _).receiving], fun s => (hf _).started s⟩

theorem Blind.ite {p : State → Prop} [∀ s, Decidable (p s)] {f g : State → State} (hf : Blind f) (hg : Blind g)
    (hp : ∀ s r, p (s.receiving r) ↔ p s) : Blind fun s => if p s then f s else g s where
  receiving s r := by
    by_cases h : p s
    · rw [if_pos h, if_pos ((hp s r).2 h), hf.receiving]
    · rw [if_neg h, if_neg (mt (hp s r).1 h), hg.receiving]
  started s := by
    by_cases h : p s
    · rw [if_pos h, hf.started]
    · rw [if_neg h, hg.started]

theorem Blind.dite {p : Prop} [Decidable p] {f : p → State → State} {g : ¬p → State → State} (hf : ∀ h, Blind (f h))
    (hg : ∀ h, Blind (g h)) : Blind fun s => if h : p then f h s else g h s := by
  by_cases h : p
  · simpa only [dif_pos h] using hf h
  · simpa only [dif_neg h] using hg h

/-- A step of CLP. -/
theorem Blind.of_clp {c : Clp → Clp} (hr : ∀ x r, c { x with receiver := r } = { c x with receiver := r })
    (hs : ∀ x, (c x).started = x.started) : Blind fun s => { s with clp := c s.clp } :=
  ⟨fun s r => congrArg (fun x => ({ s with clp := x } : State)) (hr s.clp r), fun s => hs s.clp⟩

/-! ## The shared operations -/

theorem Clp.send_receiver (c : Clp) (n : Notice) (r : Receiver) :
    ({ c with receiver := r } : Clp).send n = { c.send n with receiver := r } := by
  by_cases h : ((TxFrame.notice n).isLive && c.queue.any TxFrame.isLive) = true
  · have hc : c.send n = { c with queue := c.queue.map fun f => if f.isLive then .notice n else f } := if_pos h
    have hr : ({ c with receiver := r } : Clp).send n
        = { c with receiver := r, queue := c.queue.map fun f => if f.isLive then .notice n else f } := if_pos h
    rw [hc, hr]
  · by_cases hq : 32 ≤ c.queue.length
    · have hc : c.send n = c.lose := (if_neg h).trans (if_pos hq)
      have hr : ({ c with receiver := r } : Clp).send n = ({ c with receiver := r } : Clp).lose :=
        (if_neg h).trans (if_pos hq)
      rw [hc, hr]
      rfl
    · have hc : c.send n = { c with queue := c.queue ++ [.notice n] } := (if_neg h).trans (if_neg hq)
      have hr : ({ c with receiver := r } : Clp).send n = { c with receiver := r, queue := c.queue ++ [.notice n] } :=
        (if_neg h).trans (if_neg hq)
      rw [hc, hr]

theorem Clp.putLive_receiver (c : Clp) (d : Condition) (v : Bool) (r : Receiver) :
    ({ c with receiver := r } : Clp).putLive d v = { c.putLive d v with receiver := r } := by cases v <;> rfl

theorem Clp.setLive_receiver (c : Clp) (d : Condition) (v : Bool) (r : Receiver) :
    ({ c with receiver := r } : Clp).setLive d v = { c.setLive d v with receiver := r } := by
  by_cases h : c.isLive d = v
  · rw [show c.setLive d v = c from if_pos h,
      show ({ c with receiver := r } : Clp).setLive d v = { c with receiver := r } from if_pos h]
  · have hset (x : Clp) (hx : ¬x.isLive d = v) : x.setLive d v = if x.liveNotice d v then
        (x.putLive d v).send (.condition d.index (if v then 1 else 0) ((x.putLive d v).isLatched d))
        else x.putLive d v := if_neg hx
    rw [hset c h, hset { c with receiver := r } h, Clp.putLive_receiver]
    by_cases hn : c.liveNotice d v = true
    · rw [if_pos hn, if_pos (show ({ c with receiver := r } : Clp).liveNotice d v = true from hn)]
      exact Clp.send_receiver _ _ r
    · rw [if_neg hn, if_neg (show ¬({ c with receiver := r } : Clp).liveNotice d v = true from hn)]

theorem blind_setLive (d : Condition) (v : Bool) : Blind (setLive d v) :=
  Blind.of_clp (c := fun c => c.setLive d v) (fun c r => c.setLive_receiver d v r) fun c => (Clp.setLive_frame c d v).2.2.2.1

theorem blind_notify (n : Notice) : Blind (notify n) :=
  Blind.of_clp (c := fun c => c.send n) (fun c r => c.send_receiver n r) fun c => by simp

/-- LOG after an entry is passed to it, before LOG_PENDING (R138). -/
def logged (p : EntryPart) (s : State) : State :=
  { s with log := if s.log.enables.governs p then s.log.append p else s.log }

theorem record_eq (p : EntryPart) (s : State) : record p s
    = if (s.log.enables.governs p && s.log.ring.isEmpty) = true then
        notify (.logPending s.log.nextSequence) (logged p s) else logged p s := by
  by_cases h : (s.log.enables.governs p && s.log.ring.isEmpty) = true
  · have hc : (if (s.log.enables.governs p && s.log.ring.isEmpty) = true then
        s.clp.send (.logPending s.log.nextSequence) else s.clp) = s.clp.send (.logPending s.log.nextSequence) := if_pos h
    rw [if_pos h]
    exact congrArg (fun x => { logged p s with clp := x }) hc
  · have hc : (if (s.log.enables.governs p && s.log.ring.isEmpty) = true then
        s.clp.send (.logPending s.log.nextSequence) else s.clp) = s.clp := if_neg h
    rw [if_neg h]
    exact congrArg (fun x => { logged p s with clp := x }) hc

theorem blind_record (p : EntryPart) : Blind (record p) := by
  have hl : Blind (logged p) := ⟨fun _ _ => rfl, fun _ => rfl⟩
  have hn : Blind fun s => notify (.logPending s.log.nextSequence) (logged p s) :=
    Blind.arg (a := fun s => s.log.nextSequence) (f := fun n s => notify (.logPending n) (logged p s))
      (fun n => (blind_notify (.logPending n)).comp hl) fun _ _ => rfl
  rw [show record p = _ from funext (record_eq p)]
  exact hn.ite hl fun _ _ => Iff.rfl

theorem blind_makeMark : Blind makeMark :=
  Blind.arg (a := markPart) (f := fun x => record (.mark x)) (fun x => blind_record (.mark x)) fun _ _ => rfl

/-! ## MLM and the sources -/

theorem blind_evaluate : Blind evaluate :=
  Blind.arg (a := evaluatedMlm) (f := fun x s => { s with
      mlm := x
      vdr := { s.vdr with factors := x.factors }
      clp := s.clp.setLive .limitHold (x.stage == .hold) })
    (fun x => (blind_setLive .limitHold (x.stage == .hold)).comp
      (f := fun s => { s with mlm := x, vdr := { s.vdr with factors := x.factors } })
      ⟨fun _ _ => rfl, fun _ => rfl⟩) fun _ _ => rfl

theorem blind_changeSource (y : Source) : Blind (changeSource y) := by
  have hs : Blind (sourced y) := ⟨fun _ _ => rfl, fun _ => rfl⟩
  have hu : Blind fun s : State => { s with ltr := s.ltr.unestimated } := ⟨fun _ _ => rfl, fun _ => rfl⟩
  rw [show changeSource y = _ from funext (changeSource_eq y)]
  exact blind_evaluate.comp (hu.comp (blind_evaluate.comp hs))

theorem blind_takeDowngrade (x : Source) : Blind (takeDowngrade x) :=
  Blind.arg (a := fun s => s.ltr.state) (f := fun l s => match l with
    | .lifted => { s with
        ltr := { s.ltr with source := some x }
        wen := { s.wen with liftWindow := some (.opened x s.wen.settings.windowSize) } }
    | _ => s) (fun l => by cases l <;> exact ⟨fun _ _ => rfl, fun _ => rfl⟩) fun _ _ => rfl

theorem blind_judgeLiftSource : Blind judgeLiftSource := by
  have fall (x : Source) : Blind fun s =>
      if available s x = true then s else takeDowngrade (lowerSource s x)
        { s with wen := { s.wen with liftSource := some (lowerSource s x) } } :=
    Blind.id.ite (Blind.arg (a := fun s => lowerSource s x) (f := fun y s => takeDowngrade y
      { s with wen := { s.wen with liftSource := some y } })
      (fun y => (blind_takeDowngrade y).comp (f := fun s => { s with wen := { s.wen with liftSource := some y } })
        ⟨fun _ _ => rfl, fun _ => rfl⟩) fun _ _ => rfl) fun _ _ => Iff.rfl
  refine Blind.arg (a := fun s => s.wen.liftSource) (f := fun o s => match o with
    | none => s
    | some .none => s
    | some x => if available s x then s else takeDowngrade (lowerSource s x)
        { s with wen := { s.wen with liftSource := some (lowerSource s x) } }) (fun o => ?_) fun _ _ => rfl
  rcases o with _ | _ | _ | _
  · exact .id
  · exact .id
  · exact fall .tip
  · exact fall .cylinder

theorem blind_rejudgeSources : Blind rejudgeSources :=
  blind_judgeLiftSource.comp (Blind.id.ite (Blind.arg (a := judgedSource) (f := changeSource) blind_changeSource
    fun _ _ => rfl) fun _ _ => Iff.rfl)

/-! ## TLC -/

theorem blind_failCapture (x : CaptureReason) : Blind (failCapture x) :=
  Blind.arg (a := fun s => s.wen.capture) (f := fun k s => { s with
      wen := { s.wen with capture := none }
      clp := match k with
        | none => s.clp
        | some c => s.clp.send (.calFailed c.kind x) })
    (fun k => by
      have hw : Blind fun s : State => { s with wen := { s.wen with capture := none } } :=
        ⟨fun _ _ => rfl, fun _ => rfl⟩
      cases k with
      | none => exact hw
      | some c => exact (blind_notify (.calFailed c.kind x)).comp hw) fun _ _ => rfl

theorem blind_abortCaptures (k : List CaptureKind) : Blind (abortCaptures k) :=
  (blind_failCapture .aborted).ite .id fun _ _ => Iff.rfl

theorem blind_tipLinkDown : Blind tipLinkDown :=
  blind_rejudgeSources.comp ((blind_abortCaptures _).comp ((blind_setLive .tipOverrange false).comp
    (f := fun s => { s with wen := { s.wen with previousCorrected := none, previousCount := none } })
    ⟨fun _ _ => rfl, fun _ => rfl⟩))

theorem blind_handLink (o n : LinkState) : Blind (handLink o n) :=
  blind_tipLinkDown.ite (blind_rejudgeSources.ite .id fun _ _ => Iff.rfl) fun _ _ => Iff.rfl

theorem blind_moveLink (x : Tlc) : Blind (moveLink x) := by
  have hl : Blind (linked x) := (blind_setLive .tipFailed _).comp ((blind_setLive .tipDown _).comp
    (f := fun s => { s with tlc := x.leaveUp s.tlc.link }) ⟨fun _ _ => rfl, fun _ => rfl⟩)
  have hs : Blind selectHorn := ⟨fun _ _ => rfl, fun _ => rfl⟩
  have hm (o : LinkState) : Blind fun s => handLink o x.link (linked x s) := (blind_handLink o x.link).comp hl
  exact Blind.arg (a := fun s => s.tlc.link) (f := fun o s =>
    if ((o == .failed) != (x.link == .failed)) = true then selectHorn (handLink o x.link (linked x s))
    else handLink o x.link (linked x s))
    (fun o => (hs.comp (hm o)).ite (hm o) fun _ _ => Iff.rfl) fun _ _ => rfl

theorem blind_setStuck (v : Bool) : Blind (setStuck v) := by
  have ht : Blind tipStuckChanged :=
    blind_rejudgeSources.comp ((blind_abortCaptures _).ite .id fun _ _ => Iff.rfl)
  exact Blind.id.ite (ht.comp (blind_setLive .tipStuck v)) fun _ _ => Iff.rfl

theorem blind_freshBringUp : Blind freshBringUp :=
  (blind_setStuck false).comp (Blind.arg (a := fun s => s.tlc.fresh) (f := moveLink) blind_moveLink fun _ _ => rfl)

theorem blind_transferErrors : Blind transferErrors :=
  (blind_setLive .tipErrOverflow false).comp
    (f := fun s => { s with tlc := { s.tlc with reportValue := s.tlc.errorCounter, errorCounter := 0 } })
    ⟨fun _ _ => rfl, fun _ => rfl⟩

theorem blind_takeTipLink (x : TipSettings) : Blind (takeTipLink x) := by
  have hs : Blind fun s : State => { s with tlc := { s.tlc with settings := x } } := ⟨fun _ _ => rfl, fun _ => rfl⟩
  have hj : Blind fun s => setStuck (decide (x.stuckRule.threshold ≤ s.tlc.stuckCount))
      { s with tlc := { s.tlc with settings := x } } :=
    Blind.arg (a := fun s => decide (x.stuckRule.threshold ≤ s.tlc.stuckCount))
      (f := fun v s => setStuck v { s with tlc := { s.tlc with settings := x } })
      (fun v => (blind_setStuck v).comp hs) fun _ _ => rfl
  exact hs.ite hj fun _ _ => Iff.rfl

/-! ## The other effects of requests -/

theorem blind_recordChange (n : CalName) (x y : Int) : Blind (recordChange n x y) :=
  Blind.id.ite (blind_record _) fun _ _ => Iff.rfl

theorem blind_takeCalibration (f : CalibrationFields) : Blind (takeCalibration f) := by
  have hs (c : Calibration) : Blind fun s : State => { s with wen := { s.wen with calibration := c.afterSet f } } :=
    ⟨fun _ _ => rfl, fun _ => rfl⟩
  exact Blind.arg (a := fun s => s.wen.calibration) (f := fun c s =>
    recordChange .ar c.areaRod f.areaRod (recordChange .ah c.areaHead f.areaHead (recordChange .tref c.tref f.tref
      (recordChange .kt c.kt f.kt (recordChange .t c.tare f.tare
        { s with wen := { s.wen with calibration := c.afterSet f } })))))
    (fun c => (blind_recordChange _ _ _).comp ((blind_recordChange _ _ _).comp ((blind_recordChange _ _ _).comp
      ((blind_recordChange _ _ _).comp ((blind_recordChange _ _ _).comp (hs c)))))) fun _ _ => rfl

theorem blind_startCapture (k : CaptureKind) (b : Option (Fin 8)) (m : Nat) : Blind (startCapture k b m) :=
  ⟨fun _ _ => rfl, fun _ => rfl⟩

theorem blind_startCylLoad (b : Fin 8) (m : Nat) : Blind (startCylLoad b m) :=
  (blind_startCapture .cylLoad (some b) m).ite ((blind_failCapture .noEmpty).comp (blind_startCapture .cylLoad (some b) m))
    fun _ _ => Iff.rfl

theorem blind_judgePayload : Blind judgePayload :=
  Blind.arg (a := fun s => decide (s.sto.working.payload ≤ s.tal.total)) (f := setLive .payload)
    (blind_setLive .payload) fun _ _ => rfl

theorem blind_closeLoad (x : CloseReason) : Blind (closeLoad x) := by
  have close (l : Load) : Blind fun s => judgePayload
      { record (.loadClosed ⟨l.number, x, l.total, l.loadedLifts, l.unloadedLifts⟩) { s with
        tal := { s.tal with history := appendSummary s.tal.history (l.summary x s.log.clock) } } with
        tal := { (record (.loadClosed ⟨l.number, x, l.total, l.loadedLifts, l.unloadedLifts⟩) { s with
          tal := { s.tal with history := appendSummary s.tal.history (l.summary x s.log.clock) } }).tal with
          load := none } } :=
    blind_judgePayload.comp (Blind.comp (g := fun s => { s with tal := { s.tal with load := none } })
      ⟨fun _ _ => rfl, fun _ => rfl⟩ ((blind_record _).comp (f := fun s => { s with
        tal := { s.tal with history := appendSummary s.tal.history (l.summary x s.log.clock) } })
        ⟨fun _ _ => rfl, fun _ => rfl⟩))
  refine Blind.arg (a := fun s => s.tal.load) (f := fun o s => match o with
    | none => s
    | some l => judgePayload
      { record (.loadClosed ⟨l.number, x, l.total, l.loadedLifts, l.unloadedLifts⟩) { s with
        tal := { s.tal with history := appendSummary s.tal.history (l.summary x s.log.clock) } } with
        tal := { (record (.loadClosed ⟨l.number, x, l.total, l.loadedLifts, l.unloadedLifts⟩) { s with
          tal := { s.tal with history := appendSummary s.tal.history (l.summary x s.log.clock) } }).tal with
          load := none } }) (fun o => ?_) fun _ _ => rfl
  cases o with
  | none => exact .id
  | some l => exact close l

theorem blind_takeLever (d : PerSection Int) : Blind (takeLever d) :=
  (blind_setLive .leverStale false).comp (f := fun s => { s with vdr := { s.vdr with
    sections := s.vdr.sections.map fun v x => x.takeDemand (d.get v)
    leverTimer := some 150 } }) ⟨fun _ _ => rfl, fun _ => rfl⟩

theorem blind_changeProfile (p : Profile) : Blind (changeProfile p) :=
  Blind.comp (g := handProfile)
    (Blind.comp (g := clampSections) ⟨fun _ _ => rfl, fun _ => rfl⟩
      (blind_judgePayload.comp (blind_rejudgeSources.comp blind_evaluate)))
    (f := fun s => { s with sto := { s.sto with working := p } }) ⟨fun _ _ => rfl, fun _ => rfl⟩

theorem blind_beginWrite (w : StoreWrite) : Blind (beginWrite w) := ⟨fun _ _ => rfl, fun _ => rfl⟩

theorem blind_reenableSections : Blind reenableSections := by
  have fold (p : Section → Bool) : ∀ l : List Section, Blind fun s => ({ s with
      clp := l.foldl (fun c v => if p v then c.setLive (.coilFault v) false else c) s.clp } : State) := by
    intro l
    induction l with
    | nil => exact .id
    | cons v l ih =>
      have hv : Blind fun s => ({ s with clp := if p v then s.clp.setLive (.coilFault v) false else s.clp } : State) := by
        cases hp : p v with
        | true => exact blind_setLive (.coilFault v) false
        | false => exact .id
      exact ih.comp hv
  exact Blind.arg (a := fun s => s.vdr.sections) (f := fun x s => { s with
      vdr := { s.vdr with sections := x.map fun _ y => y.reenable }
      clp := Section.list.foldl (fun c v => if (x.get v).isDisabled then c.setLive (.coilFault v) false else c) s.clp })
    (fun x => Blind.comp (g := fun s => { s with vdr := { s.vdr with sections := x.map fun _ y => y.reenable } })
      ⟨fun _ _ => rfl, fun _ => rfl⟩ (fold (fun v => (x.get v).isDisabled) Section.list)) fun _ _ => rfl

theorem blind_clearConditions (m : BitVec 30) : Blind (clearConditions m) :=
  Blind.comp (g := fun s => { s with clp := s.clp.clearLatches m }) ⟨fun _ _ => rfl, fun _ => rfl⟩ blind_reenableSections

end Sys2Proof.Machine
end

section
/-! PROOF. Every request, and every frame received, without sight of the receiver (R193, R194). -/

namespace Sys2Proof.Machine

variable {s t u : State} {k : Byte} {x : Status}

/-! ## One answer -/

theorem blind_answer {d : State → List Byte} {e : State → State} (he : Blind e)
    (hd : ∀ s r, d (s.receiving r) = d s) : Blind fun s => answer k x (d s) e s := by
  refine Blind.arg (a := d) (f := fun d s => answer k x d e s) (fun d => ?_) hd
  have hl : Blind fun s : State => { s with clp := s.clp.lose } := ⟨fun _ _ => rfl, fun _ => rfl⟩
  have hq : Blind fun s : State => { s with clp := s.clp.enqueue (replyFrames k x d) } := ⟨fun _ _ => rfl, fun _ => rfl⟩
  exact (hl.ite (he.comp hq) fun _ _ => Iff.rfl).ite .id fun _ _ => Iff.rfl

theorem blind_act {d : List Byte} {e : State → State} (he : Blind e) : Blind fun s => answer k x d e s :=
  blind_answer he fun _ _ => rfl

theorem blind_read {d : State → List Byte} (hd : ∀ s r, d (s.receiving r) = d s) :
    Blind fun s => answer k x (d s) id s := blind_answer .id hd

theorem blind_refuse : Blind fun s => refuse k x s := blind_act .id

/-- The meaning of a request is a step that does not see the receiver. -/
def Blinds (o : State → Host.Outcome State Fault Refusal) : Prop := ∃ f, (∀ s, o s = .next (f s)) ∧ Blind f

/-! ## IAU, TLC and GEO -/

theorem blinds_setChannel (i : Nat) (x : ChannelSettings) : Blinds (execSetChannel i x) := by
  refine ⟨_, fun _ => rfl, ?_⟩
  cases Channel.ofCode i with
  | none => exact blind_refuse
  | some c => exact Blind.ite (blind_act ⟨fun _ _ => rfl, fun _ => rfl⟩) blind_refuse fun _ _ => Iff.rfl

theorem blinds_readChannel (i : Nat) : Blinds (execReadChannel i) := by
  refine ⟨_, fun _ => rfl, ?_⟩
  cases Channel.ofCode i with
  | none => exact blind_refuse
  | some c => exact blind_read fun _ _ => rfl

theorem blinds_setLine (l m e : Nat) : Blinds (execSetLine l m e) := by
  refine ⟨_, fun _ => rfl, ?_⟩
  rcases Line.ofCode l with _ | l <;> rcases LineMode.ofCode m with _ | m <;> rcases Edge.ofCode e with _ | e
  case some.some.some => exact blind_act ⟨fun _ _ => rfl, fun _ => rfl⟩
  all_goals exact blind_refuse

theorem blinds_writeLines (m l : Nat) : Blinds (execWriteLines m l) :=
  ⟨_, fun _ => rfl, Blind.ite (blind_act ⟨fun _ _ => rfl, fun _ => rfl⟩) blind_refuse fun _ _ => Iff.rfl⟩

theorem blinds_setTipLink (e r : Nat) : Blinds (execSetTipLink e r) := by
  refine ⟨_, fun _ => rfl, ?_⟩
  rcases ErrorMode.ofCode e with _ | e <;> rcases StuckRule.ofCode r with _ | r
  case some.some => exact blind_act (blind_takeTipLink _)
  all_goals exact blind_refuse

theorem blinds_reportTipErrors : Blinds execReportTipErrors := by
  refine ⟨_, fun _ => rfl, Blind.arg (a := fun s => s.tlc.settings.errorMode) (f := fun m s => match m with
    | .auto => refuse 0x0B .state s
    | .manual => answer 0x0B .ok (u16 s.tlc.errorCounter) transferErrors s) (fun m => ?_) fun _ _ => rfl⟩
  cases m with
  | auto => exact blind_refuse
  | manual => exact blind_answer blind_transferErrors fun _ _ => rfl

/-! ## WEN -/

theorem blinds_setWeigh (f : WeighFields) : Blinds (execSetWeigh f) := by
  refine ⟨_, fun _ => rfl, ?_⟩
  cases weighOfFields f with
  | none => exact blind_refuse
  | some x => exact blind_act ⟨fun _ _ => rfl, fun _ => rfl⟩

theorem blinds_setCalibration (f : CalibrationFields) : Blinds (execSetCalibration f) :=
  ⟨_, fun _ => rfl, (blind_refuse.ite (blind_act (blind_takeCalibration f)) fun _ _ => Iff.rfl).ite blind_refuse
    fun _ _ => Iff.rfl⟩

theorem blinds_calZero : Blinds execCalZero :=
  ⟨_, fun _ => rfl, blind_refuse.ite ((blind_act (blind_startCapture _ _ _)).ite blind_refuse fun _ _ => Iff.rfl)
    fun _ _ => Iff.rfl⟩

theorem blinds_calSpan (m : Nat) : Blinds (execCalSpan m) :=
  ⟨_, fun _ => rfl, (blind_refuse.ite ((blind_act (blind_startCapture _ _ _)).ite blind_refuse fun _ _ => Iff.rfl)
    fun _ _ => Iff.rfl).ite blind_refuse fun _ _ => Iff.rfl⟩

theorem blinds_calCylEmpty : Blinds execCalCylEmpty := by
  refine ⟨_, fun _ => rfl, blind_refuse.ite (Blind.arg (a := fun s => s.wen.frameForce) (f := fun o s => match o with
    | none => refuse 0x1D .state s
    | some f => if (s.ltr.state == .idle && boomStill s && cylinderReadable s) = true then
        answer 0x1D .accepted [] (startCapture .cylEmpty (some f.band) 0) s
      else refuse 0x1D .state s) (fun o => ?_) fun _ _ => rfl) fun _ _ => Iff.rfl⟩
  cases o with
  | none => exact blind_refuse
  | some f => exact (blind_act (blind_startCapture _ _ _)).ite blind_refuse fun _ _ => Iff.rfl

theorem blinds_calCylLoad (m : Nat) : Blinds (execCalCylLoad m) := by
  refine ⟨_, fun _ => rfl, (blind_refuse.ite (Blind.arg (a := fun s => s.wen.frameForce) (f := fun o s => match o with
    | none => refuse 0x1E .state s
    | some f => if (massInGrapple s && cylinderReadable s) = true then
        answer 0x1E .accepted [] (startCylLoad f.band m) s
      else refuse 0x1E .state s) (fun o => ?_) fun _ _ => rfl) fun _ _ => Iff.rfl).ite blind_refuse fun _ _ => Iff.rfl⟩
  cases o with
  | none => exact blind_refuse
  | some f => exact (blind_act (blind_startCylLoad _ _)).ite blind_refuse fun _ _ => Iff.rfl

theorem blinds_calAbort : Blinds execCalAbort :=
  ⟨_, fun _ => rfl, (blind_act (blind_failCapture _)).ite blind_refuse fun _ _ => Iff.rfl⟩

/-! ## TAL and LOG -/

theorem blinds_selectAssortment (i : Nat) : Blinds (execSelectAssortment i) :=
  ⟨_, fun _ => rfl, Blind.dite (fun _ => Blind.ite (blind_act ⟨fun _ _ => rfl, fun _ => rfl⟩) blind_refuse fun _ _ => Iff.rfl)
    fun _ => blind_refuse⟩

theorem blinds_defineAssortment (i : Nat) (l : List Byte) : Blinds (execDefineAssortment i l) :=
  ⟨_, fun _ => rfl, blind_refuse.ite (Blind.dite (fun _ => blind_refuse.ite (blind_refuse.ite (blind_refuse.ite
    (blind_act ⟨fun _ _ => rfl, fun _ => rfl⟩) fun _ _ => Iff.rfl) fun _ _ => Iff.rfl) fun _ _ => Iff.rfl)
    fun _ => blind_refuse) fun _ _ => Iff.rfl⟩

theorem blinds_setTarget (f : TargetFields) : Blinds (execSetTarget f) := by
  refine ⟨_, fun _ => rfl, ?_⟩
  cases targetOfFields f with
  | none => exact blind_refuse
  | some x => exact blind_refuse.ite (blind_act ⟨fun _ _ => rfl, fun _ => rfl⟩) fun _ _ => Iff.rfl

theorem blinds_closeLoad : Blinds execCloseLoad := by
  refine ⟨_, fun _ => rfl, Blind.arg (a := fun s => s.tal.load) (f := fun o s => match o with
    | none => refuse 0x2D .state s
    | some l => answer 0x2D .ok (u16 l.number ++ u32 l.total) (closeLoad .command) s) (fun o => ?_) fun _ _ => rfl⟩
  cases o with
  | none => exact blind_refuse
  | some l => exact blind_act (blind_closeLoad _)

theorem blinds_readAssortment (i : Nat) : Blinds (execReadAssortment i) :=
  ⟨_, fun _ => rfl, Blind.dite (fun _ => blind_read fun _ _ => rfl) fun _ => blind_refuse⟩

theorem blinds_readLoadHistory (p o : Nat) : Blinds (execReadLoadHistory p o) := by
  refine ⟨_, fun _ => rfl, Blind.ite (Blind.arg (a := fun s => s.tal.history[p]?) (f := fun y s => match y with
    | none => refuse 0x30 .state s
    | some z => answer 0x30 .ok (summaryBytes s.tal.history.length z o) id s) (fun y => ?_) fun _ _ => rfl) blind_refuse
    fun _ _ => Iff.rfl⟩
  cases y with
  | none => exact blind_refuse
  | some z => exact blind_read fun _ _ => rfl

theorem blinds_setLog (f : EnableFields) : Blinds (execSetLog f) := by
  refine ⟨_, fun _ => rfl, ?_⟩
  cases enablesOfFields f with
  | none => exact blind_refuse
  | some e => exact blind_act ⟨fun _ _ => rfl, fun _ => rfl⟩

theorem blinds_readLog (n : Nat) : Blinds (execReadLog n) :=
  ⟨_, fun _ => rfl, Blind.ite (blind_answer ⟨fun _ _ => rfl, fun _ => rfl⟩ fun _ _ => rfl) blind_refuse fun _ _ => Iff.rfl⟩

/-! ## MLM, VDR, STO and CLP -/

theorem blinds_setLimiter (x : LimiterSettings) : Blinds (execSetLimiter x) :=
  ⟨_, fun _ => rfl, (blind_act (blind_evaluate.comp (f := fun s => { s with mlm := { s.mlm with limiter := x } })
    ⟨fun _ _ => rfl, fun _ => rfl⟩)).ite blind_refuse fun _ _ => Iff.rfl⟩

theorem blinds_lever (d : List Int) : Blinds (execLever d) := by
  refine ⟨_, fun _ => rfl, ?_⟩
  cases demandsOf d with
  | none => exact blind_refuse
  | some x => exact (blind_takeLever x).ite .id fun _ _ => Iff.rfl

theorem blinds_setSection (v : Nat) (x : SectionSettings) : Blinds (execSetSection v x) := by
  refine ⟨_, fun _ => rfl, ?_⟩
  cases Section.choice v with
  | none => exact blind_refuse
  | some l => exact Blind.ite (blind_act ⟨fun _ _ => rfl, fun _ => rfl⟩) blind_refuse fun _ _ => Iff.rfl

theorem blinds_readSection (v : Nat) : Blinds (execReadSection v) := by
  refine ⟨_, fun _ => rfl, ?_⟩
  cases Section.ofCode v with
  | none => exact blind_refuse
  | some v => exact blind_read fun _ _ => rfl

theorem blinds_saveSettings : Blinds execSaveSettings :=
  ⟨_, fun _ => rfl, blind_refuse.ite (Blind.arg (a := fun s => StoreWrite.save (currentSettings s) s.wen.calibration .settings)
    (f := fun w s => answer 0x50 .accepted [] (beginWrite w) s) (fun w => blind_act (blind_beginWrite w)) fun _ _ => rfl)
    fun _ _ => Iff.rfl⟩

theorem blinds_profileSet (m : Nat) (f : ProfileFields) : Blinds (execProfileSet m f) :=
  ⟨_, fun _ => rfl, (blind_refuse.ite (blind_refuse.ite (Blind.arg (a := fun s => profileAfterSet m f s.sto.working)
    (f := fun p s => answer 0x51 .accepted (u16 (profileIgnored m f))
      (fun s => beginWrite (.profile .set p) (changeProfile p s)) s)
    (fun p => blind_act ((blind_beginWrite _).comp (blind_changeProfile p))) fun _ _ => rfl) fun _ _ => Iff.rfl)
    fun _ _ => Iff.rfl).ite blind_refuse fun _ _ => Iff.rfl⟩

theorem blinds_profileRestore : Blinds execProfileRestore :=
  ⟨_, fun _ => rfl, blind_refuse.ite (blind_refuse.ite (blind_act ((blind_beginWrite _).comp (blind_changeProfile _)))
    fun _ _ => Iff.rfl) fun _ _ => Iff.rfl⟩

theorem blinds_profileFreeze : Blinds execProfileFreeze :=
  ⟨_, fun _ => rfl, blind_refuse.ite (blind_refuse.ite (blind_act ⟨fun _ _ => rfl, fun _ => rfl⟩) fun _ _ => Iff.rfl)
    fun _ _ => Iff.rfl⟩

theorem blinds_clearConditions (m : BitVec 32) : Blinds (execClearConditions m) :=
  ⟨_, fun _ => rfl, (blind_answer (blind_clearConditions _) fun s r => by
    rw [(blind_clearConditions (m.truncate 30)).receiving]
    rfl).ite blind_refuse fun _ _ => Iff.rfl⟩

theorem blinds_setCabLine (p : Nat) (m : List Nat) : Blinds (execSetCabLine p m) := by
  refine ⟨_, fun _ => rfl, blind_refuse.ite ?_ fun _ _ => Iff.rfl⟩
  cases cabOfFields p m with
  | none => exact blind_refuse
  | some x => exact blind_act ⟨fun _ _ => rfl, fun _ => rfl⟩

theorem blinds_restart : Blinds execRestart :=
  ⟨_, fun _ => rfl, blind_refuse.ite (blind_act ⟨fun _ _ => rfl, fun _ => rfl⟩) fun _ _ => Iff.rfl⟩

/-- A request whose settings are taken when they are accepted, and refused otherwise. -/
theorem blind_taken {p : Prop} [Decidable p] {j y : Byte} {a b : Status} {e : State → State} (he : Blind e) :
    Blind fun s => if p then answer j a [] e s else refuse y b s := (blind_act he).ite blind_refuse fun _ _ => Iff.rfl

/-! ## Every request and every frame -/

theorem blinds_requestMeaning (i : Instr) : Blinds (requestMeaning i) := by
  cases i with
  | setChannel i x => exact blinds_setChannel i x
  | readChannel i => exact blinds_readChannel i
  | setLine l m e => exact blinds_setLine l m e
  | writeLines m l => exact blinds_writeLines m l
  | setTipLink e r => exact blinds_setTipLink e r
  | linkRestart => exact ⟨_, fun _ => rfl, blind_act blind_freshBringUp⟩
  | reportTipErrors => exact blinds_reportTipErrors
  | setWeigh f => exact blinds_setWeigh f
  | setCalibration f => exact blinds_setCalibration f
  | calZero => exact blinds_calZero
  | calSpan m => exact blinds_calSpan m
  | calCylEmpty => exact blinds_calCylEmpty
  | calCylLoad m => exact blinds_calCylLoad m
  | calAbort => exact blinds_calAbort
  | selectAssortment i => exact blinds_selectAssortment i
  | defineAssortment i l => exact blinds_defineAssortment i l
  | setTarget f => exact blinds_setTarget f
  | closeLoad => exact blinds_closeLoad
  | readAssortment i => exact blinds_readAssortment i
  | readLoadHistory p o => exact blinds_readLoadHistory p o
  | mark => exact ⟨_, fun _ => rfl, blind_answer blind_makeMark fun _ _ => rfl⟩
  | setLog f => exact blinds_setLog f
  | readLog n => exact blinds_readLog n
  | setLimiter x => exact blinds_setLimiter x
  | lever d => exact blinds_lever d
  | setSection v x => exact blinds_setSection v x
  | readSection v => exact blinds_readSection v
  | saveSettings => exact blinds_saveSettings
  | profileSet m f => exact blinds_profileSet m f
  | profileRestore => exact blinds_profileRestore
  | profileFreeze => exact blinds_profileFreeze
  | clearConditions m => exact blinds_clearConditions m
  | readConditions => exact ⟨_, fun _ => rfl, blind_answer ⟨fun _ _ => rfl, fun _ => rfl⟩ fun _ _ => rfl⟩
  | setCabLine p m => exact blinds_setCabLine p m
  | restart => exact blinds_restart
  | setGeometry | setZones | setLift | setHorn =>
    exact ⟨_, fun _ => rfl, blind_taken ⟨fun _ _ => rfl, fun _ => rfl⟩⟩
  | holdTally | releaseTally | setClock => exact ⟨_, fun _ => rfl, blind_act ⟨fun _ _ => rfl, fun _ => rfl⟩⟩
  | readLines | readTipLink | readGeometry | readWeigh | readLift | readLoad | readClock | readLogStatus | readLimiter
  | profileIdentify | identify | readStore => exact ⟨_, fun _ => rfl, blind_read fun _ _ => rfl⟩
  | _ => exact ⟨_, fun _ => rfl, .id⟩

theorem blind_dispatchFrame (f : CabRecord) : Blind (dispatchFrame f) := by
  have h (d : FrameContent) : Blind fun s => match d with
      | .badKind => refuse f.kind .badKind s
      | .badLength => refuse f.kind .badLength s
      | .request i => outcomeState s (requestMeaning i s) := by
    cases d with
    | badKind => exact blind_refuse
    | badLength => exact blind_refuse
    | request i =>
      obtain ⟨g, hg, hb⟩ := blinds_requestMeaning i
      have he : (fun s => outcomeState s (requestMeaning i s)) = g := funext fun s => by
        rw [hg]
        rfl
      exact he ▸ hb
  exact h (decodeRequest f.kind f.payload)

/-- Frames dispatched in their order. -/
def dispatchAll (l : List CabRecord) (s : State) : State := l.foldl (fun s f => dispatchFrame f s) s

theorem blind_dispatchAll (l : List CabRecord) : Blind (dispatchAll l) := by
  induction l with
  | nil => exact .id
  | cons f l ih => exact ih.comp (blind_dispatchFrame f)

theorem dispatchAll_powered (l : List CabRecord) (s : State) : (dispatchAll l s).powered = s.powered := by
  induction l generalizing s with
  | nil => rfl
  | cons f l ih => exact (ih _).trans (acts_dispatchFrame f s).moves.powered

/-- The receiver's new state, and behind it the frames: in either order. -/
theorem takeReceived_eq (r : Receiver × List CabRecord) (s : State) :
    takeReceived r s = (dispatchAll r.2 s).receiving r.1 := (blind_dispatchAll r.2).receiving s r.1

end Sys2Proof.Machine
end

section
/-! PROOF. The receiver hunts and rescans (R193). -/

namespace Sys2Proof.Machine

variable {s : State} {r r' : Receiver} {b : Byte} {bs cs : List Byte}

/-! ## Bytes taken to their end -/

/-- More steps than any rescan of these bytes takes: each rescan has a byte fewer than the one before. -/
def Receiver.work (r : Receiver) (bs : List Byte) : Nat := bs.length + (r.kept.length + bs.length) * (r.kept.length + bs.length)

theorem take_going_kept (h : r.take b = .going r') :
    r'.kept.length ≤ r.kept.length + 1 ∧ r'.sinceByte.getD 0 = 0 := by
  unfold Receiver.take at h
  dsimp only at h
  split at h
  · split at h <;> cases h <;> exact ⟨by simp [Receiver.idle], rfl⟩
  · split at h <;> cases h
    exact ⟨by simp, rfl⟩
  · split at h <;> cases h <;> exact ⟨by simp, rfl⟩
  · split at h
    · cases h
      exact ⟨by simp, rfl⟩
    · unfold judgeCrc at h
      dsimp only at h
      split at h <;> cases h

theorem take_discarded_kept {kept : List Byte} (h : r.take b = .discarded kept) : kept = r.kept ++ [b] := by
  unfold Receiver.take at h
  dsimp only at h
  split at h
  · split at h <;> cases h
  · split at h <;> cases h
    rfl
  · split at h <;> cases h
  · split at h
    · cases h
    · unfold judgeCrc at h
      dsimp only at h
      split at h <;> cases h
      rfl

theorem work_going (h : r.take b = .going r') : r'.work bs + 1 ≤ r.work (b :: bs) := by
  obtain ⟨hk, -⟩ := take_going_kept h
  unfold Receiver.work
  rw [List.length_cons]
  have hle : r'.kept.length + bs.length ≤ r.kept.length + (bs.length + 1) := by omega
  have := Nat.mul_le_mul hle hle
  omega

theorem work_fewer {n m : Nat} (hl : r'.kept.length = 0) (hn : bs.length = n) (hm : n + 1 ≤ m + r.kept.length + 1)
    (hc : cs.length = m) : r'.work bs + 1 ≤ r.work (b :: cs) := by
  unfold Receiver.work
  rw [hl, List.length_cons, hn, hc]
  have hle : n + 1 ≤ r.kept.length + (m + 1) := by omega
  have hmul := Nat.mul_le_mul hle hle
  have hsq : (n + 1) * (n + 1) = n * n + 2 * n + 1 := by ring
  rw [Nat.zero_add]
  omega

theorem work_discarded {kept : List Byte} (h : r.take b = .discarded kept) :
    Receiver.idle.work (kept.drop 1 ++ bs) + 1 ≤ r.work (b :: bs) := by
  rw [take_discarded_kept h]
  refine work_fewer (n := r.kept.length + bs.length) (m := bs.length) rfl ?_ (by omega) rfl
  simp

theorem work_complete : Receiver.idle.work bs + 1 ≤ r.work (b :: bs) :=
  work_fewer (n := bs.length) (m := bs.length) rfl rfl (by omega) rfl

theorem feed_discarded {n : Nat} {kept : List Byte} (h : r.take b = .discarded kept) :
    Receiver.feed (n + 1) r (b :: bs) = Receiver.feed n .idle (kept.drop 1 ++ bs) := by
  rw [Receiver.feed, h]

/-- Past its work, the fuel does not matter. -/
theorem feed_stable (n m : Nat) (hn : r.work bs ≤ n) (hm : r.work bs ≤ m) :
    Receiver.feed n r bs = Receiver.feed m r bs := by
  induction n generalizing m r bs with
  | zero =>
    cases bs with
    | nil => rw [feed_nil, feed_nil]
    | cons b bs => simp [Receiver.work] at hn
  | succ n ih =>
    cases bs with
    | nil => rw [feed_nil, feed_nil]
    | cons b bs =>
      obtain ⟨m, rfl⟩ : ∃ k, m = k + 1 := ⟨m - 1, by simp [Receiver.work] at hm; omega⟩
      cases h : r.take b with
      | going r' =>
        have hw := work_going (bs := bs) h
        rw [feed_going h, feed_going h, ih m (by omega) (by omega)]
      | discarded kept =>
        have hw := work_discarded (bs := bs) h
        rw [feed_discarded h, feed_discarded h, ih m (by omega) (by omega)]
      | complete f =>
        have hw := work_complete (r := r) (b := b) (bs := bs)
        rw [feed_complete h, feed_complete h, ih m (by omega) (by omega)]

/-- The receiver after bytes taken one after another, with every rescan, and the frames they complete. -/
def Receiver.takes (r : Receiver) (bs : List Byte) : Receiver × List CabRecord := Receiver.feed (r.work bs) r bs

theorem feed_eq_takes {n : Nat} (h : r.work bs ≤ n) : Receiver.feed n r bs = r.takes bs := feed_stable n _ h (Nat.le_refl _)

theorem takes_nil (r : Receiver) : r.takes [] = (r, []) := feed_nil _ r

theorem takes_going (h : r.take b = .going r') : r.takes (b :: bs) = r'.takes bs := by
  have hw := work_going (bs := bs) h
  rw [← feed_eq_takes (n := r'.work bs + 1 + r.work (b :: bs)) (by omega), Nat.add_right_comm, feed_going h,
    feed_eq_takes (by omega)]

theorem takes_discarded {kept : List Byte} (h : r.take b = .discarded kept) :
    r.takes (b :: bs) = Receiver.idle.takes (kept.drop 1 ++ bs) := by
  have hw := work_discarded (bs := bs) h
  rw [← feed_eq_takes (n := Receiver.idle.work (kept.drop 1 ++ bs) + 1 + r.work (b :: bs)) (by omega),
    Nat.add_right_comm, feed_discarded h, feed_eq_takes (by omega)]

theorem takes_complete {f : CabRecord} (h : r.take b = .complete f) :
    r.takes (b :: bs) = ((Receiver.idle.takes bs).1, f :: (Receiver.idle.takes bs).2) := by
  have hw := work_complete (r := r) (b := b) (bs := bs)
  rw [← feed_eq_takes (n := Receiver.idle.work bs + 1 + r.work (b :: bs)) (by omega), Nat.add_right_comm,
    feed_complete h, feed_eq_takes (by omega)]

/-- The recursion of the receiver over its bytes and rescans. -/
theorem takes_induction {P : Receiver → List Byte → Prop} (nil : ∀ r, P r [])
    (going : ∀ r b bs r', r.take b = .going r' → P r' bs → P r (b :: bs))
    (discarded : ∀ r b bs kept, r.take b = .discarded kept → P .idle (kept.drop 1 ++ bs) → P r (b :: bs))
    (complete : ∀ r b bs f, r.take b = .complete f → P .idle bs → P r (b :: bs)) (r : Receiver) (bs : List Byte) :
    P r bs := by
  generalize hn : r.work bs = n
  induction n using Nat.strong_induction_on generalizing r bs with
  | _ n ih =>
    cases bs with
    | nil => exact nil r
    | cons b bs =>
      cases h : r.take b with
      | going r' =>
        have hw := work_going (bs := bs) h
        exact going r b bs r' h (ih _ (by omega) _ _ rfl)
      | discarded kept =>
        have hw := work_discarded (bs := bs) h
        exact discarded r b bs kept h (ih _ (by omega) _ _ rfl)
      | complete f =>
        have hw := work_complete (r := r) (b := b) (bs := bs)
        exact complete r b bs f h (ih _ (by omega) _ _ rfl)

theorem takes_append (r : Receiver) (bs cs : List Byte) : r.takes (bs ++ cs)
    = (((r.takes bs).1.takes cs).1, (r.takes bs).2 ++ ((r.takes bs).1.takes cs).2) := by
  induction r, bs using takes_induction with
  | nil r => rw [takes_nil]; rfl
  | going r b bs r' h ih => rw [List.cons_append, takes_going h, takes_going h, ih]
  | discarded r b bs kept h ih =>
    rw [List.cons_append, takes_discarded h, takes_discarded h, ← List.append_assoc, ih]
  | complete r b bs f h ih => rw [List.cons_append, takes_complete h, takes_complete h, ih]; rfl

/-- A byte taken is the last byte received. -/
theorem takes_sinceByte (h : r.sinceByte.getD 0 ≤ 5) : (r.takes bs).1.sinceByte.getD 0 ≤ 5 := by
  induction r, bs using takes_induction with
  | nil r => rwa [takes_nil]
  | going r b bs r' ht ih =>
    rw [takes_going ht]
    exact ih (by rw [(take_going_kept ht).2]; exact Nat.zero_le 5)
  | discarded r b bs kept ht ih =>
    rw [takes_discarded ht]
    exact ih (Nat.zero_le 5)
  | complete r b bs f ht ih =>
    rw [takes_complete ht]
    exact ih (Nat.zero_le 5)

theorem receive_takes (h : r.sinceByte.getD 0 ≤ 5) : r.receive b = r.takes [b] := by
  rw [receive_in_time h]
  refine feed_eq_takes ?_
  unfold Receiver.work feedFuel
  rw [List.length_singleton]
  generalize r.kept.length + 1 = n
  have hsq : (n + 1) * (n + 1) = n * n + 2 * n + 1 := by ring
  omega

theorem stopError_takes (h : r.sinceByte.getD 0 ≤ 5) : r.stopError
    = ((Receiver.idle.takes (r.kept.drop 1)).1.sinceLast r.sinceByte, (Receiver.idle.takes (r.kept.drop 1)).2) := by
  have hw : Receiver.idle.work (r.kept.drop 1) ≤ feedFuel r.kept.length := by
    unfold Receiver.work feedFuel
    rw [show Receiver.idle.kept.length = 0 from rfl, Nat.zero_add, List.length_drop]
    have := Nat.mul_le_mul (Nat.sub_le r.kept.length 1) (Nat.sub_le r.kept.length 1)
    rw [Nat.add_mul, Nat.mul_add]
    omega
  unfold Receiver.stopError
  rw [if_neg (Nat.not_lt.2 h), feed_eq_takes hw]

/-! ## Bytes received one after another -/

/-- Bytes received in time are taken as one run, with their frames dispatched as they complete. -/
theorem receiveAll_takes (bs : List Byte) (r : Receiver) (s : State) (hp : s.powered = true) (hs : s.clp.started = true)
    (h : r.sinceByte.getD 0 ≤ 5) : receiveAll bs (s.receiving r) = .next (takeReceived (r.takes bs) s) := by
  induction bs generalizing r s with
  | nil =>
    rw [takes_nil]
    rfl
  | cons b bs ih =>
    have he : exec (.cabLineByteReceived b) (s.receiving r)
        = .next ((dispatchAll (r.takes [b]).2 s).receiving (r.takes [b]).1) := by
      rw [exec_byteReceived (s := s.receiving r) hp hs, show (s.receiving r).clp.receiver = r from rfl, receive_takes h,
        takeReceived_eq, (blind_dispatchAll _).receiving]
      rfl
    have happ := takes_append r [b] bs
    rw [List.singleton_append] at happ
    rw [receiveAll_cons he, ih _ _ ((dispatchAll_powered _ s).trans hp) (((blind_dispatchAll _).started s).trans hs)
      (takes_sinceByte h), happ, takeReceived_eq, takeReceived_eq]
    simp only [dispatchAll, List.foldl_append]

theorem receiveAll_idle (bs : List Byte) (hp : s.powered = true) (hs : s.clp.started = true) :
    receiveAll bs (s.receiving .idle) = .next (takeReceived (Receiver.idle.takes bs) s) :=
  receiveAll_takes bs .idle s hp hs (Nat.zero_le 5)

/-- A byte that discards the frame in progress: what was kept, and the byte, are taken again from HUNT. -/
theorem exec_discards {sync : Byte} {kept : List Byte} (hp : s.powered = true) (hs : s.clp.started = true)
    (hg : s.clp.receiver.sinceByte.getD 0 ≤ 5) (hk : s.clp.receiver.kept = sync :: kept)
    (h : s.clp.receiver.take b = .discarded (s.clp.receiver.kept ++ [b])) :
    exec (.cabLineByteReceived b) s = receiveAll (kept ++ [b]) (s.receiving .idle) := by
  rw [exec_byteReceived hp hs, receive_takes hg, takes_discarded h, hk, receiveAll_idle _ hp hs, List.append_nil]
  rfl

theorem take_length_discarded (hx : r.state = .length) (hb : b = 0 ∨ 64 < b.toNat) :
    r.take b = .discarded (r.kept ++ [b]) := by
  have hn : ¬Nat.inRange 1 64 b.toNat = true := by
    rw [Nat.inRange, Bool.and_eq_true, decide_eq_true_iff, decide_eq_true_iff]
    rcases hb with rfl | hb
    · simp
    · omega
  unfold Receiver.take
  rw [hx]
  exact if_neg hn

theorem take_check_discarded {n sync h : Byte} {body : List Byte} (hx : r.state = .check) (hl : body.length = n.toNat)
    (hk : r.kept = sync :: (n :: body ++ [h])) (hc : (crc16 (n :: body)).toNat ≠ h.toNat * 256 + b.toNat) :
    r.take b = .discarded (r.kept ++ [b]) := by
  have hlen : keptLength (r.kept ++ [b]) = n.toNat := by rw [hk]; rfl
  have hfull : ¬(r.kept ++ [b]).length < keptLength (r.kept ++ [b]) + 4 := by
    rw [hlen, hk]
    simp only [List.length_append, List.length_cons, List.length_nil, hl]
    omega
  have hbody : ((r.kept ++ [b]).drop 1).take (keptLength (r.kept ++ [b]) + 1) = n :: body := by
    rw [hlen, hk, ← hl]
    simp
  have hcrc : u16At (r.kept ++ [b]) (keptLength (r.kept ++ [b]) + 2) = h.toNat * 256 + b.toNat := by
    rw [hlen, hk, ← hl]
    simp [u16At, byteAt, List.getD_eq_getElem?_getD]
  unfold Receiver.take
  rw [hx]
  dsimp only
  rw [if_neg hfull]
  unfold judgeCrc
  dsimp only
  rw [hbody, hcrc, if_neg hc]

/-- A byte in HUNT, or after a gap (R193). -/
theorem receive_hunting (h : (∃ n, r.sinceByte = some n ∧ 5 < n) ∨ r.state = .hunt) :
    r.receive b = (if b = 0xA5 then ⟨.length, [0xA5], some 0⟩ else .idle, []) := by
  have take {x : Receiver} (hx : x.state = .hunt) :
      x.take b = .going (if b = 0xA5 then ⟨.length, [0xA5], some 0⟩ else .idle) := by
    unfold Receiver.take
    rw [hx]
    by_cases hb : b = 0xA5
    · rw [hb]
      rfl
    · simp only [if_neg hb]
  by_cases hg : 5 < r.sinceByte.getD 0
  · have hr : r.receive b = Receiver.feed 1 .idle [b] := if_pos hg
    rw [hr, feed_going (take rfl), feed_nil]
  · have hx : r.state = .hunt := h.resolve_left fun ⟨n, hn, h5⟩ => hg (by rw [hn]; exact h5)
    exact receive_going (Nat.not_lt.1 hg) (take hx)

theorem stopError_idle (h : r.kept = [] ∨ ∃ n, r.sinceByte = some n ∧ 5 < n) : r.stopError = (.idle, []) := by
  by_cases hg : 5 < r.sinceByte.getD 0
  · exact if_pos hg
  · have hk : r.kept = [] := h.resolve_right fun ⟨n, hn, h5⟩ => hg (by rw [hn]; exact h5)
    rw [stopError_takes (Nat.not_lt.1 hg), hk, List.drop_nil, takes_nil]
    rfl

theorem sinceByte_in_time (h : ∀ n, r.sinceByte = some n → n ≤ 5) : r.sinceByte.getD 0 ≤ 5 := by
  cases hs : r.sinceByte with
  | none => exact Nat.zero_le 5
  | some n => exact h n hs

theorem exec_discardFrame (hp : s.powered = true) (hs : s.clp.started = true) :
    exec .cabFrameDiscarded s = .next (takeReceived s.clp.receiver.stopError s) :=
  exec_powered hp (if_pos hs)

/-- Settles O7: a rescan is a run of bytes from HUNT, and the requests it completes do not see the receiver. -/
theorem receiverHuntsAndRescans : Obligations.ReceiverHuntsAndRescans := by
  refine ⟨fun s hp => ⟨exec_powered hp rfl, fun hs h => ?_, fun b hs h => ?_⟩,
    fun s hp => ⟨fun hs hg sync kept hk => ?_, fun hs b => ?_⟩⟩
  · rw [exec_discardFrame hp hs, stopError_idle h]
    rfl
  · rw [exec_byteReceived hp hs, receive_hunting h]
    rfl
  · intro hunting
    have hin := sinceByte_in_time hg
    refine ⟨⟨_, receiveAll_idle kept hp hs, ?_⟩, fun b hx hb => ?_, fun n h b body hx hl hkept hc => ?_⟩
    · rw [exec_discardFrame hp hs, stopError_takes hin, hk, takeReceived_eq, takeReceived_eq]
      simp only [List.drop_succ_cons, List.drop_zero]
      generalize Receiver.idle.takes kept = x
      show Host.Outcome.next ((dispatchAll x.2 s).receiving (x.1.sinceLast s.clp.receiver.sinceByte)) = .next
        ((dispatchAll x.2 s).receiving { x.1 with sinceByte := if x.1.kept = [] then none else s.clp.receiver.sinceByte })
      simp only [Receiver.sinceLast, List.isEmpty_iff]
    · exact exec_discards hp hs hin hk (take_length_discarded hx hb)
    · exact exec_discards hp hs hin hk (take_check_discarded hx hl (by rw [hk, hkept]) hc)
  · exact exec_powered hp (if_neg (by rw [hs]; nofun))

end Sys2Proof.Machine
end
